-- ==== Sys2Proof/Word.lean ====
section
/-! DEFINITION. The word types of the Intel 80386 and their plainest arithmetic (spec 00_scope.md R7:
a byte is 8 bits, a word 16, a doubleword 32, bit 0 the least significant). -/

namespace Sys2Proof

/-- A byte, 8 bits (00_scope.md R7). -/
abbrev Byte := BitVec 8

/-- A word, 16 bits (00_scope.md R7): selectors, ports, 16-bit registers. -/
abbrev Word := BitVec 16

/-- A doubleword, 32 bits (00_scope.md R7): general registers, offsets, linear addresses. -/
abbrev Dword := BitVec 32

/-- An operand-size or address-size attribute, 16 or 32 (30_encoding.md R123). -/
inductive Sz where
  | s16
  | s32
  deriving DecidableEq, Repr

/-- The width of one datum: byte, word or doubleword (20_memory.md R83). -/
inductive Width where
  | b8
  | b16
  | b32
  deriving DecidableEq, Repr

/-- The number of bits of a datum. -/
abbrev Width.bits : Width → Nat
  | .b8 => 8
  | .b16 => 16
  | .b32 => 32

/-- The number of bytes of a datum. -/
abbrev Width.bytes : Width → Nat
  | .b8 => 1
  | .b16 => 2
  | .b32 => 4

/-- The data width an operand-size attribute selects (30_encoding.md R123). -/
abbrev Sz.width : Sz → Width
  | .s16 => .b16
  | .s32 => .b32

/-- The number of bits of a size attribute. -/
abbrev Sz.bits : Sz → Nat
  | .s16 => 16
  | .s32 => 32

/-- The number of bytes of a size attribute (OS/8). -/
abbrev Sz.bytes : Sz → Nat
  | .s16 => 2
  | .s32 => 4

/-- The other size attribute: what a 66 or 67 prefix selects (30_encoding.md R123). -/
def Sz.other : Sz → Sz
  | .s16 => .s32
  | .s32 => .s16

end Sys2Proof
end

