-- ==== Sys2Proof/Config.lean ====
section
/-! DEFINITION. What an implementation or the platform fixes (spec 92_eei_decisions.md, "Named parameters")
and the free values the spec leaves open (00_scope.md R13). A free value is opaque: nothing can be proved of it. -/

namespace Sys2Proof

/-- The free values: the n-th unspecified value of a run (`UNDEF_N`, 00_scope.md R13) is made of the low bits of
`freeWord n`. Log entry 4. -/
opaque Config.freeWord : Nat → BitVec 64

/-- The platform's answer to the n-th input: a read of the given width at the given port
(42_i.md R272 `PortRead`, 92_eei_decisions.md D17). Log entry 5. -/
opaque Config.portRead : Nat → Word → Width → Dword

/-- Whether ARPL makes the nonwritable-segment check when it changes nothing: the spec does not say
(40_a_b.md R207, 93_implementation_defined.md U1). Log entry 25. -/
opaque Config.arplChecksWrite : Bool

/-- EAX after reset: 0 if the self test was requested and passed (10_state.md R30). Log entry 2. -/
def Config.resetEAX : Dword := 0x00000000#32

/-- EDX after reset: DH = 3 is the component identifier, DL the stepping (10_state.md R30). Log entry 2. -/
def Config.resetEDX : Dword := 0x00000300#32

/-- CR0.ET after reset: 1 if an 80387 was detected, by default 0 (10_state.md R30). Log entry 2. -/
def Config.resetET : Bool := false

/-- The vector of a stack-segment limit violation in Real Address Mode and V86 mode (20_memory.md R93,
92_eei_decisions.md D23). Log entry 12. -/
def Config.realModeStackFaultVector : Byte := 13#8

/-- Bytes of the instruction prefetch queue (00_scope.md R5, 92_eei_decisions.md D4). Log entry 12. -/
def Config.prefetchDepth : Nat := 16

/-- The longest instruction, prefixes included (30_encoding.md R124). -/
def Config.maxInstrLength : Nat := 15

end Sys2Proof
end

