-- ==== Sys2Proof/Syntax.lean ====
section
/-! DEFINITION. The instructions of the 80386, one constructor of `Instr` per row of spec/opcode_table.json, and their
operand forms (30_encoding.md). A constructor that carries a `Sz` named `os` or `as` depends on the operand-size or
address-size attribute the instruction was decoded with (R123). -/

namespace Sys2Proof

/-- The eight general registers by number, in the order of 10_state.md R32. At byte width the numbers 4 to 7 are
AH, CH, DH, BH. -/
inductive Reg where
  | ax | cx | dx | bx | sp | bp | si | di
  deriving DecidableEq, Repr

/-- The six segment registers (10_state.md R40). -/
inductive Sreg where
  | es | cs | ss | ds | fs | gs
  deriving DecidableEq, Repr

/-- The control registers an instruction can name (45_m_n_o.md R366). -/
inductive CReg where
  | cr0 | cr2 | cr3
  deriving DecidableEq, Repr

/-- The debug registers an instruction can name (45_m_n_o.md R367). -/
inductive DReg where
  | dr0 | dr1 | dr2 | dr3 | dr6 | dr7
  deriving DecidableEq, Repr

/-- The test registers an instruction can name (45_m_n_o.md R368). -/
inductive TReg where
  | tr6 | tr7
  deriving DecidableEq, Repr

/-- The register part of a 16-bit effective address (30_encoding.md R131), in the order of the rm field. -/
inductive Base16 where
  | bxsi | bxdi | bpsi | bpdi | si | di | bp | bx
  deriving DecidableEq, Repr

/-- The displacement of a 16-bit effective address that has registers (30_encoding.md R131). -/
inductive Disp16 where
  | none
  | d8 (d : Byte)
  | d16 (d : Word)
  deriving DecidableEq, Repr

/-- The displacement of a 32-bit effective address that has a base register (30_encoding.md R132). -/
inductive Disp32 where
  | none
  | d8 (d : Byte)
  | d32 (d : Dword)
  deriving DecidableEq, Repr

/-- A memory operand as ModRM and SIB encode it (30_encoding.md R131 to R133). In `sib` and `sibNoBase` the index `sp`
(number 4) stands for "no index". -/
inductive Mem where
  | direct16 (d : Word)
  | based16 (b : Base16) (d : Disp16)
  | direct32 (d : Dword)
  | based32 (b : Reg) (d : Disp32)
  | sib (scale : BitVec 2) (index base : Reg) (d : Disp32)
  | sibNoBase (scale : BitVec 2) (index : Reg) (d : Dword)
  deriving DecidableEq, Repr

/-- An r/m operand (30_encoding.md R130): a register (mod = 11) or memory. -/
inductive Rm where
  | reg (r : Reg)
  | mem (m : Mem)
  deriving DecidableEq, Repr

/-- A 16-bit or 32-bit value in the instruction: an immediate or a relative offset whose width follows OS
(30_encoding.md R144, R145), or a `moffs` offset whose width follows AS (R136). -/
inductive Imm where
  | i16 (v : Word)
  | i32 (v : Dword)
  deriving DecidableEq, Repr

/-- A far pointer in the instruction, offset first (30_encoding.md R146). -/
inductive FarPtr where
  | p16 (off sel : Word)
  | p32 (off : Dword) (sel : Word)
  deriving DecidableEq, Repr

/-- The instructions: one constructor per row of spec/opcode_table.json, in the table's order. -/
inductive Instr where
  /-- LOCK: `F0`, R340. -/
  | lockPrefix
  /-- REPNE_REPNZ: `F2`, R420. -/
  | repnePrefix
  /-- REP_REPE_REPZ: `F3`, R420. -/
  | repPrefix
  /-- ES:: `26`, R121. -/
  | esPrefix
  /-- CS:: `2E`, R121. -/
  | csPrefix
  /-- SS:: `36`, R121. -/
  | ssPrefix
  /-- DS:: `3E`, R121. -/
  | dsPrefix
  /-- FS:: `64`, R121. -/
  | fsPrefix
  /-- GS:: `65`, R121. -/
  | gsPrefix
  /-- operand-size: `66`, R121. -/
  | operandSizePrefix
  /-- address-size: `67`, R121. -/
  | addressSizePrefix
  /-- ADD r/m8,r8: `00 /r`, R205. -/
  | addRm8R8 (rm : Rm) (r : Reg)
  /-- ADD r/m16,r16 | r/m32,r32: `01 /r`, R205. -/
  | addRmR (os : Sz) (rm : Rm) (r : Reg)
  /-- ADD r8,r/m8: `02 /r`, R205. -/
  | addR8Rm8 (r : Reg) (rm : Rm)
  /-- ADD r16,r/m16 | r32,r/m32: `03 /r`, R205. -/
  | addRRm (os : Sz) (r : Reg) (rm : Rm)
  /-- ADD AL,imm8: `04 ib`, R205. -/
  | addAlImm8 (b : Byte)
  /-- ADD AX,imm16 | EAX,imm32: `05 iw/id`, R205. -/
  | addAccImm (v : Imm)
  /-- ADD r/m8,imm8: `80 /0 ib`, R205. -/
  | addRm8Imm8 (rm : Rm) (b : Byte)
  /-- ADD r/m16,imm16 | r/m32,imm32: `81 /0 iw/id`, R205. -/
  | addRmImm (rm : Rm) (v : Imm)
  /-- ADD r/m16,imm8 | r/m32,imm8: `83 /0 ib`, R205. -/
  | addRmImm8 (os : Sz) (rm : Rm) (b : Byte)
  /-- OR r/m8,r8: `08 /r`, R380. -/
  | orRm8R8 (rm : Rm) (r : Reg)
  /-- OR r/m16,r16 | r/m32,r32: `09 /r`, R380. -/
  | orRmR (os : Sz) (rm : Rm) (r : Reg)
  /-- OR r8,r/m8: `0A /r`, R380. -/
  | orR8Rm8 (r : Reg) (rm : Rm)
  /-- OR r16,r/m16 | r32,r/m32: `0B /r`, R380. -/
  | orRRm (os : Sz) (r : Reg) (rm : Rm)
  /-- OR AL,imm8: `0C ib`, R380. -/
  | orAlImm8 (b : Byte)
  /-- OR AX,imm16 | EAX,imm32: `0D iw/id`, R380. -/
  | orAccImm (v : Imm)
  /-- OR r/m8,imm8: `80 /1 ib`, R380. -/
  | orRm8Imm8 (rm : Rm) (b : Byte)
  /-- OR r/m16,imm16 | r/m32,imm32: `81 /1 iw/id`, R380. -/
  | orRmImm (rm : Rm) (v : Imm)
  /-- OR r/m16,imm8 | r/m32,imm8: `83 /1 ib`, R380. -/
  | orRmImm8 (os : Sz) (rm : Rm) (b : Byte)
  /-- ADC r/m8,r8: `10 /r`, R204. -/
  | adcRm8R8 (rm : Rm) (r : Reg)
  /-- ADC r/m16,r16 | r/m32,r32: `11 /r`, R204. -/
  | adcRmR (os : Sz) (rm : Rm) (r : Reg)
  /-- ADC r8,r/m8: `12 /r`, R204. -/
  | adcR8Rm8 (r : Reg) (rm : Rm)
  /-- ADC r16,r/m16 | r32,r/m32: `13 /r`, R204. -/
  | adcRRm (os : Sz) (r : Reg) (rm : Rm)
  /-- ADC AL,imm8: `14 ib`, R204. -/
  | adcAlImm8 (b : Byte)
  /-- ADC AX,imm16 | EAX,imm32: `15 iw/id`, R204. -/
  | adcAccImm (v : Imm)
  /-- ADC r/m8,imm8: `80 /2 ib`, R204. -/
  | adcRm8Imm8 (rm : Rm) (b : Byte)
  /-- ADC r/m16,imm16 | r/m32,imm32: `81 /2 iw/id`, R204. -/
  | adcRmImm (rm : Rm) (v : Imm)
  /-- ADC r/m16,imm8 | r/m32,imm8: `83 /2 ib`, R204. -/
  | adcRmImm8 (os : Sz) (rm : Rm) (b : Byte)
  /-- SBB r/m8,r8: `18 /r`, R445. -/
  | sbbRm8R8 (rm : Rm) (r : Reg)
  /-- SBB r/m16,r16 | r/m32,r32: `19 /r`, R445. -/
  | sbbRmR (os : Sz) (rm : Rm) (r : Reg)
  /-- SBB r8,r/m8: `1A /r`, R445. -/
  | sbbR8Rm8 (r : Reg) (rm : Rm)
  /-- SBB r16,r/m16 | r32,r/m32: `1B /r`, R445. -/
  | sbbRRm (os : Sz) (r : Reg) (rm : Rm)
  /-- SBB AL,imm8: `1C ib`, R445. -/
  | sbbAlImm8 (b : Byte)
  /-- SBB AX,imm16 | EAX,imm32: `1D iw/id`, R445. -/
  | sbbAccImm (v : Imm)
  /-- SBB r/m8,imm8: `80 /3 ib`, R445. -/
  | sbbRm8Imm8 (rm : Rm) (b : Byte)
  /-- SBB r/m16,imm16 | r/m32,imm32: `81 /3 iw/id`, R445. -/
  | sbbRmImm (rm : Rm) (v : Imm)
  /-- SBB r/m16,imm8 | r/m32,imm8: `83 /3 ib`, R445. -/
  | sbbRmImm8 (os : Sz) (rm : Rm) (b : Byte)
  /-- AND r/m8,r8: `20 /r`, R206. -/
  | andRm8R8 (rm : Rm) (r : Reg)
  /-- AND r/m16,r16 | r/m32,r32: `21 /r`, R206. -/
  | andRmR (os : Sz) (rm : Rm) (r : Reg)
  /-- AND r8,r/m8: `22 /r`, R206. -/
  | andR8Rm8 (r : Reg) (rm : Rm)
  /-- AND r16,r/m16 | r32,r/m32: `23 /r`, R206. -/
  | andRRm (os : Sz) (r : Reg) (rm : Rm)
  /-- AND AL,imm8: `24 ib`, R206. -/
  | andAlImm8 (b : Byte)
  /-- AND AX,imm16 | EAX,imm32: `25 iw/id`, R206. -/
  | andAccImm (v : Imm)
  /-- AND r/m8,imm8: `80 /4 ib`, R206. -/
  | andRm8Imm8 (rm : Rm) (b : Byte)
  /-- AND r/m16,imm16 | r/m32,imm32: `81 /4 iw/id`, R206. -/
  | andRmImm (rm : Rm) (v : Imm)
  /-- AND r/m16,imm8 | r/m32,imm8: `83 /4 ib`, R206. -/
  | andRmImm8 (os : Sz) (rm : Rm) (b : Byte)
  /-- SUB r/m8,r8: `28 /r`, R469. -/
  | subRm8R8 (rm : Rm) (r : Reg)
  /-- SUB r/m16,r16 | r/m32,r32: `29 /r`, R469. -/
  | subRmR (os : Sz) (rm : Rm) (r : Reg)
  /-- SUB r8,r/m8: `2A /r`, R469. -/
  | subR8Rm8 (r : Reg) (rm : Rm)
  /-- SUB r16,r/m16 | r32,r/m32: `2B /r`, R469. -/
  | subRRm (os : Sz) (r : Reg) (rm : Rm)
  /-- SUB AL,imm8: `2C ib`, R469. -/
  | subAlImm8 (b : Byte)
  /-- SUB AX,imm16 | EAX,imm32: `2D iw/id`, R469. -/
  | subAccImm (v : Imm)
  /-- SUB r/m8,imm8: `80 /5 ib`, R469. -/
  | subRm8Imm8 (rm : Rm) (b : Byte)
  /-- SUB r/m16,imm16 | r/m32,imm32: `81 /5 iw/id`, R469. -/
  | subRmImm (rm : Rm) (v : Imm)
  /-- SUB r/m16,imm8 | r/m32,imm8: `83 /5 ib`, R469. -/
  | subRmImm8 (os : Sz) (rm : Rm) (b : Byte)
  /-- XOR r/m8,r8: `30 /r`, R487. -/
  | xorRm8R8 (rm : Rm) (r : Reg)
  /-- XOR r/m16,r16 | r/m32,r32: `31 /r`, R487. -/
  | xorRmR (os : Sz) (rm : Rm) (r : Reg)
  /-- XOR r8,r/m8: `32 /r`, R487. -/
  | xorR8Rm8 (r : Reg) (rm : Rm)
  /-- XOR r16,r/m16 | r32,r/m32: `33 /r`, R487. -/
  | xorRRm (os : Sz) (r : Reg) (rm : Rm)
  /-- XOR AL,imm8: `34 ib`, R487. -/
  | xorAlImm8 (b : Byte)
  /-- XOR AX,imm16 | EAX,imm32: `35 iw/id`, R487. -/
  | xorAccImm (v : Imm)
  /-- XOR r/m8,imm8: `80 /6 ib`, R487. -/
  | xorRm8Imm8 (rm : Rm) (b : Byte)
  /-- XOR r/m16,imm16 | r/m32,imm32: `81 /6 iw/id`, R487. -/
  | xorRmImm (rm : Rm) (v : Imm)
  /-- XOR r/m16,imm8 | r/m32,imm8: `83 /6 ib`, R487. -/
  | xorRmImm8 (os : Sz) (rm : Rm) (b : Byte)
  /-- CMP r/m8,r8: `38 /r`, R240. -/
  | cmpRm8R8 (rm : Rm) (r : Reg)
  /-- CMP r/m16,r16 | r/m32,r32: `39 /r`, R240. -/
  | cmpRmR (os : Sz) (rm : Rm) (r : Reg)
  /-- CMP r8,r/m8: `3A /r`, R240. -/
  | cmpR8Rm8 (r : Reg) (rm : Rm)
  /-- CMP r16,r/m16 | r32,r/m32: `3B /r`, R240. -/
  | cmpRRm (os : Sz) (r : Reg) (rm : Rm)
  /-- CMP AL,imm8: `3C ib`, R240. -/
  | cmpAlImm8 (b : Byte)
  /-- CMP AX,imm16 | EAX,imm32: `3D iw/id`, R240. -/
  | cmpAccImm (v : Imm)
  /-- CMP r/m8,imm8: `80 /7 ib`, R240. -/
  | cmpRm8Imm8 (rm : Rm) (b : Byte)
  /-- CMP r/m16,imm16 | r/m32,imm32: `81 /7 iw/id`, R240. -/
  | cmpRmImm (rm : Rm) (v : Imm)
  /-- CMP r/m16,imm8 | r/m32,imm8: `83 /7 ib`, R240. -/
  | cmpRmImm8 (os : Sz) (rm : Rm) (b : Byte)
  /-- AAA: `37`, R200. -/
  | aaa
  /-- AAS: `3F`, R203. -/
  | aas
  /-- AAD: `D5`, R201. -/
  | aad
  /-- AAM: `D4`, R202. -/
  | aam
  /-- DAA: `27`, R243. -/
  | daa
  /-- DAS: `2F`, R244. -/
  | das
  /-- ARPL r/m16,r16: `63 /r`, R207. -/
  | arplRmR (rm : Rm) (r : Reg)
  /-- BOUND r16,m16&16 | r32,m32&32: `62 /r`, R208. -/
  | bound (os : Sz) (r : Reg) (rm : Rm)
  /-- BSF r16,r/m16 | r32,r/m32: `0F BC /r`, R209. -/
  | bsfRRm (os : Sz) (r : Reg) (rm : Rm)
  /-- BSR r16,r/m16 | r32,r/m32: `0F BD /r`, R210. -/
  | bsrRRm (os : Sz) (r : Reg) (rm : Rm)
  /-- BT r/m16,r16 | r/m32,r32: `0F A3 /r`, R211. -/
  | btRmR (os : Sz) (rm : Rm) (r : Reg)
  /-- BT r/m16,imm8 | r/m32,imm8: `0F BA /4 ib`, R211. -/
  | btRmImm8 (os : Sz) (rm : Rm) (b : Byte)
  /-- BTC r/m16,r16 | r/m32,r32: `0F BB /r`, R212. -/
  | btcRmR (os : Sz) (rm : Rm) (r : Reg)
  /-- BTC r/m16,imm8 | r/m32,imm8: `0F BA /7 ib`, R212. -/
  | btcRmImm8 (os : Sz) (rm : Rm) (b : Byte)
  /-- BTR r/m16,r16 | r/m32,r32: `0F B3 /r`, R213. -/
  | btrRmR (os : Sz) (rm : Rm) (r : Reg)
  /-- BTR r/m16,imm8 | r/m32,imm8: `0F BA /6 ib`, R213. -/
  | btrRmImm8 (os : Sz) (rm : Rm) (b : Byte)
  /-- BTS r/m16,r16 | r/m32,r32: `0F AB /r`, R214. -/
  | btsRmR (os : Sz) (rm : Rm) (r : Reg)
  /-- BTS r/m16,imm8 | r/m32,imm8: `0F BA /5 ib`, R214. -/
  | btsRmImm8 (os : Sz) (rm : Rm) (b : Byte)
  /-- CALL rel16 | rel32: `E8 cw/cd`, R230. -/
  | callRel (v : Imm)
  /-- CALL r/m16 | r/m32: `FF /2`, R230. -/
  | callRm (os : Sz) (rm : Rm)
  /-- CALL ptr16:16 | ptr16:32: `9A cd/cp`, R231. -/
  | callFarPtr (p : FarPtr)
  /-- CALL m16:16 | m16:32: `FF /3`, R231. -/
  | callFarMem (os : Sz) (rm : Rm)
  /-- CBW_CWDE: `98`, R234. -/
  | cbw (os : Sz)
  /-- CLC: `F8`, R235. -/
  | clc
  /-- CLD: `FC`, R236. -/
  | cld
  /-- CLI: `FA`, R237. -/
  | cli
  /-- CLTS: `0F 06`, R238. -/
  | clts
  /-- CMC: `F5`, R239. -/
  | cmc
  /-- CMPS_CMPSB m8,m8: `A6`, R241. -/
  | cmpsb (as : Sz)
  /-- CMPS_CMPSW_CMPSD m16,m16 | m32,m32: `A7`, R241. -/
  | cmpsw (os : Sz) (as : Sz)
  /-- CWD_CDQ: `99`, R242. -/
  | cwd (os : Sz)
  /-- DEC r/m8: `FE /1`, R245. -/
  | decRm8 (rm : Rm)
  /-- DEC r/m16 | r/m32: `FF /1`, R245. -/
  | decRm (os : Sz) (rm : Rm)
  /-- DEC r16 | r32: `48+r`, R245. -/
  | decR (os : Sz) (r : Reg)
  /-- DIV AL,r/m8: `F6 /6`, R246. -/
  | divRm8 (rm : Rm)
  /-- DIV AX,r/m16 | EAX,r/m32: `F7 /6`, R246. -/
  | divRm (os : Sz) (rm : Rm)
  /-- ENTER imm16,imm8: `C8 iw`, R247. -/
  | enter (os : Sz) (w : Word) (b : Byte)
  /-- HLT: `F4`, R248. -/
  | hlt
  /-- IDIV r/m8: `F6 /7`, R270. -/
  | idivRm8 (rm : Rm)
  /-- IDIV r/m16 | r/m32: `F7 /7`, R270. -/
  | idivRm (os : Sz) (rm : Rm)
  /-- IMUL r/m8: `F6 /5`, R271. -/
  | imulRm8 (rm : Rm)
  /-- IMUL r/m16 | r/m32: `F7 /5`, R271. -/
  | imulRm (os : Sz) (rm : Rm)
  /-- IMUL r16,r/m16 | r32,r/m32: `0F AF /r`, R271. -/
  | imulRRm (os : Sz) (r : Reg) (rm : Rm)
  /-- IMUL r16,r/m16,imm8 | r32,r/m32,imm8: `6B /r ib`, R271. -/
  | imulRRmImm8 (os : Sz) (r : Reg) (rm : Rm) (b : Byte)
  /-- IMUL r16,r/m16,imm16 | r32,r/m32,imm32: `69 /r iw/id`, R271. -/
  | imulRRmImm (r : Reg) (rm : Rm) (v : Imm)
  /-- IN AL,imm8: `E4 ib`, R272. -/
  | inAlImm8 (b : Byte)
  /-- IN AX,imm8 | EAX,imm8: `E5 ib`, R272. -/
  | inAccImm8 (os : Sz) (b : Byte)
  /-- IN AL,DX: `EC`, R272. -/
  | inAlDx
  /-- IN AX,DX | EAX,DX: `ED`, R272. -/
  | inAccDx (os : Sz)
  /-- INC r/m8: `FE /0`, R273. -/
  | incRm8 (rm : Rm)
  /-- INC r/m16 | r/m32: `FF /0`, R273. -/
  | incRm (os : Sz) (rm : Rm)
  /-- INC r16 | r32: `40+r`, R273. -/
  | incR (os : Sz) (r : Reg)
  /-- INS_INSB r/m8,DX: `6C`, R274. -/
  | insb (as : Sz)
  /-- INS_INSW_INSD r/m16,DX | r/m32,DX: `6D`, R274. -/
  | insw (os : Sz) (as : Sz)
  /-- INT_3: `CC`, R286. -/
  | int3
  /-- INT imm8: `CD ib`, R286. -/
  | intImm8 (b : Byte)
  /-- INTO: `CE`, R286. -/
  | into
  /-- IRET_IRETD: `CF`, R290. -/
  | iret (os : Sz)
  /-- JO rel8: `70 cb`, R300. -/
  | joRel8 (os : Sz) (b : Byte)
  /-- JNO rel8: `71 cb`, R300. -/
  | jnoRel8 (os : Sz) (b : Byte)
  /-- JB_JC_JNAE rel8: `72 cb`, R300. -/
  | jbRel8 (os : Sz) (b : Byte)
  /-- JAE_JNB_JNC rel8: `73 cb`, R300. -/
  | jaeRel8 (os : Sz) (b : Byte)
  /-- JE_JZ rel8: `74 cb`, R300. -/
  | jeRel8 (os : Sz) (b : Byte)
  /-- JNE_JNZ rel8: `75 cb`, R300. -/
  | jneRel8 (os : Sz) (b : Byte)
  /-- JBE_JNA rel8: `76 cb`, R300. -/
  | jbeRel8 (os : Sz) (b : Byte)
  /-- JA_JNBE rel8: `77 cb`, R300. -/
  | jaRel8 (os : Sz) (b : Byte)
  /-- JS rel8: `78 cb`, R300. -/
  | jsRel8 (os : Sz) (b : Byte)
  /-- JNS rel8: `79 cb`, R300. -/
  | jnsRel8 (os : Sz) (b : Byte)
  /-- JP_JPE rel8: `7A cb`, R300. -/
  | jpRel8 (os : Sz) (b : Byte)
  /-- JNP_JPO rel8: `7B cb`, R300. -/
  | jnpRel8 (os : Sz) (b : Byte)
  /-- JL_JNGE rel8: `7C cb`, R300. -/
  | jlRel8 (os : Sz) (b : Byte)
  /-- JGE_JNL rel8: `7D cb`, R300. -/
  | jgeRel8 (os : Sz) (b : Byte)
  /-- JLE_JNG rel8: `7E cb`, R300. -/
  | jleRel8 (os : Sz) (b : Byte)
  /-- JG_JNLE rel8: `7F cb`, R300. -/
  | jgRel8 (os : Sz) (b : Byte)
  /-- JO rel16 | rel32: `0F 80 cw/cd`, R301. -/
  | joRel (v : Imm)
  /-- JNO rel16 | rel32: `0F 81 cw/cd`, R301. -/
  | jnoRel (v : Imm)
  /-- JB_JC_JNAE rel16 | rel32: `0F 82 cw/cd`, R301. -/
  | jbRel (v : Imm)
  /-- JAE_JNB_JNC rel16 | rel32: `0F 83 cw/cd`, R301. -/
  | jaeRel (v : Imm)
  /-- JE_JZ rel16 | rel32: `0F 84 cw/cd`, R301. -/
  | jeRel (v : Imm)
  /-- JNE_JNZ rel16 | rel32: `0F 85 cw/cd`, R301. -/
  | jneRel (v : Imm)
  /-- JBE_JNA rel16 | rel32: `0F 86 cw/cd`, R301. -/
  | jbeRel (v : Imm)
  /-- JA_JNBE rel16 | rel32: `0F 87 cw/cd`, R301. -/
  | jaRel (v : Imm)
  /-- JS rel16 | rel32: `0F 88 cw/cd`, R301. -/
  | jsRel (v : Imm)
  /-- JNS rel16 | rel32: `0F 89 cw/cd`, R301. -/
  | jnsRel (v : Imm)
  /-- JP_JPE rel16 | rel32: `0F 8A cw/cd`, R301. -/
  | jpRel (v : Imm)
  /-- JNP_JPO rel16 | rel32: `0F 8B cw/cd`, R301. -/
  | jnpRel (v : Imm)
  /-- JL_JNGE rel16 | rel32: `0F 8C cw/cd`, R301. -/
  | jlRel (v : Imm)
  /-- JGE_JNL rel16 | rel32: `0F 8D cw/cd`, R301. -/
  | jgeRel (v : Imm)
  /-- JLE_JNG rel16 | rel32: `0F 8E cw/cd`, R301. -/
  | jleRel (v : Imm)
  /-- JG_JNLE rel16 | rel32: `0F 8F cw/cd`, R301. -/
  | jgRel (v : Imm)
  /-- JCXZ_JECXZ rel8: `E3 cb`, R302. -/
  | jcxz (os : Sz) (as : Sz) (b : Byte)
  /-- JMP rel8: `EB cb`, R303. -/
  | jmpRel8 (os : Sz) (b : Byte)
  /-- JMP rel16 | rel32: `E9 cw/cd`, R303. -/
  | jmpRel (v : Imm)
  /-- JMP r/m16 | r/m32: `FF /4`, R303. -/
  | jmpRm (os : Sz) (rm : Rm)
  /-- JMP ptr16:16 | ptr16:32: `EA cd/cp`, R304. -/
  | jmpFarPtr (p : FarPtr)
  /-- JMP m16:16 | m16:32: `FF /5`, R304. -/
  | jmpFarMem (os : Sz) (rm : Rm)
  /-- LAHF: `9F`, R320. -/
  | lahf
  /-- LAR r16,r/m16 | r32,r/m32: `0F 02 /r`, R321. -/
  | larRRm (os : Sz) (r : Reg) (rm : Rm)
  /-- LEA r16,m | r32,m: `8D /r`, R322. -/
  | lea (os : Sz) (r : Reg) (rm : Rm)
  /-- LEAVE: `C9`, R323. -/
  | leave (os : Sz)
  /-- LGDT m16&32: `0F 01 /2`, R324. -/
  | lgdt (os : Sz) (rm : Rm)
  /-- LIDT m16&32: `0F 01 /3`, R325. -/
  | lidt (os : Sz) (rm : Rm)
  /-- LDS r16,m16:16 | r32,m16:32: `C5 /r`, R326. -/
  | lds (os : Sz) (r : Reg) (rm : Rm)
  /-- LES r16,m16:16 | r32,m16:32: `C4 /r`, R327. -/
  | les (os : Sz) (r : Reg) (rm : Rm)
  /-- LFS r16,m16:16 | r32,m16:32: `0F B4 /r`, R328. -/
  | lfs (os : Sz) (r : Reg) (rm : Rm)
  /-- LGS r16,m16:16 | r32,m16:32: `0F B5 /r`, R329. -/
  | lgs (os : Sz) (r : Reg) (rm : Rm)
  /-- LSS r16,m16:16 | r32,m16:32: `0F B2 /r`, R330. -/
  | lss (os : Sz) (r : Reg) (rm : Rm)
  /-- LLDT r/m16: `0F 00 /2`, R332. -/
  | lldt (rm : Rm)
  /-- LMSW r/m16: `0F 01 /6`, R337. -/
  | lmsw (rm : Rm)
  /-- LODS_LODSB m8: `AC`, R341. -/
  | lodsb (as : Sz)
  /-- LODS_LODSW_LODSD m16 | m32: `AD`, R341. -/
  | lodsw (os : Sz) (as : Sz)
  /-- LOOP rel8: `E2 cb`, R342. -/
  | loop (os : Sz) (as : Sz) (b : Byte)
  /-- LOOPE_LOOPZ rel8: `E1 cb`, R343. -/
  | loope (os : Sz) (as : Sz) (b : Byte)
  /-- LOOPNE_LOOPNZ rel8: `E0 cb`, R344. -/
  | loopne (os : Sz) (as : Sz) (b : Byte)
  /-- LSL r16,r/m16 | r32,r/m32: `0F 03 /r`, R345. -/
  | lslRRm (os : Sz) (r : Reg) (rm : Rm)
  /-- LTR r/m16: `0F 00 /3`, R346. -/
  | ltr (rm : Rm)
  /-- MOV r/m8,r8: `88 /r`, R360. -/
  | movRm8R8 (rm : Rm) (r : Reg)
  /-- MOV r/m16,r16 | r/m32,r32: `89 /r`, R360. -/
  | movRmR (os : Sz) (rm : Rm) (r : Reg)
  /-- MOV r8,r/m8: `8A /r`, R360. -/
  | movR8Rm8 (r : Reg) (rm : Rm)
  /-- MOV r16,r/m16 | r32,r/m32: `8B /r`, R360. -/
  | movRRm (os : Sz) (r : Reg) (rm : Rm)
  /-- MOV r/m16,Sreg: `8C /r`, R361. -/
  | movRmSreg (os : Sz) (rm : Rm) (f : BitVec 3)
  /-- MOV Sreg,r/m16: `8E /r`, R362. -/
  | movSregRm (f : BitVec 3) (rm : Rm)
  /-- MOV AL,moffs8: `A0 offset`, R363. -/
  | movAlMoffs (o : Imm)
  /-- MOV AX,moffs16 | EAX,moffs32: `A1 offset`, R363. -/
  | movAccMoffs (os : Sz) (o : Imm)
  /-- MOV moffs8,AL: `A2 offset`, R363. -/
  | movMoffsAl (o : Imm)
  /-- MOV moffs16,AX | moffs32,EAX: `A3 offset`, R363. -/
  | movMoffsAcc (os : Sz) (o : Imm)
  /-- MOV r8,imm8: `B0+r ib`, R364. -/
  | movR8Imm8 (r : Reg) (b : Byte)
  /-- MOV r16,imm16 | r32,imm32: `B8+r iw/id`, R364. -/
  | movRImm (r : Reg) (v : Imm)
  /-- MOV r/m8,imm8: `C6 /0 ib`, R365. -/
  | movRm8Imm8 (rm : Rm) (b : Byte)
  /-- MOV r/m16,imm16 | r/m32,imm32: `C7 /0 iw/id`, R365. -/
  | movRmImm (rm : Rm) (v : Imm)
  /-- MOV r32,CR0/CR2/CR3: `0F 20 /r`, R366. -/
  | movRCr (r : Reg) (c : CReg)
  /-- MOV CR0/CR2/CR3,r32: `0F 22 /r`, R366. -/
  | movCrR (c : CReg) (r : Reg)
  /-- MOV r32,DR0-3/DR6/DR7: `0F 21 /r`, R367. -/
  | movRDr (r : Reg) (d : DReg)
  /-- MOV DR0-3/DR6/DR7,r32: `0F 23 /r`, R367. -/
  | movDrR (d : DReg) (r : Reg)
  /-- MOV r32,TR6/TR7: `0F 24 /r`, R368. -/
  | movRTr (r : Reg) (t : TReg)
  /-- MOV TR6/TR7,r32: `0F 26 /r`, R368. -/
  | movTrR (t : TReg) (r : Reg)
  /-- MOVS_MOVSB m8,m8: `A4`, R369. -/
  | movsb (as : Sz)
  /-- MOVS_MOVSW_MOVSD m16,m16 | m32,m32: `A5`, R369. -/
  | movsw (os : Sz) (as : Sz)
  /-- MOVSX r16,r/m8 | r32,r/m8: `0F BE /r`, R370. -/
  | movsxRRm8 (os : Sz) (r : Reg) (rm : Rm)
  /-- MOVSX r32,r/m16: `0F BF /r`, R370. -/
  | movsxR32Rm16 (r : Reg) (rm : Rm)
  /-- MOVZX r16,r/m8 | r32,r/m8: `0F B6 /r`, R371. -/
  | movzxRRm8 (os : Sz) (r : Reg) (rm : Rm)
  /-- MOVZX r32,r/m16: `0F B7 /r`, R371. -/
  | movzxR32Rm16 (r : Reg) (rm : Rm)
  /-- MUL AL,r/m8: `F6 /4`, R372. -/
  | mulRm8 (rm : Rm)
  /-- MUL AX,r/m16 | EAX,r/m32: `F7 /4`, R372. -/
  | mulRm (os : Sz) (rm : Rm)
  /-- NEG r/m8: `F6 /3`, R373. -/
  | negRm8 (rm : Rm)
  /-- NEG r/m16 | r/m32: `F7 /3`, R373. -/
  | negRm (os : Sz) (rm : Rm)
  /-- NOP: `90`, R374. -/
  | nop
  /-- NOT r/m8: `F6 /2`, R375. -/
  | notRm8 (rm : Rm)
  /-- NOT r/m16 | r/m32: `F7 /2`, R375. -/
  | notRm (os : Sz) (rm : Rm)
  /-- OUT imm8,AL: `E6 ib`, R381. -/
  | outImm8Al (b : Byte)
  /-- OUT imm8,AX | imm8,EAX: `E7 ib`, R381. -/
  | outImm8Acc (os : Sz) (b : Byte)
  /-- OUT DX,AL: `EE`, R381. -/
  | outDxAl
  /-- OUT DX,AX | DX,EAX: `EF`, R381. -/
  | outDxAcc (os : Sz)
  /-- OUTS_OUTSB DX,r/m8: `6E`, R382. -/
  | outsb (as : Sz)
  /-- OUTS_OUTSW_OUTSD DX,r/m16 | DX,r/m32: `6F`, R382. -/
  | outsw (os : Sz) (as : Sz)
  /-- POP m16 | m32: `8F /0`, R392. -/
  | popMem (os : Sz) (m : Mem)
  /-- POP r16 | r32: `58+r`, R393. -/
  | popR (os : Sz) (r : Reg)
  /-- POP DS: `1F`, R394. -/
  | popDs (os : Sz)
  /-- POP ES: `07`, R394. -/
  | popEs (os : Sz)
  /-- POP SS: `17`, R394. -/
  | popSs (os : Sz)
  /-- POP FS: `0F A1`, R394. -/
  | popFs (os : Sz)
  /-- POP GS: `0F A9`, R394. -/
  | popGs (os : Sz)
  /-- POPA_POPAD: `61`, R395. -/
  | popa (os : Sz)
  /-- POPF_POPFD: `9D`, R396. -/
  | popf (os : Sz)
  /-- PUSH m16 | m32: `FF /6`, R397. -/
  | pushMem (os : Sz) (m : Mem)
  /-- PUSH r16 | r32: `50+r`, R398. -/
  | pushR (os : Sz) (r : Reg)
  /-- PUSH imm8: `6A ib`, R399. -/
  | pushImm8 (os : Sz) (b : Byte)
  /-- PUSH imm16 | imm32: `68 iw/id`, R399. -/
  | pushImm (v : Imm)
  /-- PUSH CS: `0E`, R400. -/
  | pushCs (os : Sz)
  /-- PUSH SS: `16`, R400. -/
  | pushSs (os : Sz)
  /-- PUSH DS: `1E`, R400. -/
  | pushDs (os : Sz)
  /-- PUSH ES: `06`, R400. -/
  | pushEs (os : Sz)
  /-- PUSH FS: `0F A0`, R400. -/
  | pushFs (os : Sz)
  /-- PUSH GS: `0F A8`, R400. -/
  | pushGs (os : Sz)
  /-- PUSHA_PUSHAD: `60`, R401. -/
  | pusha (os : Sz)
  /-- PUSHF_PUSHFD: `9C`, R402. -/
  | pushf (os : Sz)
  /-- ROL r/m8,1: `D0 /0`, R413. -/
  | rolRm8One (rm : Rm)
  /-- ROL r/m8,CL: `D2 /0`, R413. -/
  | rolRm8Cl (rm : Rm)
  /-- ROL r/m8,imm8: `C0 /0 ib`, R413. -/
  | rolRm8Imm8 (rm : Rm) (b : Byte)
  /-- ROL r/m16,1 | r/m32,1: `D1 /0`, R413. -/
  | rolRmOne (os : Sz) (rm : Rm)
  /-- ROL r/m16,CL | r/m32,CL: `D3 /0`, R413. -/
  | rolRmCl (os : Sz) (rm : Rm)
  /-- ROL r/m16,imm8 | r/m32,imm8: `C1 /0 ib`, R413. -/
  | rolRmImm8 (os : Sz) (rm : Rm) (b : Byte)
  /-- ROR r/m8,1: `D0 /1`, R414. -/
  | rorRm8One (rm : Rm)
  /-- ROR r/m8,CL: `D2 /1`, R414. -/
  | rorRm8Cl (rm : Rm)
  /-- ROR r/m8,imm8: `C0 /1 ib`, R414. -/
  | rorRm8Imm8 (rm : Rm) (b : Byte)
  /-- ROR r/m16,1 | r/m32,1: `D1 /1`, R414. -/
  | rorRmOne (os : Sz) (rm : Rm)
  /-- ROR r/m16,CL | r/m32,CL: `D3 /1`, R414. -/
  | rorRmCl (os : Sz) (rm : Rm)
  /-- ROR r/m16,imm8 | r/m32,imm8: `C1 /1 ib`, R414. -/
  | rorRmImm8 (os : Sz) (rm : Rm) (b : Byte)
  /-- RCL r/m8,1: `D0 /2`, R411. -/
  | rclRm8One (rm : Rm)
  /-- RCL r/m8,CL: `D2 /2`, R411. -/
  | rclRm8Cl (rm : Rm)
  /-- RCL r/m8,imm8: `C0 /2 ib`, R411. -/
  | rclRm8Imm8 (rm : Rm) (b : Byte)
  /-- RCL r/m16,1 | r/m32,1: `D1 /2`, R411. -/
  | rclRmOne (os : Sz) (rm : Rm)
  /-- RCL r/m16,CL | r/m32,CL: `D3 /2`, R411. -/
  | rclRmCl (os : Sz) (rm : Rm)
  /-- RCL r/m16,imm8 | r/m32,imm8: `C1 /2 ib`, R411. -/
  | rclRmImm8 (os : Sz) (rm : Rm) (b : Byte)
  /-- RCR r/m8,1: `D0 /3`, R412. -/
  | rcrRm8One (rm : Rm)
  /-- RCR r/m8,CL: `D2 /3`, R412. -/
  | rcrRm8Cl (rm : Rm)
  /-- RCR r/m8,imm8: `C0 /3 ib`, R412. -/
  | rcrRm8Imm8 (rm : Rm) (b : Byte)
  /-- RCR r/m16,1 | r/m32,1: `D1 /3`, R412. -/
  | rcrRmOne (os : Sz) (rm : Rm)
  /-- RCR r/m16,CL | r/m32,CL: `D3 /3`, R412. -/
  | rcrRmCl (os : Sz) (rm : Rm)
  /-- RCR r/m16,imm8 | r/m32,imm8: `C1 /3 ib`, R412. -/
  | rcrRmImm8 (os : Sz) (rm : Rm) (b : Byte)
  /-- SAL_SHL r/m8,1: `D0 /4`, R442. -/
  | salRm8One (rm : Rm)
  /-- SAL_SHL r/m8,CL: `D2 /4`, R442. -/
  | salRm8Cl (rm : Rm)
  /-- SAL_SHL r/m8,imm8: `C0 /4 ib`, R442. -/
  | salRm8Imm8 (rm : Rm) (b : Byte)
  /-- SAL_SHL r/m16,1 | r/m32,1: `D1 /4`, R442. -/
  | salRmOne (os : Sz) (rm : Rm)
  /-- SAL_SHL r/m16,CL | r/m32,CL: `D3 /4`, R442. -/
  | salRmCl (os : Sz) (rm : Rm)
  /-- SAL_SHL r/m16,imm8 | r/m32,imm8: `C1 /4 ib`, R442. -/
  | salRmImm8 (os : Sz) (rm : Rm) (b : Byte)
  /-- SHR r/m8,1: `D0 /5`, R444. -/
  | shrRm8One (rm : Rm)
  /-- SHR r/m8,CL: `D2 /5`, R444. -/
  | shrRm8Cl (rm : Rm)
  /-- SHR r/m8,imm8: `C0 /5 ib`, R444. -/
  | shrRm8Imm8 (rm : Rm) (b : Byte)
  /-- SHR r/m16,1 | r/m32,1: `D1 /5`, R444. -/
  | shrRmOne (os : Sz) (rm : Rm)
  /-- SHR r/m16,CL | r/m32,CL: `D3 /5`, R444. -/
  | shrRmCl (os : Sz) (rm : Rm)
  /-- SHR r/m16,imm8 | r/m32,imm8: `C1 /5 ib`, R444. -/
  | shrRmImm8 (os : Sz) (rm : Rm) (b : Byte)
  /-- SAR r/m8,1: `D0 /7`, R443. -/
  | sarRm8One (rm : Rm)
  /-- SAR r/m8,CL: `D2 /7`, R443. -/
  | sarRm8Cl (rm : Rm)
  /-- SAR r/m8,imm8: `C0 /7 ib`, R443. -/
  | sarRm8Imm8 (rm : Rm) (b : Byte)
  /-- SAR r/m16,1 | r/m32,1: `D1 /7`, R443. -/
  | sarRmOne (os : Sz) (rm : Rm)
  /-- SAR r/m16,CL | r/m32,CL: `D3 /7`, R443. -/
  | sarRmCl (os : Sz) (rm : Rm)
  /-- SAR r/m16,imm8 | r/m32,imm8: `C1 /7 ib`, R443. -/
  | sarRmImm8 (os : Sz) (rm : Rm) (b : Byte)
  /-- RET (near): `C3`, R425. -/
  | retNear (os : Sz)
  /-- RET imm16: `C2 iw`, R425. -/
  | retNearImm (os : Sz) (w : Word)
  /-- RET (far): `CB`, R426. -/
  | retFar (os : Sz)
  /-- RET imm16: `CA iw`, R426. -/
  | retFarImm (os : Sz) (w : Word)
  /-- SAHF: `9E`, R440. -/
  | sahf
  /-- SCAS_SCASB m8: `AE`, R446. -/
  | scasb (as : Sz)
  /-- SCAS_SCASW_SCASD m16 | m32: `AF`, R446. -/
  | scasw (os : Sz) (as : Sz)
  /-- SETO r/m8: `0F 90 /r`, R447. -/
  | seto (rm : Rm)
  /-- SETNO r/m8: `0F 91 /r`, R447. -/
  | setno (rm : Rm)
  /-- SETB_SETC_SETNAE r/m8: `0F 92 /r`, R447. -/
  | setb (rm : Rm)
  /-- SETAE_SETNB_SETNC r/m8: `0F 93 /r`, R447. -/
  | setae (rm : Rm)
  /-- SETE_SETZ r/m8: `0F 94 /r`, R447. -/
  | sete (rm : Rm)
  /-- SETNE_SETNZ r/m8: `0F 95 /r`, R447. -/
  | setne (rm : Rm)
  /-- SETBE_SETNA r/m8: `0F 96 /r`, R447. -/
  | setbe (rm : Rm)
  /-- SETA_SETNBE r/m8: `0F 97 /r`, R447. -/
  | seta (rm : Rm)
  /-- SETS r/m8: `0F 98 /r`, R447. -/
  | sets (rm : Rm)
  /-- SETNS r/m8: `0F 99 /r`, R447. -/
  | setns (rm : Rm)
  /-- SETP_SETPE r/m8: `0F 9A /r`, R447. -/
  | setp (rm : Rm)
  /-- SETNP_SETPO r/m8: `0F 9B /r`, R447. -/
  | setnp (rm : Rm)
  /-- SETL_SETNGE r/m8: `0F 9C /r`, R447. -/
  | setl (rm : Rm)
  /-- SETGE_SETNL r/m8: `0F 9D /r`, R447. -/
  | setge (rm : Rm)
  /-- SETLE_SETNG r/m8: `0F 9E /r`, R447. -/
  | setle (rm : Rm)
  /-- SETG_SETNLE r/m8: `0F 9F /r`, R447. -/
  | setg (rm : Rm)
  /-- SGDT m: `0F 01 /0`, R448. -/
  | sgdt (os : Sz) (rm : Rm)
  /-- SIDT m: `0F 01 /1`, R449. -/
  | sidt (os : Sz) (rm : Rm)
  /-- SHLD r/m16,r16,imm8 | r/m32,r32,imm8: `0F A4 /r ib`, R450. -/
  | shldRmRImm8 (os : Sz) (rm : Rm) (r : Reg) (b : Byte)
  /-- SHLD r/m16,r16,CL | r/m32,r32,CL: `0F A5 /r`, R450. -/
  | shldRmRCl (os : Sz) (rm : Rm) (r : Reg)
  /-- SHRD r/m16,r16,imm8 | r/m32,r32,imm8: `0F AC /r ib`, R451. -/
  | shrdRmRImm8 (os : Sz) (rm : Rm) (r : Reg) (b : Byte)
  /-- SHRD r/m16,r16,CL | r/m32,r32,CL: `0F AD /r`, R451. -/
  | shrdRmRCl (os : Sz) (rm : Rm) (r : Reg)
  /-- SLDT r/m16: `0F 00 /0`, R452. -/
  | sldt (rm : Rm)
  /-- SMSW r/m16: `0F 01 /4`, R463. -/
  | smsw (rm : Rm)
  /-- STC: `F9`, R464. -/
  | stc
  /-- STD: `FD`, R465. -/
  | std
  /-- STI: `FB`, R466. -/
  | sti
  /-- STOS_STOSB m8: `AA`, R467. -/
  | stosb (as : Sz)
  /-- STOS_STOSW_STOSD m16 | m32: `AB`, R467. -/
  | stosw (os : Sz) (as : Sz)
  /-- STR r/m16: `0F 00 /1`, R468. -/
  | str (rm : Rm)
  /-- TEST AL,imm8: `A8 ib`, R480. -/
  | testAlImm8 (b : Byte)
  /-- TEST AX,imm16 | EAX,imm32: `A9 iw/id`, R480. -/
  | testAccImm (v : Imm)
  /-- TEST r/m8,imm8: `F6 /0 ib`, R480. -/
  | testRm8Imm8 (rm : Rm) (b : Byte)
  /-- TEST r/m16,imm16 | r/m32,imm32: `F7 /0 iw/id`, R480. -/
  | testRmImm (rm : Rm) (v : Imm)
  /-- TEST r/m8,r8: `84 /r`, R480. -/
  | testRm8R8 (rm : Rm) (r : Reg)
  /-- TEST r/m16,r16 | r/m32,r32: `85 /r`, R480. -/
  | testRmR (os : Sz) (rm : Rm) (r : Reg)
  /-- VERR r/m16: `0F 00 /4`, R481. -/
  | verr (rm : Rm)
  /-- VERW r/m16: `0F 00 /5`, R482. -/
  | verw (rm : Rm)
  /-- WAIT: `9B`, R483. -/
  | wait
  /-- XCHG AX,r16 | EAX,r32: `90+r`, R484. -/
  | xchgAccR (os : Sz) (r : Reg)
  /-- XCHG r/m8,r8 | r8,r/m8: `86 /r`, R485. -/
  | xchgRm8R8 (rm : Rm) (r : Reg)
  /-- XCHG r/m16,r16 | r16,r/m16 | r/m32,r32 | r32,r/m32: `87 /r`, R485. -/
  | xchgRmR (os : Sz) (rm : Rm) (r : Reg)
  /-- XLAT_XLATB m8: `D7`, R486. -/
  | xlat (as : Sz)
  /-- (ESC): `D8+i`, R170. -/
  | esc (i : BitVec 3)
  /-- (unassigned): `82`, R170. -/
  | unassigned82
  /-- (unassigned): `D6`, R170. -/
  | unassignedD6
  /-- (unassigned): `F1`, R170. -/
  | unassignedF1
  deriving DecidableEq, Repr

end Sys2Proof
end

