-- ==== Sys2Proof/WellFormed.lean ====
section
/-! DEFINITION. Which instructions are well formed under given operand-size and address-size attributes: those the
encoding tables of 30_encoding.md can produce. `Instr.wf os as i` is decidable. -/

namespace Sys2Proof

/-- The width an immediate carries is the operand size (30_encoding.md R144). -/
def Imm.wf (sz : Sz) : Imm → Bool
  | .i16 _ => sz = .s16
  | .i32 _ => sz = .s32

/-- The offset width of a far pointer is the operand size (30_encoding.md R146). -/
def FarPtr.wf (os : Sz) : FarPtr → Bool
  | .p16 _ _ => os = .s16
  | .p32 _ _ => os = .s32

/-- A memory operand the ModRM and SIB bytes of this address size can encode (30_encoding.md R131 to R133): BP alone
and EBP alone need a displacement, and ESP is a base only in a SIB byte. -/
def Mem.wf (as : Sz) : Mem → Bool
  | .direct16 _ => as = .s16
  | .based16 b d => as = .s16 && !(b = .bp && d = .none)
  | .direct32 _ => as = .s32
  | .based32 b d => as = .s32 && b ≠ .sp && !(b = .bp && d = .none)
  | .sib _ _ base d => as = .s32 && !(base = .bp && d = .none)
  | .sibNoBase _ _ _ => as = .s32

/-- An r/m operand this address size can encode. -/
def Rm.wf (as : Sz) : Rm → Bool
  | .reg _ => true
  | .mem m => m.wf as

/-- Well-formedness of an instruction decoded under operand size `os` and address size `as`: every size it carries is the
attribute in force, every memory operand is encodable, and a row that the table gives for one operand size only, or
not for register number 0 (byte 90 is NOP), is used so (30_encoding.md R123, R150). -/
def Instr.wf (os as : Sz) : Instr → Bool
  | .lockPrefix => true
  | .repnePrefix => true
  | .repPrefix => true
  | .esPrefix => true
  | .csPrefix => true
  | .ssPrefix => true
  | .dsPrefix => true
  | .fsPrefix => true
  | .gsPrefix => true
  | .operandSizePrefix => true
  | .addressSizePrefix => true
  | .addRm8R8 rm _ => rm.wf as
  | .addRmR o rm _ => o = os && rm.wf as
  | .addR8Rm8 _ rm => rm.wf as
  | .addRRm o _ rm => o = os && rm.wf as
  | .addAlImm8 _ => true
  | .addAccImm v => v.wf os
  | .addRm8Imm8 rm _ => rm.wf as
  | .addRmImm rm v => rm.wf as && v.wf os
  | .addRmImm8 o rm _ => o = os && rm.wf as
  | .orRm8R8 rm _ => rm.wf as
  | .orRmR o rm _ => o = os && rm.wf as
  | .orR8Rm8 _ rm => rm.wf as
  | .orRRm o _ rm => o = os && rm.wf as
  | .orAlImm8 _ => true
  | .orAccImm v => v.wf os
  | .orRm8Imm8 rm _ => rm.wf as
  | .orRmImm rm v => rm.wf as && v.wf os
  | .orRmImm8 o rm _ => o = os && rm.wf as
  | .adcRm8R8 rm _ => rm.wf as
  | .adcRmR o rm _ => o = os && rm.wf as
  | .adcR8Rm8 _ rm => rm.wf as
  | .adcRRm o _ rm => o = os && rm.wf as
  | .adcAlImm8 _ => true
  | .adcAccImm v => v.wf os
  | .adcRm8Imm8 rm _ => rm.wf as
  | .adcRmImm rm v => rm.wf as && v.wf os
  | .adcRmImm8 o rm _ => o = os && rm.wf as
  | .sbbRm8R8 rm _ => rm.wf as
  | .sbbRmR o rm _ => o = os && rm.wf as
  | .sbbR8Rm8 _ rm => rm.wf as
  | .sbbRRm o _ rm => o = os && rm.wf as
  | .sbbAlImm8 _ => true
  | .sbbAccImm v => v.wf os
  | .sbbRm8Imm8 rm _ => rm.wf as
  | .sbbRmImm rm v => rm.wf as && v.wf os
  | .sbbRmImm8 o rm _ => o = os && rm.wf as
  | .andRm8R8 rm _ => rm.wf as
  | .andRmR o rm _ => o = os && rm.wf as
  | .andR8Rm8 _ rm => rm.wf as
  | .andRRm o _ rm => o = os && rm.wf as
  | .andAlImm8 _ => true
  | .andAccImm v => v.wf os
  | .andRm8Imm8 rm _ => rm.wf as
  | .andRmImm rm v => rm.wf as && v.wf os
  | .andRmImm8 o rm _ => o = os && rm.wf as
  | .subRm8R8 rm _ => rm.wf as
  | .subRmR o rm _ => o = os && rm.wf as
  | .subR8Rm8 _ rm => rm.wf as
  | .subRRm o _ rm => o = os && rm.wf as
  | .subAlImm8 _ => true
  | .subAccImm v => v.wf os
  | .subRm8Imm8 rm _ => rm.wf as
  | .subRmImm rm v => rm.wf as && v.wf os
  | .subRmImm8 o rm _ => o = os && rm.wf as
  | .xorRm8R8 rm _ => rm.wf as
  | .xorRmR o rm _ => o = os && rm.wf as
  | .xorR8Rm8 _ rm => rm.wf as
  | .xorRRm o _ rm => o = os && rm.wf as
  | .xorAlImm8 _ => true
  | .xorAccImm v => v.wf os
  | .xorRm8Imm8 rm _ => rm.wf as
  | .xorRmImm rm v => rm.wf as && v.wf os
  | .xorRmImm8 o rm _ => o = os && rm.wf as
  | .cmpRm8R8 rm _ => rm.wf as
  | .cmpRmR o rm _ => o = os && rm.wf as
  | .cmpR8Rm8 _ rm => rm.wf as
  | .cmpRRm o _ rm => o = os && rm.wf as
  | .cmpAlImm8 _ => true
  | .cmpAccImm v => v.wf os
  | .cmpRm8Imm8 rm _ => rm.wf as
  | .cmpRmImm rm v => rm.wf as && v.wf os
  | .cmpRmImm8 o rm _ => o = os && rm.wf as
  | .aaa => true
  | .aas => true
  | .aad => true
  | .aam => true
  | .daa => true
  | .das => true
  | .arplRmR rm _ => rm.wf as
  | .bound o _ rm => o = os && rm.wf as
  | .bsfRRm o _ rm => o = os && rm.wf as
  | .bsrRRm o _ rm => o = os && rm.wf as
  | .btRmR o rm _ => o = os && rm.wf as
  | .btRmImm8 o rm _ => o = os && rm.wf as
  | .btcRmR o rm _ => o = os && rm.wf as
  | .btcRmImm8 o rm _ => o = os && rm.wf as
  | .btrRmR o rm _ => o = os && rm.wf as
  | .btrRmImm8 o rm _ => o = os && rm.wf as
  | .btsRmR o rm _ => o = os && rm.wf as
  | .btsRmImm8 o rm _ => o = os && rm.wf as
  | .callRel v => v.wf os
  | .callRm o rm => o = os && rm.wf as
  | .callFarPtr p => p.wf os
  | .callFarMem o rm => o = os && rm.wf as
  | .cbw o => o = os
  | .clc => true
  | .cld => true
  | .cli => true
  | .clts => true
  | .cmc => true
  | .cmpsb a => a = as
  | .cmpsw o a => o = os && a = as
  | .cwd o => o = os
  | .decRm8 rm => rm.wf as
  | .decRm o rm => o = os && rm.wf as
  | .decR o _ => o = os
  | .divRm8 rm => rm.wf as
  | .divRm o rm => o = os && rm.wf as
  | .enter o _ _ => o = os
  | .hlt => true
  | .idivRm8 rm => rm.wf as
  | .idivRm o rm => o = os && rm.wf as
  | .imulRm8 rm => rm.wf as
  | .imulRm o rm => o = os && rm.wf as
  | .imulRRm o _ rm => o = os && rm.wf as
  | .imulRRmImm8 o _ rm _ => o = os && rm.wf as
  | .imulRRmImm _ rm v => rm.wf as && v.wf os
  | .inAlImm8 _ => true
  | .inAccImm8 o _ => o = os
  | .inAlDx => true
  | .inAccDx o => o = os
  | .incRm8 rm => rm.wf as
  | .incRm o rm => o = os && rm.wf as
  | .incR o _ => o = os
  | .insb a => a = as
  | .insw o a => o = os && a = as
  | .int3 => true
  | .intImm8 _ => true
  | .into => true
  | .iret o => o = os
  | .joRel8 o _ => o = os
  | .jnoRel8 o _ => o = os
  | .jbRel8 o _ => o = os
  | .jaeRel8 o _ => o = os
  | .jeRel8 o _ => o = os
  | .jneRel8 o _ => o = os
  | .jbeRel8 o _ => o = os
  | .jaRel8 o _ => o = os
  | .jsRel8 o _ => o = os
  | .jnsRel8 o _ => o = os
  | .jpRel8 o _ => o = os
  | .jnpRel8 o _ => o = os
  | .jlRel8 o _ => o = os
  | .jgeRel8 o _ => o = os
  | .jleRel8 o _ => o = os
  | .jgRel8 o _ => o = os
  | .joRel v => v.wf os
  | .jnoRel v => v.wf os
  | .jbRel v => v.wf os
  | .jaeRel v => v.wf os
  | .jeRel v => v.wf os
  | .jneRel v => v.wf os
  | .jbeRel v => v.wf os
  | .jaRel v => v.wf os
  | .jsRel v => v.wf os
  | .jnsRel v => v.wf os
  | .jpRel v => v.wf os
  | .jnpRel v => v.wf os
  | .jlRel v => v.wf os
  | .jgeRel v => v.wf os
  | .jleRel v => v.wf os
  | .jgRel v => v.wf os
  | .jcxz o a _ => o = os && a = as
  | .jmpRel8 o _ => o = os
  | .jmpRel v => v.wf os
  | .jmpRm o rm => o = os && rm.wf as
  | .jmpFarPtr p => p.wf os
  | .jmpFarMem o rm => o = os && rm.wf as
  | .lahf => true
  | .larRRm o _ rm => o = os && rm.wf as
  | .lea o _ rm => o = os && rm.wf as
  | .leave o => o = os
  | .lgdt o rm => o = os && rm.wf as
  | .lidt o rm => o = os && rm.wf as
  | .lds o _ rm => o = os && rm.wf as
  | .les o _ rm => o = os && rm.wf as
  | .lfs o _ rm => o = os && rm.wf as
  | .lgs o _ rm => o = os && rm.wf as
  | .lss o _ rm => o = os && rm.wf as
  | .lldt rm => rm.wf as
  | .lmsw rm => rm.wf as
  | .lodsb a => a = as
  | .lodsw o a => o = os && a = as
  | .loop o a _ => o = os && a = as
  | .loope o a _ => o = os && a = as
  | .loopne o a _ => o = os && a = as
  | .lslRRm o _ rm => o = os && rm.wf as
  | .ltr rm => rm.wf as
  | .movRm8R8 rm _ => rm.wf as
  | .movRmR o rm _ => o = os && rm.wf as
  | .movR8Rm8 _ rm => rm.wf as
  | .movRRm o _ rm => o = os && rm.wf as
  | .movRmSreg o rm _ => o = os && rm.wf as
  | .movSregRm _ rm => rm.wf as
  | .movAlMoffs mo => mo.wf as
  | .movAccMoffs o mo => o = os && mo.wf as
  | .movMoffsAl mo => mo.wf as
  | .movMoffsAcc o mo => o = os && mo.wf as
  | .movR8Imm8 _ _ => true
  | .movRImm _ v => v.wf os
  | .movRm8Imm8 rm _ => rm.wf as
  | .movRmImm rm v => rm.wf as && v.wf os
  | .movRCr _ _ => true
  | .movCrR _ _ => true
  | .movRDr _ _ => true
  | .movDrR _ _ => true
  | .movRTr _ _ => true
  | .movTrR _ _ => true
  | .movsb a => a = as
  | .movsw o a => o = os && a = as
  | .movsxRRm8 o _ rm => o = os && rm.wf as
  | .movsxR32Rm16 _ rm => rm.wf as && os = .s32
  | .movzxRRm8 o _ rm => o = os && rm.wf as
  | .movzxR32Rm16 _ rm => rm.wf as && os = .s32
  | .mulRm8 rm => rm.wf as
  | .mulRm o rm => o = os && rm.wf as
  | .negRm8 rm => rm.wf as
  | .negRm o rm => o = os && rm.wf as
  | .nop => true
  | .notRm8 rm => rm.wf as
  | .notRm o rm => o = os && rm.wf as
  | .outImm8Al _ => true
  | .outImm8Acc o _ => o = os
  | .outDxAl => true
  | .outDxAcc o => o = os
  | .outsb a => a = as
  | .outsw o a => o = os && a = as
  | .popMem o m => o = os && m.wf as
  | .popR o _ => o = os
  | .popDs o => o = os
  | .popEs o => o = os
  | .popSs o => o = os
  | .popFs o => o = os
  | .popGs o => o = os
  | .popa o => o = os
  | .popf o => o = os
  | .pushMem o m => o = os && m.wf as
  | .pushR o _ => o = os
  | .pushImm8 o _ => o = os
  | .pushImm v => v.wf os
  | .pushCs o => o = os
  | .pushSs o => o = os
  | .pushDs o => o = os
  | .pushEs o => o = os
  | .pushFs o => o = os
  | .pushGs o => o = os
  | .pusha o => o = os
  | .pushf o => o = os
  | .rolRm8One rm => rm.wf as
  | .rolRm8Cl rm => rm.wf as
  | .rolRm8Imm8 rm _ => rm.wf as
  | .rolRmOne o rm => o = os && rm.wf as
  | .rolRmCl o rm => o = os && rm.wf as
  | .rolRmImm8 o rm _ => o = os && rm.wf as
  | .rorRm8One rm => rm.wf as
  | .rorRm8Cl rm => rm.wf as
  | .rorRm8Imm8 rm _ => rm.wf as
  | .rorRmOne o rm => o = os && rm.wf as
  | .rorRmCl o rm => o = os && rm.wf as
  | .rorRmImm8 o rm _ => o = os && rm.wf as
  | .rclRm8One rm => rm.wf as
  | .rclRm8Cl rm => rm.wf as
  | .rclRm8Imm8 rm _ => rm.wf as
  | .rclRmOne o rm => o = os && rm.wf as
  | .rclRmCl o rm => o = os && rm.wf as
  | .rclRmImm8 o rm _ => o = os && rm.wf as
  | .rcrRm8One rm => rm.wf as
  | .rcrRm8Cl rm => rm.wf as
  | .rcrRm8Imm8 rm _ => rm.wf as
  | .rcrRmOne o rm => o = os && rm.wf as
  | .rcrRmCl o rm => o = os && rm.wf as
  | .rcrRmImm8 o rm _ => o = os && rm.wf as
  | .salRm8One rm => rm.wf as
  | .salRm8Cl rm => rm.wf as
  | .salRm8Imm8 rm _ => rm.wf as
  | .salRmOne o rm => o = os && rm.wf as
  | .salRmCl o rm => o = os && rm.wf as
  | .salRmImm8 o rm _ => o = os && rm.wf as
  | .shrRm8One rm => rm.wf as
  | .shrRm8Cl rm => rm.wf as
  | .shrRm8Imm8 rm _ => rm.wf as
  | .shrRmOne o rm => o = os && rm.wf as
  | .shrRmCl o rm => o = os && rm.wf as
  | .shrRmImm8 o rm _ => o = os && rm.wf as
  | .sarRm8One rm => rm.wf as
  | .sarRm8Cl rm => rm.wf as
  | .sarRm8Imm8 rm _ => rm.wf as
  | .sarRmOne o rm => o = os && rm.wf as
  | .sarRmCl o rm => o = os && rm.wf as
  | .sarRmImm8 o rm _ => o = os && rm.wf as
  | .retNear o => o = os
  | .retNearImm o _ => o = os
  | .retFar o => o = os
  | .retFarImm o _ => o = os
  | .sahf => true
  | .scasb a => a = as
  | .scasw o a => o = os && a = as
  | .seto rm => rm.wf as
  | .setno rm => rm.wf as
  | .setb rm => rm.wf as
  | .setae rm => rm.wf as
  | .sete rm => rm.wf as
  | .setne rm => rm.wf as
  | .setbe rm => rm.wf as
  | .seta rm => rm.wf as
  | .sets rm => rm.wf as
  | .setns rm => rm.wf as
  | .setp rm => rm.wf as
  | .setnp rm => rm.wf as
  | .setl rm => rm.wf as
  | .setge rm => rm.wf as
  | .setle rm => rm.wf as
  | .setg rm => rm.wf as
  | .sgdt o rm => o = os && rm.wf as
  | .sidt o rm => o = os && rm.wf as
  | .shldRmRImm8 o rm _ _ => o = os && rm.wf as
  | .shldRmRCl o rm _ => o = os && rm.wf as
  | .shrdRmRImm8 o rm _ _ => o = os && rm.wf as
  | .shrdRmRCl o rm _ => o = os && rm.wf as
  | .sldt rm => rm.wf as
  | .smsw rm => rm.wf as
  | .stc => true
  | .std => true
  | .sti => true
  | .stosb a => a = as
  | .stosw o a => o = os && a = as
  | .str rm => rm.wf as
  | .testAlImm8 _ => true
  | .testAccImm v => v.wf os
  | .testRm8Imm8 rm _ => rm.wf as
  | .testRmImm rm v => rm.wf as && v.wf os
  | .testRm8R8 rm _ => rm.wf as
  | .testRmR o rm _ => o = os && rm.wf as
  | .verr rm => rm.wf as
  | .verw rm => rm.wf as
  | .wait => true
  | .xchgAccR o r => o = os && r ≠ .ax
  | .xchgRm8R8 rm _ => rm.wf as
  | .xchgRmR o rm _ => o = os && rm.wf as
  | .xlat a => a = as
  | .esc _ => true
  | .unassigned82 => true
  | .unassignedD6 => true
  | .unassignedF1 => true

end Sys2Proof
end

