-- ==== Sys2Proof/Decode.lean ====
section
/-! DEFINITION. The decoder, total on any bytes (30_encoding.md R120 to R170), and after it the encoder. A prefix byte
is decoded as the constructor of its row; the machine collects the prefixes of one instruction (R121). -/

namespace Sys2Proof

/-- Why bytes are not an instruction: the spec's tables list no such encoding (30_encoding.md R170), or the bytes end
before the instruction does. -/
inductive DecodeError where
  | unlisted
  | truncated
  deriving DecidableEq, Repr

/-- A parser of instruction bytes: what it read, and the bytes that follow. -/
abbrev P := StateT (List Byte) (Except DecodeError)

/-- No row of the opcode table matches (30_encoding.md R170). -/
def unlisted {α : Type} : P α := fun _ => .error .unlisted

/-- One instruction byte. -/
def byteP : P Byte
  | [] => .error .truncated
  | b :: bs => .ok (b, bs)

/-- A little-endian word (20_memory.md R81). -/
def wordP : P Word
  | b0 :: b1 :: bs => .ok (b1 ++ b0, bs)
  | _ => .error .truncated

/-- A little-endian doubleword (20_memory.md R81). -/
def dwordP : P Dword
  | b0 :: b1 :: b2 :: b3 :: bs => .ok (b3 ++ b2 ++ b1 ++ b0, bs)
  | _ => .error .truncated

/-- An immediate, relative offset or direct offset of the given size (30_encoding.md R136, R144, R145). -/
def immP : Sz → P Imm
  | .s16 => do return .i16 (← wordP)
  | .s32 => do return .i32 (← dwordP)

/-- A far pointer: offset, then selector (30_encoding.md R146). -/
def farPtrP : Sz → P FarPtr
  | .s16 => do
    let off ← wordP
    let sel ← wordP
    return .p16 off sel
  | .s32 => do
    let off ← dwordP
    let sel ← wordP
    return .p32 off sel

/-- The register a three-bit field names (30_encoding.md R141). -/
def Reg.ofBits (b : BitVec 3) : Reg :=
  match b.toNat with
  | 0 => .ax
  | 1 => .cx
  | 2 => .dx
  | 3 => .bx
  | 4 => .sp
  | 5 => .bp
  | 6 => .si
  | _ => .di

/-- The number of a register (10_state.md R32). -/
def Reg.bits : Reg → BitVec 3
  | .ax => 0#3
  | .cx => 1#3
  | .dx => 2#3
  | .bx => 3#3
  | .sp => 4#3
  | .bp => 5#3
  | .si => 6#3
  | .di => 7#3

/-- The registers a 16-bit address form adds (30_encoding.md R131). -/
def Base16.ofBits (b : BitVec 3) : Base16 :=
  match b.toNat with
  | 0 => .bxsi
  | 1 => .bxdi
  | 2 => .bpsi
  | 3 => .bpdi
  | 4 => .si
  | 5 => .di
  | 6 => .bp
  | _ => .bx

/-- The rm field of a 16-bit address form (30_encoding.md R131). -/
def Base16.bits : Base16 → BitVec 3
  | .bxsi => 0#3
  | .bxdi => 1#3
  | .bpsi => 2#3
  | .bpdi => 3#3
  | .si => 4#3
  | .di => 5#3
  | .bp => 6#3
  | .bx => 7#3

/-- The control register a reg field names (30_encoding.md R143). -/
def CReg.ofBits (b : BitVec 3) : Option CReg :=
  match b.toNat with
  | 0 => some .cr0
  | 2 => some .cr2
  | 3 => some .cr3
  | _ => none

/-- The number of a control register (30_encoding.md R143). -/
def CReg.bits : CReg → BitVec 3
  | .cr0 => 0#3
  | .cr2 => 2#3
  | .cr3 => 3#3

/-- The debug register a reg field names (30_encoding.md R143). -/
def DReg.ofBits (b : BitVec 3) : Option DReg :=
  match b.toNat with
  | 0 => some .dr0
  | 1 => some .dr1
  | 2 => some .dr2
  | 3 => some .dr3
  | 6 => some .dr6
  | 7 => some .dr7
  | _ => none

/-- The number of a debug register (30_encoding.md R143). -/
def DReg.bits : DReg → BitVec 3
  | .dr0 => 0#3
  | .dr1 => 1#3
  | .dr2 => 2#3
  | .dr3 => 3#3
  | .dr6 => 6#3
  | .dr7 => 7#3

/-- The test register a reg field names (30_encoding.md R143). -/
def TReg.ofBits (b : BitVec 3) : Option TReg :=
  match b.toNat with
  | 6 => some .tr6
  | 7 => some .tr7
  | _ => none

/-- The number of a test register (30_encoding.md R143). -/
def TReg.bits : TReg → BitVec 3
  | .tr6 => 6#3
  | .tr7 => 7#3

/-- The displacement the mod field announces, 16-bit addressing (30_encoding.md R131). -/
def disp16P (md : BitVec 2) : P Disp16 :=
  match md.toNat with
  | 0 => pure .none
  | 1 => do return .d8 (← byteP)
  | _ => do return .d16 (← wordP)

/-- The displacement the mod field announces, 32-bit addressing (30_encoding.md R132). -/
def disp32P (md : BitVec 2) : P Disp32 :=
  match md.toNat with
  | 0 => pure .none
  | 1 => do return .d8 (← byteP)
  | _ => do return .d32 (← dwordP)

/-- A memory operand with 16-bit addressing, mod not 11 (30_encoding.md R131). -/
def mem16P (md : BitVec 2) (rm : BitVec 3) : P Mem :=
  if md = 0#2 ∧ rm = 6#3 then do return .direct16 (← wordP)
  else do return .based16 (Base16.ofBits rm) (← disp16P md)

/-- The SIB byte and what follows it (30_encoding.md R133). -/
def sibP (md : BitVec 2) : P Mem := do
  let b ← byteP
  let scale := b.extractLsb' 6 2
  let index := Reg.ofBits (b.extractLsb' 3 3)
  let base := b.extractLsb' 0 3
  if md = 0#2 ∧ base = 5#3 then return .sibNoBase scale index (← dwordP)
  else return .sib scale index (Reg.ofBits base) (← disp32P md)

/-- A memory operand with 32-bit addressing, mod not 11 (30_encoding.md R132, R133). -/
def mem32P (md : BitVec 2) (rm : BitVec 3) : P Mem :=
  if rm = 4#3 then sibP md
  else if md = 0#2 ∧ rm = 5#3 then do return .direct32 (← dwordP)
  else do return .based32 (Reg.ofBits rm) (← disp32P md)

/-- The ModRM byte with its SIB and displacement bytes: the reg field and the r/m operand (30_encoding.md R130). All of them are
read before the reg field is looked at, so a fetch that fails among them comes before the refusal of a group slot that no page
lists (R170, which gives no order); DESIGN CHOICE, log entry 48. -/
def modrmP (as : Sz) : P (BitVec 3 × Rm) := do
  let b ← byteP
  let md := b.extractLsb' 6 2
  let g := b.extractLsb' 3 3
  let rm := b.extractLsb' 0 3
  if md = 3#2 then return (g, .reg (Reg.ofBits rm))
  else match as with
    | .s16 => return (g, .mem (← mem16P md rm))
    | .s32 => return (g, .mem (← mem32P md rm))

/-- A ModRM operand that must be memory in the table's row; the register form is listed on no page
(46_p.md R392, R397). -/
def memOnly (rm : Rm) : P Mem :=
  match rm with
  | .mem m => pure m
  | .reg _ => unlisted

/-! The opcode maps. `Instr` has more constructors than Lean's code generator gives a run-time tag, so the functions that
build an `Instr` are evaluated by the kernel only (log entry 32). -/

noncomputable section

/-- Opcode 0F00: the group selected by the reg field (30_encoding.md R150, R151). -/
def group0F00 (_ as : Sz) : P Instr := do
  let (g, rm) ← modrmP as
  match g.toNat with
  | 0 => return .sldt rm
  | 1 => return .str rm
  | 2 => return .lldt rm
  | 3 => return .ltr rm
  | 4 => return .verr rm
  | 5 => return .verw rm
  | _ => unlisted

/-- Opcode 0F01: the group selected by the reg field (30_encoding.md R150, R151). -/
def group0F01 (os as : Sz) : P Instr := do
  let (g, rm) ← modrmP as
  match g.toNat with
  | 0 => return .sgdt os rm
  | 1 => return .sidt os rm
  | 2 => return .lgdt os rm
  | 3 => return .lidt os rm
  | 4 => return .smsw rm
  | 6 => return .lmsw rm
  | _ => unlisted

/-- Opcode 0F20: the mod bits are not examined (30_encoding.md R143). -/
def special0F20 : P Instr := do
  let b ← byteP
  match CReg.ofBits (b.extractLsb' 3 3) with
  | some c => return .movRCr (Reg.ofBits (b.extractLsb' 0 3)) c
  | none => unlisted

/-- Opcode 0F21: the mod bits are not examined (30_encoding.md R143). -/
def special0F21 : P Instr := do
  let b ← byteP
  match DReg.ofBits (b.extractLsb' 3 3) with
  | some c => return .movRDr (Reg.ofBits (b.extractLsb' 0 3)) c
  | none => unlisted

/-- Opcode 0F22: the mod bits are not examined (30_encoding.md R143). -/
def special0F22 : P Instr := do
  let b ← byteP
  match CReg.ofBits (b.extractLsb' 3 3) with
  | some c => return .movCrR c (Reg.ofBits (b.extractLsb' 0 3))
  | none => unlisted

/-- Opcode 0F23: the mod bits are not examined (30_encoding.md R143). -/
def special0F23 : P Instr := do
  let b ← byteP
  match DReg.ofBits (b.extractLsb' 3 3) with
  | some c => return .movDrR c (Reg.ofBits (b.extractLsb' 0 3))
  | none => unlisted

/-- Opcode 0F24: the mod bits are not examined (30_encoding.md R143). -/
def special0F24 : P Instr := do
  let b ← byteP
  match TReg.ofBits (b.extractLsb' 3 3) with
  | some c => return .movRTr (Reg.ofBits (b.extractLsb' 0 3)) c
  | none => unlisted

/-- Opcode 0F26: the mod bits are not examined (30_encoding.md R143). -/
def special0F26 : P Instr := do
  let b ← byteP
  match TReg.ofBits (b.extractLsb' 3 3) with
  | some c => return .movTrR c (Reg.ofBits (b.extractLsb' 0 3))
  | none => unlisted

/-- Opcode 0FBA: the group selected by the reg field (30_encoding.md R150, R151). -/
def group0FBA (os as : Sz) : P Instr := do
  let (g, rm) ← modrmP as
  match g.toNat with
  | 4 =>
    let b ← byteP
    return .btRmImm8 os rm b
  | 5 =>
    let b ← byteP
    return .btsRmImm8 os rm b
  | 6 =>
    let b ← byteP
    return .btrRmImm8 os rm b
  | 7 =>
    let b ← byteP
    return .btcRmImm8 os rm b
  | _ => unlisted

/-- Row 0 of the two-byte opcode map, after 0F (30_encoding.md R151), by the low four bits. -/
def twoByteRow0 (os as : Sz) (lo : Nat) : P Instr :=
  match lo with
  | 0 => group0F00 os as
  | 1 => group0F01 os as
  | 2 => do let (g, rm) ← modrmP as; return .larRRm os (Reg.ofBits g) rm
  | 3 => do let (g, rm) ← modrmP as; return .lslRRm os (Reg.ofBits g) rm
  | 6 => pure .clts
  | _ => unlisted

/-- Row 2 of the two-byte opcode map, after 0F (30_encoding.md R151), by the low four bits. -/
def twoByteRow2 (_ _ : Sz) (lo : Nat) : P Instr :=
  match lo with
  | 0 => special0F20
  | 1 => special0F21
  | 2 => special0F22
  | 3 => special0F23
  | 4 => special0F24
  | 6 => special0F26
  | _ => unlisted

/-- Row 8 of the two-byte opcode map, after 0F (30_encoding.md R151), by the low four bits. -/
def twoByteRow8 (os _ : Sz) (lo : Nat) : P Instr :=
  match lo with
  | 0 => do let v ← immP os; return .joRel v
  | 1 => do let v ← immP os; return .jnoRel v
  | 2 => do let v ← immP os; return .jbRel v
  | 3 => do let v ← immP os; return .jaeRel v
  | 4 => do let v ← immP os; return .jeRel v
  | 5 => do let v ← immP os; return .jneRel v
  | 6 => do let v ← immP os; return .jbeRel v
  | 7 => do let v ← immP os; return .jaRel v
  | 8 => do let v ← immP os; return .jsRel v
  | 9 => do let v ← immP os; return .jnsRel v
  | 10 => do let v ← immP os; return .jpRel v
  | 11 => do let v ← immP os; return .jnpRel v
  | 12 => do let v ← immP os; return .jlRel v
  | 13 => do let v ← immP os; return .jgeRel v
  | 14 => do let v ← immP os; return .jleRel v
  | _ => do let v ← immP os; return .jgRel v

/-- Row 9 of the two-byte opcode map, after 0F (30_encoding.md R151), by the low four bits. -/
def twoByteRow9 (_ as : Sz) (lo : Nat) : P Instr :=
  match lo with
  | 0 => do let (_, rm) ← modrmP as; return .seto rm
  | 1 => do let (_, rm) ← modrmP as; return .setno rm
  | 2 => do let (_, rm) ← modrmP as; return .setb rm
  | 3 => do let (_, rm) ← modrmP as; return .setae rm
  | 4 => do let (_, rm) ← modrmP as; return .sete rm
  | 5 => do let (_, rm) ← modrmP as; return .setne rm
  | 6 => do let (_, rm) ← modrmP as; return .setbe rm
  | 7 => do let (_, rm) ← modrmP as; return .seta rm
  | 8 => do let (_, rm) ← modrmP as; return .sets rm
  | 9 => do let (_, rm) ← modrmP as; return .setns rm
  | 10 => do let (_, rm) ← modrmP as; return .setp rm
  | 11 => do let (_, rm) ← modrmP as; return .setnp rm
  | 12 => do let (_, rm) ← modrmP as; return .setl rm
  | 13 => do let (_, rm) ← modrmP as; return .setge rm
  | 14 => do let (_, rm) ← modrmP as; return .setle rm
  | _ => do let (_, rm) ← modrmP as; return .setg rm

/-- Row A of the two-byte opcode map, after 0F (30_encoding.md R151), by the low four bits. -/
def twoByteRowA (os as : Sz) (lo : Nat) : P Instr :=
  match lo with
  | 0 => pure (.pushFs os)
  | 1 => pure (.popFs os)
  | 3 => do let (g, rm) ← modrmP as; return .btRmR os rm (Reg.ofBits g)
  | 4 => do let (g, rm) ← modrmP as; let b ← byteP; return .shldRmRImm8 os rm (Reg.ofBits g) b
  | 5 => do let (g, rm) ← modrmP as; return .shldRmRCl os rm (Reg.ofBits g)
  | 8 => pure (.pushGs os)
  | 9 => pure (.popGs os)
  | 11 => do let (g, rm) ← modrmP as; return .btsRmR os rm (Reg.ofBits g)
  | 12 => do let (g, rm) ← modrmP as; let b ← byteP; return .shrdRmRImm8 os rm (Reg.ofBits g) b
  | 13 => do let (g, rm) ← modrmP as; return .shrdRmRCl os rm (Reg.ofBits g)
  | 15 => do let (g, rm) ← modrmP as; return .imulRRm os (Reg.ofBits g) rm
  | _ => unlisted

/-- Row B of the two-byte opcode map, after 0F (30_encoding.md R151), by the low four bits. -/
def twoByteRowB (os as : Sz) (lo : Nat) : P Instr :=
  match lo with
  | 2 => do let (g, rm) ← modrmP as; return .lss os (Reg.ofBits g) rm
  | 3 => do let (g, rm) ← modrmP as; return .btrRmR os rm (Reg.ofBits g)
  | 4 => do let (g, rm) ← modrmP as; return .lfs os (Reg.ofBits g) rm
  | 5 => do let (g, rm) ← modrmP as; return .lgs os (Reg.ofBits g) rm
  | 6 => do let (g, rm) ← modrmP as; return .movzxRRm8 os (Reg.ofBits g) rm
  | 7 => if os = .s32 then do let (g, rm) ← modrmP as; return .movzxR32Rm16 (Reg.ofBits g) rm else unlisted
  | 10 => group0FBA os as
  | 11 => do let (g, rm) ← modrmP as; return .btcRmR os rm (Reg.ofBits g)
  | 12 => do let (g, rm) ← modrmP as; return .bsfRRm os (Reg.ofBits g) rm
  | 13 => do let (g, rm) ← modrmP as; return .bsrRRm os (Reg.ofBits g) rm
  | 14 => do let (g, rm) ← modrmP as; return .movsxRRm8 os (Reg.ofBits g) rm
  | 15 => if os = .s32 then do let (g, rm) ← modrmP as; return .movsxR32Rm16 (Reg.ofBits g) rm else unlisted
  | _ => unlisted

/-- The two-byte opcode map, after 0F (30_encoding.md R151). -/
def twoByte (os as : Sz) : P Instr := do
  let b ← byteP
  let lo := b.toNat % 16
  match b.toNat / 16 with
  | 0 => twoByteRow0 os as lo
  | 2 => twoByteRow2 os as lo
  | 8 => twoByteRow8 os as lo
  | 9 => twoByteRow9 os as lo
  | 10 => twoByteRowA os as lo
  | 11 => twoByteRowB os as lo
  | _ => unlisted

/-- Opcode 80: the group selected by the reg field (30_encoding.md R150, R151). -/
def group80 (_ as : Sz) : P Instr := do
  let (g, rm) ← modrmP as
  match g.toNat with
  | 0 =>
    let b ← byteP
    return .addRm8Imm8 rm b
  | 1 =>
    let b ← byteP
    return .orRm8Imm8 rm b
  | 2 =>
    let b ← byteP
    return .adcRm8Imm8 rm b
  | 3 =>
    let b ← byteP
    return .sbbRm8Imm8 rm b
  | 4 =>
    let b ← byteP
    return .andRm8Imm8 rm b
  | 5 =>
    let b ← byteP
    return .subRm8Imm8 rm b
  | 6 =>
    let b ← byteP
    return .xorRm8Imm8 rm b
  | _ =>
    let b ← byteP
    return .cmpRm8Imm8 rm b

/-- Opcode 81: the group selected by the reg field (30_encoding.md R150, R151). -/
def group81 (os as : Sz) : P Instr := do
  let (g, rm) ← modrmP as
  match g.toNat with
  | 0 =>
    let v ← immP os
    return .addRmImm rm v
  | 1 =>
    let v ← immP os
    return .orRmImm rm v
  | 2 =>
    let v ← immP os
    return .adcRmImm rm v
  | 3 =>
    let v ← immP os
    return .sbbRmImm rm v
  | 4 =>
    let v ← immP os
    return .andRmImm rm v
  | 5 =>
    let v ← immP os
    return .subRmImm rm v
  | 6 =>
    let v ← immP os
    return .xorRmImm rm v
  | _ =>
    let v ← immP os
    return .cmpRmImm rm v

/-- Opcode 83: the group selected by the reg field (30_encoding.md R150, R151). -/
def group83 (os as : Sz) : P Instr := do
  let (g, rm) ← modrmP as
  match g.toNat with
  | 0 =>
    let b ← byteP
    return .addRmImm8 os rm b
  | 1 =>
    let b ← byteP
    return .orRmImm8 os rm b
  | 2 =>
    let b ← byteP
    return .adcRmImm8 os rm b
  | 3 =>
    let b ← byteP
    return .sbbRmImm8 os rm b
  | 4 =>
    let b ← byteP
    return .andRmImm8 os rm b
  | 5 =>
    let b ← byteP
    return .subRmImm8 os rm b
  | 6 =>
    let b ← byteP
    return .xorRmImm8 os rm b
  | _ =>
    let b ← byteP
    return .cmpRmImm8 os rm b

/-- Opcode 8F: the group selected by the reg field (30_encoding.md R150, R151). -/
def group8F (os as : Sz) : P Instr := do
  let (g, rm) ← modrmP as
  match g.toNat with
  | 0 =>
    let m ← memOnly rm
    return .popMem os m
  | _ => unlisted

/-- Opcode C0: the group selected by the reg field (30_encoding.md R150, R151). -/
def groupC0 (_ as : Sz) : P Instr := do
  let (g, rm) ← modrmP as
  match g.toNat with
  | 0 =>
    let b ← byteP
    return .rolRm8Imm8 rm b
  | 1 =>
    let b ← byteP
    return .rorRm8Imm8 rm b
  | 2 =>
    let b ← byteP
    return .rclRm8Imm8 rm b
  | 3 =>
    let b ← byteP
    return .rcrRm8Imm8 rm b
  | 4 =>
    let b ← byteP
    return .salRm8Imm8 rm b
  | 5 =>
    let b ← byteP
    return .shrRm8Imm8 rm b
  | 7 =>
    let b ← byteP
    return .sarRm8Imm8 rm b
  | _ => unlisted

/-- Opcode C1: the group selected by the reg field (30_encoding.md R150, R151). -/
def groupC1 (os as : Sz) : P Instr := do
  let (g, rm) ← modrmP as
  match g.toNat with
  | 0 =>
    let b ← byteP
    return .rolRmImm8 os rm b
  | 1 =>
    let b ← byteP
    return .rorRmImm8 os rm b
  | 2 =>
    let b ← byteP
    return .rclRmImm8 os rm b
  | 3 =>
    let b ← byteP
    return .rcrRmImm8 os rm b
  | 4 =>
    let b ← byteP
    return .salRmImm8 os rm b
  | 5 =>
    let b ← byteP
    return .shrRmImm8 os rm b
  | 7 =>
    let b ← byteP
    return .sarRmImm8 os rm b
  | _ => unlisted

/-- Opcode C6: the group selected by the reg field (30_encoding.md R150, R151). -/
def groupC6 (_ as : Sz) : P Instr := do
  let (g, rm) ← modrmP as
  match g.toNat with
  | 0 =>
    let b ← byteP
    return .movRm8Imm8 rm b
  | _ => unlisted

/-- Opcode C7: the group selected by the reg field (30_encoding.md R150, R151). -/
def groupC7 (os as : Sz) : P Instr := do
  let (g, rm) ← modrmP as
  match g.toNat with
  | 0 =>
    let v ← immP os
    return .movRmImm rm v
  | _ => unlisted

/-- Opcode D0: the group selected by the reg field (30_encoding.md R150, R151). -/
def groupD0 (_ as : Sz) : P Instr := do
  let (g, rm) ← modrmP as
  match g.toNat with
  | 0 => return .rolRm8One rm
  | 1 => return .rorRm8One rm
  | 2 => return .rclRm8One rm
  | 3 => return .rcrRm8One rm
  | 4 => return .salRm8One rm
  | 5 => return .shrRm8One rm
  | 7 => return .sarRm8One rm
  | _ => unlisted

/-- Opcode D1: the group selected by the reg field (30_encoding.md R150, R151). -/
def groupD1 (os as : Sz) : P Instr := do
  let (g, rm) ← modrmP as
  match g.toNat with
  | 0 => return .rolRmOne os rm
  | 1 => return .rorRmOne os rm
  | 2 => return .rclRmOne os rm
  | 3 => return .rcrRmOne os rm
  | 4 => return .salRmOne os rm
  | 5 => return .shrRmOne os rm
  | 7 => return .sarRmOne os rm
  | _ => unlisted

/-- Opcode D2: the group selected by the reg field (30_encoding.md R150, R151). -/
def groupD2 (_ as : Sz) : P Instr := do
  let (g, rm) ← modrmP as
  match g.toNat with
  | 0 => return .rolRm8Cl rm
  | 1 => return .rorRm8Cl rm
  | 2 => return .rclRm8Cl rm
  | 3 => return .rcrRm8Cl rm
  | 4 => return .salRm8Cl rm
  | 5 => return .shrRm8Cl rm
  | 7 => return .sarRm8Cl rm
  | _ => unlisted

/-- Opcode D3: the group selected by the reg field (30_encoding.md R150, R151). -/
def groupD3 (os as : Sz) : P Instr := do
  let (g, rm) ← modrmP as
  match g.toNat with
  | 0 => return .rolRmCl os rm
  | 1 => return .rorRmCl os rm
  | 2 => return .rclRmCl os rm
  | 3 => return .rcrRmCl os rm
  | 4 => return .salRmCl os rm
  | 5 => return .shrRmCl os rm
  | 7 => return .sarRmCl os rm
  | _ => unlisted

/-- Opcode F6: the group selected by the reg field (30_encoding.md R150, R151). -/
def groupF6 (_ as : Sz) : P Instr := do
  let (g, rm) ← modrmP as
  match g.toNat with
  | 0 =>
    let b ← byteP
    return .testRm8Imm8 rm b
  | 2 => return .notRm8 rm
  | 3 => return .negRm8 rm
  | 4 => return .mulRm8 rm
  | 5 => return .imulRm8 rm
  | 6 => return .divRm8 rm
  | 7 => return .idivRm8 rm
  | _ => unlisted

/-- Opcode F7: the group selected by the reg field (30_encoding.md R150, R151). -/
def groupF7 (os as : Sz) : P Instr := do
  let (g, rm) ← modrmP as
  match g.toNat with
  | 0 =>
    let v ← immP os
    return .testRmImm rm v
  | 2 => return .notRm os rm
  | 3 => return .negRm os rm
  | 4 => return .mulRm os rm
  | 5 => return .imulRm os rm
  | 6 => return .divRm os rm
  | 7 => return .idivRm os rm
  | _ => unlisted

/-- Opcode FE: the group selected by the reg field (30_encoding.md R150, R151). -/
def groupFE (_ as : Sz) : P Instr := do
  let (g, rm) ← modrmP as
  match g.toNat with
  | 0 => return .incRm8 rm
  | 1 => return .decRm8 rm
  | _ => unlisted

/-- Opcode FF: the group selected by the reg field (30_encoding.md R150, R151). -/
def groupFF (os as : Sz) : P Instr := do
  let (g, rm) ← modrmP as
  match g.toNat with
  | 0 => return .incRm os rm
  | 1 => return .decRm os rm
  | 2 => return .callRm os rm
  | 3 => return .callFarMem os rm
  | 4 => return .jmpRm os rm
  | 5 => return .jmpFarMem os rm
  | 6 =>
    let m ← memOnly rm
    return .pushMem os m
  | _ => unlisted

/-- Row 0 of the one-byte opcode map (30_encoding.md R150), by the low four bits. -/
def oneByteRow0 (os as : Sz) (lo : Nat) : P Instr :=
  match lo with
  | 0 => do let (g, rm) ← modrmP as; return .addRm8R8 rm (Reg.ofBits g)
  | 1 => do let (g, rm) ← modrmP as; return .addRmR os rm (Reg.ofBits g)
  | 2 => do let (g, rm) ← modrmP as; return .addR8Rm8 (Reg.ofBits g) rm
  | 3 => do let (g, rm) ← modrmP as; return .addRRm os (Reg.ofBits g) rm
  | 4 => do let b ← byteP; return .addAlImm8 b
  | 5 => do let v ← immP os; return .addAccImm v
  | 6 => pure (.pushEs os)
  | 7 => pure (.popEs os)
  | 8 => do let (g, rm) ← modrmP as; return .orRm8R8 rm (Reg.ofBits g)
  | 9 => do let (g, rm) ← modrmP as; return .orRmR os rm (Reg.ofBits g)
  | 10 => do let (g, rm) ← modrmP as; return .orR8Rm8 (Reg.ofBits g) rm
  | 11 => do let (g, rm) ← modrmP as; return .orRRm os (Reg.ofBits g) rm
  | 12 => do let b ← byteP; return .orAlImm8 b
  | 13 => do let v ← immP os; return .orAccImm v
  | 14 => pure (.pushCs os)
  | _ => twoByte os as

/-- Row 1 of the one-byte opcode map (30_encoding.md R150), by the low four bits. -/
def oneByteRow1 (os as : Sz) (lo : Nat) : P Instr :=
  match lo with
  | 0 => do let (g, rm) ← modrmP as; return .adcRm8R8 rm (Reg.ofBits g)
  | 1 => do let (g, rm) ← modrmP as; return .adcRmR os rm (Reg.ofBits g)
  | 2 => do let (g, rm) ← modrmP as; return .adcR8Rm8 (Reg.ofBits g) rm
  | 3 => do let (g, rm) ← modrmP as; return .adcRRm os (Reg.ofBits g) rm
  | 4 => do let b ← byteP; return .adcAlImm8 b
  | 5 => do let v ← immP os; return .adcAccImm v
  | 6 => pure (.pushSs os)
  | 7 => pure (.popSs os)
  | 8 => do let (g, rm) ← modrmP as; return .sbbRm8R8 rm (Reg.ofBits g)
  | 9 => do let (g, rm) ← modrmP as; return .sbbRmR os rm (Reg.ofBits g)
  | 10 => do let (g, rm) ← modrmP as; return .sbbR8Rm8 (Reg.ofBits g) rm
  | 11 => do let (g, rm) ← modrmP as; return .sbbRRm os (Reg.ofBits g) rm
  | 12 => do let b ← byteP; return .sbbAlImm8 b
  | 13 => do let v ← immP os; return .sbbAccImm v
  | 14 => pure (.pushDs os)
  | _ => pure (.popDs os)

/-- Row 2 of the one-byte opcode map (30_encoding.md R150), by the low four bits. -/
def oneByteRow2 (os as : Sz) (lo : Nat) : P Instr :=
  match lo with
  | 0 => do let (g, rm) ← modrmP as; return .andRm8R8 rm (Reg.ofBits g)
  | 1 => do let (g, rm) ← modrmP as; return .andRmR os rm (Reg.ofBits g)
  | 2 => do let (g, rm) ← modrmP as; return .andR8Rm8 (Reg.ofBits g) rm
  | 3 => do let (g, rm) ← modrmP as; return .andRRm os (Reg.ofBits g) rm
  | 4 => do let b ← byteP; return .andAlImm8 b
  | 5 => do let v ← immP os; return .andAccImm v
  | 6 => pure .esPrefix
  | 7 => pure .daa
  | 8 => do let (g, rm) ← modrmP as; return .subRm8R8 rm (Reg.ofBits g)
  | 9 => do let (g, rm) ← modrmP as; return .subRmR os rm (Reg.ofBits g)
  | 10 => do let (g, rm) ← modrmP as; return .subR8Rm8 (Reg.ofBits g) rm
  | 11 => do let (g, rm) ← modrmP as; return .subRRm os (Reg.ofBits g) rm
  | 12 => do let b ← byteP; return .subAlImm8 b
  | 13 => do let v ← immP os; return .subAccImm v
  | 14 => pure .csPrefix
  | _ => pure .das

/-- Row 3 of the one-byte opcode map (30_encoding.md R150), by the low four bits. -/
def oneByteRow3 (os as : Sz) (lo : Nat) : P Instr :=
  match lo with
  | 0 => do let (g, rm) ← modrmP as; return .xorRm8R8 rm (Reg.ofBits g)
  | 1 => do let (g, rm) ← modrmP as; return .xorRmR os rm (Reg.ofBits g)
  | 2 => do let (g, rm) ← modrmP as; return .xorR8Rm8 (Reg.ofBits g) rm
  | 3 => do let (g, rm) ← modrmP as; return .xorRRm os (Reg.ofBits g) rm
  | 4 => do let b ← byteP; return .xorAlImm8 b
  | 5 => do let v ← immP os; return .xorAccImm v
  | 6 => pure .ssPrefix
  | 7 => pure .aaa
  | 8 => do let (g, rm) ← modrmP as; return .cmpRm8R8 rm (Reg.ofBits g)
  | 9 => do let (g, rm) ← modrmP as; return .cmpRmR os rm (Reg.ofBits g)
  | 10 => do let (g, rm) ← modrmP as; return .cmpR8Rm8 (Reg.ofBits g) rm
  | 11 => do let (g, rm) ← modrmP as; return .cmpRRm os (Reg.ofBits g) rm
  | 12 => do let b ← byteP; return .cmpAlImm8 b
  | 13 => do let v ← immP os; return .cmpAccImm v
  | 14 => pure .dsPrefix
  | _ => pure .aas

/-- Row 4 of the one-byte opcode map (30_encoding.md R150), by the low four bits. -/
def oneByteRow4 (os _ : Sz) (lo : Nat) : P Instr :=
  match lo with
  | 0 => pure (.incR os .ax)
  | 1 => pure (.incR os .cx)
  | 2 => pure (.incR os .dx)
  | 3 => pure (.incR os .bx)
  | 4 => pure (.incR os .sp)
  | 5 => pure (.incR os .bp)
  | 6 => pure (.incR os .si)
  | 7 => pure (.incR os .di)
  | 8 => pure (.decR os .ax)
  | 9 => pure (.decR os .cx)
  | 10 => pure (.decR os .dx)
  | 11 => pure (.decR os .bx)
  | 12 => pure (.decR os .sp)
  | 13 => pure (.decR os .bp)
  | 14 => pure (.decR os .si)
  | _ => pure (.decR os .di)

/-- Row 5 of the one-byte opcode map (30_encoding.md R150), by the low four bits. -/
def oneByteRow5 (os _ : Sz) (lo : Nat) : P Instr :=
  match lo with
  | 0 => pure (.pushR os .ax)
  | 1 => pure (.pushR os .cx)
  | 2 => pure (.pushR os .dx)
  | 3 => pure (.pushR os .bx)
  | 4 => pure (.pushR os .sp)
  | 5 => pure (.pushR os .bp)
  | 6 => pure (.pushR os .si)
  | 7 => pure (.pushR os .di)
  | 8 => pure (.popR os .ax)
  | 9 => pure (.popR os .cx)
  | 10 => pure (.popR os .dx)
  | 11 => pure (.popR os .bx)
  | 12 => pure (.popR os .sp)
  | 13 => pure (.popR os .bp)
  | 14 => pure (.popR os .si)
  | _ => pure (.popR os .di)

/-- Row 6 of the one-byte opcode map (30_encoding.md R150), by the low four bits. -/
def oneByteRow6 (os as : Sz) (lo : Nat) : P Instr :=
  match lo with
  | 0 => pure (.pusha os)
  | 1 => pure (.popa os)
  | 2 => do let (g, rm) ← modrmP as; return .bound os (Reg.ofBits g) rm
  | 3 => do let (g, rm) ← modrmP as; return .arplRmR rm (Reg.ofBits g)
  | 4 => pure .fsPrefix
  | 5 => pure .gsPrefix
  | 6 => pure .operandSizePrefix
  | 7 => pure .addressSizePrefix
  | 8 => do let v ← immP os; return .pushImm v
  | 9 => do let (g, rm) ← modrmP as; let v ← immP os; return .imulRRmImm (Reg.ofBits g) rm v
  | 10 => do let b ← byteP; return .pushImm8 os b
  | 11 => do let (g, rm) ← modrmP as; let b ← byteP; return .imulRRmImm8 os (Reg.ofBits g) rm b
  | 12 => pure (.insb as)
  | 13 => pure (.insw os as)
  | 14 => pure (.outsb as)
  | _ => pure (.outsw os as)

/-- Row 7 of the one-byte opcode map (30_encoding.md R150), by the low four bits. -/
def oneByteRow7 (os _ : Sz) (lo : Nat) : P Instr :=
  match lo with
  | 0 => do let b ← byteP; return .joRel8 os b
  | 1 => do let b ← byteP; return .jnoRel8 os b
  | 2 => do let b ← byteP; return .jbRel8 os b
  | 3 => do let b ← byteP; return .jaeRel8 os b
  | 4 => do let b ← byteP; return .jeRel8 os b
  | 5 => do let b ← byteP; return .jneRel8 os b
  | 6 => do let b ← byteP; return .jbeRel8 os b
  | 7 => do let b ← byteP; return .jaRel8 os b
  | 8 => do let b ← byteP; return .jsRel8 os b
  | 9 => do let b ← byteP; return .jnsRel8 os b
  | 10 => do let b ← byteP; return .jpRel8 os b
  | 11 => do let b ← byteP; return .jnpRel8 os b
  | 12 => do let b ← byteP; return .jlRel8 os b
  | 13 => do let b ← byteP; return .jgeRel8 os b
  | 14 => do let b ← byteP; return .jleRel8 os b
  | _ => do let b ← byteP; return .jgRel8 os b

/-- Row 8 of the one-byte opcode map (30_encoding.md R150), by the low four bits. -/
def oneByteRow8 (os as : Sz) (lo : Nat) : P Instr :=
  match lo with
  | 0 => group80 os as
  | 1 => group81 os as
  | 2 => pure .unassigned82
  | 3 => group83 os as
  | 4 => do let (g, rm) ← modrmP as; return .testRm8R8 rm (Reg.ofBits g)
  | 5 => do let (g, rm) ← modrmP as; return .testRmR os rm (Reg.ofBits g)
  | 6 => do let (g, rm) ← modrmP as; return .xchgRm8R8 rm (Reg.ofBits g)
  | 7 => do let (g, rm) ← modrmP as; return .xchgRmR os rm (Reg.ofBits g)
  | 8 => do let (g, rm) ← modrmP as; return .movRm8R8 rm (Reg.ofBits g)
  | 9 => do let (g, rm) ← modrmP as; return .movRmR os rm (Reg.ofBits g)
  | 10 => do let (g, rm) ← modrmP as; return .movR8Rm8 (Reg.ofBits g) rm
  | 11 => do let (g, rm) ← modrmP as; return .movRRm os (Reg.ofBits g) rm
  | 12 => do let (g, rm) ← modrmP as; return .movRmSreg os rm g
  | 13 => do let (g, rm) ← modrmP as; return .lea os (Reg.ofBits g) rm
  | 14 => do let (g, rm) ← modrmP as; return .movSregRm g rm
  | _ => group8F os as

/-- Row 9 of the one-byte opcode map (30_encoding.md R150), by the low four bits. -/
def oneByteRow9 (os _ : Sz) (lo : Nat) : P Instr :=
  match lo with
  | 0 => pure .nop
  | 1 => pure (.xchgAccR os .cx)
  | 2 => pure (.xchgAccR os .dx)
  | 3 => pure (.xchgAccR os .bx)
  | 4 => pure (.xchgAccR os .sp)
  | 5 => pure (.xchgAccR os .bp)
  | 6 => pure (.xchgAccR os .si)
  | 7 => pure (.xchgAccR os .di)
  | 8 => pure (.cbw os)
  | 9 => pure (.cwd os)
  | 10 => do let p ← farPtrP os; return .callFarPtr p
  | 11 => pure .wait
  | 12 => pure (.pushf os)
  | 13 => pure (.popf os)
  | 14 => pure .sahf
  | _ => pure .lahf

/-- Row A of the one-byte opcode map (30_encoding.md R150), by the low four bits. -/
def oneByteRowA (os as : Sz) (lo : Nat) : P Instr :=
  match lo with
  | 0 => do let o ← immP as; return .movAlMoffs o
  | 1 => do let o ← immP as; return .movAccMoffs os o
  | 2 => do let o ← immP as; return .movMoffsAl o
  | 3 => do let o ← immP as; return .movMoffsAcc os o
  | 4 => pure (.movsb as)
  | 5 => pure (.movsw os as)
  | 6 => pure (.cmpsb as)
  | 7 => pure (.cmpsw os as)
  | 8 => do let b ← byteP; return .testAlImm8 b
  | 9 => do let v ← immP os; return .testAccImm v
  | 10 => pure (.stosb as)
  | 11 => pure (.stosw os as)
  | 12 => pure (.lodsb as)
  | 13 => pure (.lodsw os as)
  | 14 => pure (.scasb as)
  | _ => pure (.scasw os as)

/-- Row B of the one-byte opcode map (30_encoding.md R150), by the low four bits. -/
def oneByteRowB (os _ : Sz) (lo : Nat) : P Instr :=
  match lo with
  | 0 => do let b ← byteP; return .movR8Imm8 .ax b
  | 1 => do let b ← byteP; return .movR8Imm8 .cx b
  | 2 => do let b ← byteP; return .movR8Imm8 .dx b
  | 3 => do let b ← byteP; return .movR8Imm8 .bx b
  | 4 => do let b ← byteP; return .movR8Imm8 .sp b
  | 5 => do let b ← byteP; return .movR8Imm8 .bp b
  | 6 => do let b ← byteP; return .movR8Imm8 .si b
  | 7 => do let b ← byteP; return .movR8Imm8 .di b
  | 8 => do let v ← immP os; return .movRImm .ax v
  | 9 => do let v ← immP os; return .movRImm .cx v
  | 10 => do let v ← immP os; return .movRImm .dx v
  | 11 => do let v ← immP os; return .movRImm .bx v
  | 12 => do let v ← immP os; return .movRImm .sp v
  | 13 => do let v ← immP os; return .movRImm .bp v
  | 14 => do let v ← immP os; return .movRImm .si v
  | _ => do let v ← immP os; return .movRImm .di v

/-- Row C of the one-byte opcode map (30_encoding.md R150), by the low four bits. -/
def oneByteRowC (os as : Sz) (lo : Nat) : P Instr :=
  match lo with
  | 0 => groupC0 os as
  | 1 => groupC1 os as
  | 2 => do let w ← wordP; return .retNearImm os w
  | 3 => pure (.retNear os)
  | 4 => do let (g, rm) ← modrmP as; return .les os (Reg.ofBits g) rm
  | 5 => do let (g, rm) ← modrmP as; return .lds os (Reg.ofBits g) rm
  | 6 => groupC6 os as
  | 7 => groupC7 os as
  | 8 => do let w ← wordP; let b ← byteP; return .enter os w b
  | 9 => pure (.leave os)
  | 10 => do let w ← wordP; return .retFarImm os w
  | 11 => pure (.retFar os)
  | 12 => pure .int3
  | 13 => do let b ← byteP; return .intImm8 b
  | 14 => pure .into
  | _ => pure (.iret os)

/-- Row D of the one-byte opcode map (30_encoding.md R150), by the low four bits. -/
def oneByteRowD (os as : Sz) (lo : Nat) : P Instr :=
  match lo with
  | 0 => groupD0 os as
  | 1 => groupD1 os as
  | 2 => groupD2 os as
  | 3 => groupD3 os as
  | 4 => do if (← byteP) = 0x0A#8 then return .aam else unlisted
  | 5 => do if (← byteP) = 0x0A#8 then return .aad else unlisted
  | 6 => pure .unassignedD6
  | 7 => pure (.xlat as)
  | 8 => pure (.esc 0#3)
  | 9 => pure (.esc 1#3)
  | 10 => pure (.esc 2#3)
  | 11 => pure (.esc 3#3)
  | 12 => pure (.esc 4#3)
  | 13 => pure (.esc 5#3)
  | 14 => pure (.esc 6#3)
  | _ => pure (.esc 7#3)

/-- Row E of the one-byte opcode map (30_encoding.md R150), by the low four bits. -/
def oneByteRowE (os as : Sz) (lo : Nat) : P Instr :=
  match lo with
  | 0 => do let b ← byteP; return .loopne os as b
  | 1 => do let b ← byteP; return .loope os as b
  | 2 => do let b ← byteP; return .loop os as b
  | 3 => do let b ← byteP; return .jcxz os as b
  | 4 => do let b ← byteP; return .inAlImm8 b
  | 5 => do let b ← byteP; return .inAccImm8 os b
  | 6 => do let b ← byteP; return .outImm8Al b
  | 7 => do let b ← byteP; return .outImm8Acc os b
  | 8 => do let v ← immP os; return .callRel v
  | 9 => do let v ← immP os; return .jmpRel v
  | 10 => do let p ← farPtrP os; return .jmpFarPtr p
  | 11 => do let b ← byteP; return .jmpRel8 os b
  | 12 => pure .inAlDx
  | 13 => pure (.inAccDx os)
  | 14 => pure .outDxAl
  | _ => pure (.outDxAcc os)

/-- Row F of the one-byte opcode map (30_encoding.md R150), by the low four bits. -/
def oneByteRowF (os as : Sz) (lo : Nat) : P Instr :=
  match lo with
  | 0 => pure .lockPrefix
  | 1 => pure .unassignedF1
  | 2 => pure .repnePrefix
  | 3 => pure .repPrefix
  | 4 => pure .hlt
  | 5 => pure .cmc
  | 6 => groupF6 os as
  | 7 => groupF7 os as
  | 8 => pure .clc
  | 9 => pure .stc
  | 10 => pure .cli
  | 11 => pure .sti
  | 12 => pure .cld
  | 13 => pure .std
  | 14 => groupFE os as
  | _ => groupFF os as

/-- The one-byte opcode map (30_encoding.md R150). -/
def oneByte (os as : Sz) : P Instr := do
  let b ← byteP
  let lo := b.toNat % 16
  match b.toNat / 16 with
  | 0 => oneByteRow0 os as lo
  | 1 => oneByteRow1 os as lo
  | 2 => oneByteRow2 os as lo
  | 3 => oneByteRow3 os as lo
  | 4 => oneByteRow4 os as lo
  | 5 => oneByteRow5 os as lo
  | 6 => oneByteRow6 os as lo
  | 7 => oneByteRow7 os as lo
  | 8 => oneByteRow8 os as lo
  | 9 => oneByteRow9 os as lo
  | 10 => oneByteRowA os as lo
  | 11 => oneByteRowB os as lo
  | 12 => oneByteRowC os as lo
  | 13 => oneByteRowD os as lo
  | 14 => oneByteRowE os as lo
  | _ => oneByteRowF os as lo

/-- Decode the first instruction, or one prefix byte, of a byte sequence under the given operand-size and address-size
attributes; the bytes that follow it are the rest. -/
def decodeOne (os as : Sz) (bs : List Byte) : Except DecodeError (Instr × List Byte) := oneByte os as bs

end

/-! The encoder: the bytes of a well-formed instruction, from the same tables. -/

/-- The bytes of a word, low byte first (20_memory.md R81). -/
def Word.le (w : Word) : List Byte := [w.extractLsb' 0 8, w.extractLsb' 8 8]

/-- The bytes of a doubleword, low byte first (20_memory.md R81). -/
def Dword.le (d : Dword) : List Byte :=
  [d.extractLsb' 0 8, d.extractLsb' 8 8, d.extractLsb' 16 8, d.extractLsb' 24 8]

/-- The bytes of an immediate or offset. -/
def Imm.le : Imm → List Byte
  | .i16 v => Word.le v
  | .i32 v => Dword.le v

/-- The bytes of a far pointer, offset first (30_encoding.md R146). -/
def FarPtr.le : FarPtr → List Byte
  | .p16 off sel => Word.le off ++ Word.le sel
  | .p32 off sel => Dword.le off ++ Word.le sel

/-- The ModRM byte (30_encoding.md R130). -/
def modrmByte (md : BitVec 2) (g rm : BitVec 3) : Byte := md ++ g ++ rm

/-- The mod field of a 16-bit displacement. -/
def Disp16.md : Disp16 → BitVec 2
  | .none => 0#2
  | .d8 _ => 1#2
  | .d16 _ => 2#2

/-- The bytes of a 16-bit displacement. -/
def Disp16.le : Disp16 → List Byte
  | .none => []
  | .d8 d => [d]
  | .d16 d => Word.le d

/-- The mod field of a 32-bit displacement. -/
def Disp32.md : Disp32 → BitVec 2
  | .none => 0#2
  | .d8 _ => 1#2
  | .d32 _ => 2#2

/-- The bytes of a 32-bit displacement. -/
def Disp32.le : Disp32 → List Byte
  | .none => []
  | .d8 d => [d]
  | .d32 d => Dword.le d

/-- ModRM, SIB and displacement of a memory operand, with the given reg field (30_encoding.md R131 to R133). -/
def Mem.enc (g : BitVec 3) : Mem → List Byte
  | .direct16 d => modrmByte 0#2 g 6#3 :: Word.le d
  | .based16 b d => modrmByte d.md g b.bits :: d.le
  | .direct32 d => modrmByte 0#2 g 5#3 :: Dword.le d
  | .based32 b d => modrmByte d.md g b.bits :: d.le
  | .sib scale index base d => modrmByte d.md g 4#3 :: modrmByte scale index.bits base.bits :: d.le
  | .sibNoBase scale index d => modrmByte 0#2 g 4#3 :: modrmByte scale index.bits 5#3 :: Dword.le d

/-- ModRM, SIB and displacement of an r/m operand, with the given reg field (30_encoding.md R130). -/
def Rm.enc (g : BitVec 3) : Rm → List Byte
  | .reg r => [modrmByte 3#2 g r.bits]
  | .mem m => m.enc g

/-- The one-byte opcode with a register number in its low three bits (30_encoding.md R127). -/
def plusR (op : Byte) (r : BitVec 3) : Byte := op + r.setWidth 8

/-- The bytes of an instruction, without prefixes. -/
def encode : Instr → List Byte
  | .lockPrefix => [0xF0#8]
  | .repnePrefix => [0xF2#8]
  | .repPrefix => [0xF3#8]
  | .esPrefix => [0x26#8]
  | .csPrefix => [0x2E#8]
  | .ssPrefix => [0x36#8]
  | .dsPrefix => [0x3E#8]
  | .fsPrefix => [0x64#8]
  | .gsPrefix => [0x65#8]
  | .operandSizePrefix => [0x66#8]
  | .addressSizePrefix => [0x67#8]
  | .addRm8R8 rm r => [0x00#8] ++ rm.enc r.bits
  | .addRmR _ rm r => [0x01#8] ++ rm.enc r.bits
  | .addR8Rm8 r rm => [0x02#8] ++ rm.enc r.bits
  | .addRRm _ r rm => [0x03#8] ++ rm.enc r.bits
  | .addAlImm8 b => [0x04#8] ++ [b]
  | .addAccImm v => [0x05#8] ++ v.le
  | .addRm8Imm8 rm b => [0x80#8] ++ rm.enc 0#3 ++ [b]
  | .addRmImm rm v => [0x81#8] ++ rm.enc 0#3 ++ v.le
  | .addRmImm8 _ rm b => [0x83#8] ++ rm.enc 0#3 ++ [b]
  | .orRm8R8 rm r => [0x08#8] ++ rm.enc r.bits
  | .orRmR _ rm r => [0x09#8] ++ rm.enc r.bits
  | .orR8Rm8 r rm => [0x0A#8] ++ rm.enc r.bits
  | .orRRm _ r rm => [0x0B#8] ++ rm.enc r.bits
  | .orAlImm8 b => [0x0C#8] ++ [b]
  | .orAccImm v => [0x0D#8] ++ v.le
  | .orRm8Imm8 rm b => [0x80#8] ++ rm.enc 1#3 ++ [b]
  | .orRmImm rm v => [0x81#8] ++ rm.enc 1#3 ++ v.le
  | .orRmImm8 _ rm b => [0x83#8] ++ rm.enc 1#3 ++ [b]
  | .adcRm8R8 rm r => [0x10#8] ++ rm.enc r.bits
  | .adcRmR _ rm r => [0x11#8] ++ rm.enc r.bits
  | .adcR8Rm8 r rm => [0x12#8] ++ rm.enc r.bits
  | .adcRRm _ r rm => [0x13#8] ++ rm.enc r.bits
  | .adcAlImm8 b => [0x14#8] ++ [b]
  | .adcAccImm v => [0x15#8] ++ v.le
  | .adcRm8Imm8 rm b => [0x80#8] ++ rm.enc 2#3 ++ [b]
  | .adcRmImm rm v => [0x81#8] ++ rm.enc 2#3 ++ v.le
  | .adcRmImm8 _ rm b => [0x83#8] ++ rm.enc 2#3 ++ [b]
  | .sbbRm8R8 rm r => [0x18#8] ++ rm.enc r.bits
  | .sbbRmR _ rm r => [0x19#8] ++ rm.enc r.bits
  | .sbbR8Rm8 r rm => [0x1A#8] ++ rm.enc r.bits
  | .sbbRRm _ r rm => [0x1B#8] ++ rm.enc r.bits
  | .sbbAlImm8 b => [0x1C#8] ++ [b]
  | .sbbAccImm v => [0x1D#8] ++ v.le
  | .sbbRm8Imm8 rm b => [0x80#8] ++ rm.enc 3#3 ++ [b]
  | .sbbRmImm rm v => [0x81#8] ++ rm.enc 3#3 ++ v.le
  | .sbbRmImm8 _ rm b => [0x83#8] ++ rm.enc 3#3 ++ [b]
  | .andRm8R8 rm r => [0x20#8] ++ rm.enc r.bits
  | .andRmR _ rm r => [0x21#8] ++ rm.enc r.bits
  | .andR8Rm8 r rm => [0x22#8] ++ rm.enc r.bits
  | .andRRm _ r rm => [0x23#8] ++ rm.enc r.bits
  | .andAlImm8 b => [0x24#8] ++ [b]
  | .andAccImm v => [0x25#8] ++ v.le
  | .andRm8Imm8 rm b => [0x80#8] ++ rm.enc 4#3 ++ [b]
  | .andRmImm rm v => [0x81#8] ++ rm.enc 4#3 ++ v.le
  | .andRmImm8 _ rm b => [0x83#8] ++ rm.enc 4#3 ++ [b]
  | .subRm8R8 rm r => [0x28#8] ++ rm.enc r.bits
  | .subRmR _ rm r => [0x29#8] ++ rm.enc r.bits
  | .subR8Rm8 r rm => [0x2A#8] ++ rm.enc r.bits
  | .subRRm _ r rm => [0x2B#8] ++ rm.enc r.bits
  | .subAlImm8 b => [0x2C#8] ++ [b]
  | .subAccImm v => [0x2D#8] ++ v.le
  | .subRm8Imm8 rm b => [0x80#8] ++ rm.enc 5#3 ++ [b]
  | .subRmImm rm v => [0x81#8] ++ rm.enc 5#3 ++ v.le
  | .subRmImm8 _ rm b => [0x83#8] ++ rm.enc 5#3 ++ [b]
  | .xorRm8R8 rm r => [0x30#8] ++ rm.enc r.bits
  | .xorRmR _ rm r => [0x31#8] ++ rm.enc r.bits
  | .xorR8Rm8 r rm => [0x32#8] ++ rm.enc r.bits
  | .xorRRm _ r rm => [0x33#8] ++ rm.enc r.bits
  | .xorAlImm8 b => [0x34#8] ++ [b]
  | .xorAccImm v => [0x35#8] ++ v.le
  | .xorRm8Imm8 rm b => [0x80#8] ++ rm.enc 6#3 ++ [b]
  | .xorRmImm rm v => [0x81#8] ++ rm.enc 6#3 ++ v.le
  | .xorRmImm8 _ rm b => [0x83#8] ++ rm.enc 6#3 ++ [b]
  | .cmpRm8R8 rm r => [0x38#8] ++ rm.enc r.bits
  | .cmpRmR _ rm r => [0x39#8] ++ rm.enc r.bits
  | .cmpR8Rm8 r rm => [0x3A#8] ++ rm.enc r.bits
  | .cmpRRm _ r rm => [0x3B#8] ++ rm.enc r.bits
  | .cmpAlImm8 b => [0x3C#8] ++ [b]
  | .cmpAccImm v => [0x3D#8] ++ v.le
  | .cmpRm8Imm8 rm b => [0x80#8] ++ rm.enc 7#3 ++ [b]
  | .cmpRmImm rm v => [0x81#8] ++ rm.enc 7#3 ++ v.le
  | .cmpRmImm8 _ rm b => [0x83#8] ++ rm.enc 7#3 ++ [b]
  | .aaa => [0x37#8]
  | .aas => [0x3F#8]
  | .aad => [0xD5#8, 0x0A#8]
  | .aam => [0xD4#8, 0x0A#8]
  | .daa => [0x27#8]
  | .das => [0x2F#8]
  | .arplRmR rm r => [0x63#8] ++ rm.enc r.bits
  | .bound _ r rm => [0x62#8] ++ rm.enc r.bits
  | .bsfRRm _ r rm => [0x0F#8, 0xBC#8] ++ rm.enc r.bits
  | .bsrRRm _ r rm => [0x0F#8, 0xBD#8] ++ rm.enc r.bits
  | .btRmR _ rm r => [0x0F#8, 0xA3#8] ++ rm.enc r.bits
  | .btRmImm8 _ rm b => [0x0F#8, 0xBA#8] ++ rm.enc 4#3 ++ [b]
  | .btcRmR _ rm r => [0x0F#8, 0xBB#8] ++ rm.enc r.bits
  | .btcRmImm8 _ rm b => [0x0F#8, 0xBA#8] ++ rm.enc 7#3 ++ [b]
  | .btrRmR _ rm r => [0x0F#8, 0xB3#8] ++ rm.enc r.bits
  | .btrRmImm8 _ rm b => [0x0F#8, 0xBA#8] ++ rm.enc 6#3 ++ [b]
  | .btsRmR _ rm r => [0x0F#8, 0xAB#8] ++ rm.enc r.bits
  | .btsRmImm8 _ rm b => [0x0F#8, 0xBA#8] ++ rm.enc 5#3 ++ [b]
  | .callRel v => [0xE8#8] ++ v.le
  | .callRm _ rm => [0xFF#8] ++ rm.enc 2#3
  | .callFarPtr p => [0x9A#8] ++ p.le
  | .callFarMem _ rm => [0xFF#8] ++ rm.enc 3#3
  | .cbw _ => [0x98#8]
  | .clc => [0xF8#8]
  | .cld => [0xFC#8]
  | .cli => [0xFA#8]
  | .clts => [0x0F#8, 0x06#8]
  | .cmc => [0xF5#8]
  | .cmpsb _ => [0xA6#8]
  | .cmpsw _ _ => [0xA7#8]
  | .cwd _ => [0x99#8]
  | .decRm8 rm => [0xFE#8] ++ rm.enc 1#3
  | .decRm _ rm => [0xFF#8] ++ rm.enc 1#3
  | .decR _ r => [plusR 0x48#8 r.bits]
  | .divRm8 rm => [0xF6#8] ++ rm.enc 6#3
  | .divRm _ rm => [0xF7#8] ++ rm.enc 6#3
  | .enter _ w b => [0xC8#8] ++ Word.le w ++ [b]
  | .hlt => [0xF4#8]
  | .idivRm8 rm => [0xF6#8] ++ rm.enc 7#3
  | .idivRm _ rm => [0xF7#8] ++ rm.enc 7#3
  | .imulRm8 rm => [0xF6#8] ++ rm.enc 5#3
  | .imulRm _ rm => [0xF7#8] ++ rm.enc 5#3
  | .imulRRm _ r rm => [0x0F#8, 0xAF#8] ++ rm.enc r.bits
  | .imulRRmImm8 _ r rm b => [0x6B#8] ++ rm.enc r.bits ++ [b]
  | .imulRRmImm r rm v => [0x69#8] ++ rm.enc r.bits ++ v.le
  | .inAlImm8 b => [0xE4#8] ++ [b]
  | .inAccImm8 _ b => [0xE5#8] ++ [b]
  | .inAlDx => [0xEC#8]
  | .inAccDx _ => [0xED#8]
  | .incRm8 rm => [0xFE#8] ++ rm.enc 0#3
  | .incRm _ rm => [0xFF#8] ++ rm.enc 0#3
  | .incR _ r => [plusR 0x40#8 r.bits]
  | .insb _ => [0x6C#8]
  | .insw _ _ => [0x6D#8]
  | .int3 => [0xCC#8]
  | .intImm8 b => [0xCD#8] ++ [b]
  | .into => [0xCE#8]
  | .iret _ => [0xCF#8]
  | .joRel8 _ b => [0x70#8] ++ [b]
  | .jnoRel8 _ b => [0x71#8] ++ [b]
  | .jbRel8 _ b => [0x72#8] ++ [b]
  | .jaeRel8 _ b => [0x73#8] ++ [b]
  | .jeRel8 _ b => [0x74#8] ++ [b]
  | .jneRel8 _ b => [0x75#8] ++ [b]
  | .jbeRel8 _ b => [0x76#8] ++ [b]
  | .jaRel8 _ b => [0x77#8] ++ [b]
  | .jsRel8 _ b => [0x78#8] ++ [b]
  | .jnsRel8 _ b => [0x79#8] ++ [b]
  | .jpRel8 _ b => [0x7A#8] ++ [b]
  | .jnpRel8 _ b => [0x7B#8] ++ [b]
  | .jlRel8 _ b => [0x7C#8] ++ [b]
  | .jgeRel8 _ b => [0x7D#8] ++ [b]
  | .jleRel8 _ b => [0x7E#8] ++ [b]
  | .jgRel8 _ b => [0x7F#8] ++ [b]
  | .joRel v => [0x0F#8, 0x80#8] ++ v.le
  | .jnoRel v => [0x0F#8, 0x81#8] ++ v.le
  | .jbRel v => [0x0F#8, 0x82#8] ++ v.le
  | .jaeRel v => [0x0F#8, 0x83#8] ++ v.le
  | .jeRel v => [0x0F#8, 0x84#8] ++ v.le
  | .jneRel v => [0x0F#8, 0x85#8] ++ v.le
  | .jbeRel v => [0x0F#8, 0x86#8] ++ v.le
  | .jaRel v => [0x0F#8, 0x87#8] ++ v.le
  | .jsRel v => [0x0F#8, 0x88#8] ++ v.le
  | .jnsRel v => [0x0F#8, 0x89#8] ++ v.le
  | .jpRel v => [0x0F#8, 0x8A#8] ++ v.le
  | .jnpRel v => [0x0F#8, 0x8B#8] ++ v.le
  | .jlRel v => [0x0F#8, 0x8C#8] ++ v.le
  | .jgeRel v => [0x0F#8, 0x8D#8] ++ v.le
  | .jleRel v => [0x0F#8, 0x8E#8] ++ v.le
  | .jgRel v => [0x0F#8, 0x8F#8] ++ v.le
  | .jcxz _ _ b => [0xE3#8] ++ [b]
  | .jmpRel8 _ b => [0xEB#8] ++ [b]
  | .jmpRel v => [0xE9#8] ++ v.le
  | .jmpRm _ rm => [0xFF#8] ++ rm.enc 4#3
  | .jmpFarPtr p => [0xEA#8] ++ p.le
  | .jmpFarMem _ rm => [0xFF#8] ++ rm.enc 5#3
  | .lahf => [0x9F#8]
  | .larRRm _ r rm => [0x0F#8, 0x02#8] ++ rm.enc r.bits
  | .lea _ r rm => [0x8D#8] ++ rm.enc r.bits
  | .leave _ => [0xC9#8]
  | .lgdt _ rm => [0x0F#8, 0x01#8] ++ rm.enc 2#3
  | .lidt _ rm => [0x0F#8, 0x01#8] ++ rm.enc 3#3
  | .lds _ r rm => [0xC5#8] ++ rm.enc r.bits
  | .les _ r rm => [0xC4#8] ++ rm.enc r.bits
  | .lfs _ r rm => [0x0F#8, 0xB4#8] ++ rm.enc r.bits
  | .lgs _ r rm => [0x0F#8, 0xB5#8] ++ rm.enc r.bits
  | .lss _ r rm => [0x0F#8, 0xB2#8] ++ rm.enc r.bits
  | .lldt rm => [0x0F#8, 0x00#8] ++ rm.enc 2#3
  | .lmsw rm => [0x0F#8, 0x01#8] ++ rm.enc 6#3
  | .lodsb _ => [0xAC#8]
  | .lodsw _ _ => [0xAD#8]
  | .loop _ _ b => [0xE2#8] ++ [b]
  | .loope _ _ b => [0xE1#8] ++ [b]
  | .loopne _ _ b => [0xE0#8] ++ [b]
  | .lslRRm _ r rm => [0x0F#8, 0x03#8] ++ rm.enc r.bits
  | .ltr rm => [0x0F#8, 0x00#8] ++ rm.enc 3#3
  | .movRm8R8 rm r => [0x88#8] ++ rm.enc r.bits
  | .movRmR _ rm r => [0x89#8] ++ rm.enc r.bits
  | .movR8Rm8 r rm => [0x8A#8] ++ rm.enc r.bits
  | .movRRm _ r rm => [0x8B#8] ++ rm.enc r.bits
  | .movRmSreg _ rm f => [0x8C#8] ++ rm.enc f
  | .movSregRm f rm => [0x8E#8] ++ rm.enc f
  | .movAlMoffs o => [0xA0#8] ++ o.le
  | .movAccMoffs _ o => [0xA1#8] ++ o.le
  | .movMoffsAl o => [0xA2#8] ++ o.le
  | .movMoffsAcc _ o => [0xA3#8] ++ o.le
  | .movR8Imm8 r b => [plusR 0xB0#8 r.bits] ++ [b]
  | .movRImm r v => [plusR 0xB8#8 r.bits] ++ v.le
  | .movRm8Imm8 rm b => [0xC6#8] ++ rm.enc 0#3 ++ [b]
  | .movRmImm rm v => [0xC7#8] ++ rm.enc 0#3 ++ v.le
  | .movRCr r c => [0x0F#8, 0x20#8, modrmByte 3#2 c.bits r.bits]
  | .movCrR c r => [0x0F#8, 0x22#8, modrmByte 3#2 c.bits r.bits]
  | .movRDr r d => [0x0F#8, 0x21#8, modrmByte 3#2 d.bits r.bits]
  | .movDrR d r => [0x0F#8, 0x23#8, modrmByte 3#2 d.bits r.bits]
  | .movRTr r t => [0x0F#8, 0x24#8, modrmByte 3#2 t.bits r.bits]
  | .movTrR t r => [0x0F#8, 0x26#8, modrmByte 3#2 t.bits r.bits]
  | .movsb _ => [0xA4#8]
  | .movsw _ _ => [0xA5#8]
  | .movsxRRm8 _ r rm => [0x0F#8, 0xBE#8] ++ rm.enc r.bits
  | .movsxR32Rm16 r rm => [0x0F#8, 0xBF#8] ++ rm.enc r.bits
  | .movzxRRm8 _ r rm => [0x0F#8, 0xB6#8] ++ rm.enc r.bits
  | .movzxR32Rm16 r rm => [0x0F#8, 0xB7#8] ++ rm.enc r.bits
  | .mulRm8 rm => [0xF6#8] ++ rm.enc 4#3
  | .mulRm _ rm => [0xF7#8] ++ rm.enc 4#3
  | .negRm8 rm => [0xF6#8] ++ rm.enc 3#3
  | .negRm _ rm => [0xF7#8] ++ rm.enc 3#3
  | .nop => [0x90#8]
  | .notRm8 rm => [0xF6#8] ++ rm.enc 2#3
  | .notRm _ rm => [0xF7#8] ++ rm.enc 2#3
  | .outImm8Al b => [0xE6#8] ++ [b]
  | .outImm8Acc _ b => [0xE7#8] ++ [b]
  | .outDxAl => [0xEE#8]
  | .outDxAcc _ => [0xEF#8]
  | .outsb _ => [0x6E#8]
  | .outsw _ _ => [0x6F#8]
  | .popMem _ m => [0x8F#8] ++ m.enc 0#3
  | .popR _ r => [plusR 0x58#8 r.bits]
  | .popDs _ => [0x1F#8]
  | .popEs _ => [0x07#8]
  | .popSs _ => [0x17#8]
  | .popFs _ => [0x0F#8, 0xA1#8]
  | .popGs _ => [0x0F#8, 0xA9#8]
  | .popa _ => [0x61#8]
  | .popf _ => [0x9D#8]
  | .pushMem _ m => [0xFF#8] ++ m.enc 6#3
  | .pushR _ r => [plusR 0x50#8 r.bits]
  | .pushImm8 _ b => [0x6A#8] ++ [b]
  | .pushImm v => [0x68#8] ++ v.le
  | .pushCs _ => [0x0E#8]
  | .pushSs _ => [0x16#8]
  | .pushDs _ => [0x1E#8]
  | .pushEs _ => [0x06#8]
  | .pushFs _ => [0x0F#8, 0xA0#8]
  | .pushGs _ => [0x0F#8, 0xA8#8]
  | .pusha _ => [0x60#8]
  | .pushf _ => [0x9C#8]
  | .rolRm8One rm => [0xD0#8] ++ rm.enc 0#3
  | .rolRm8Cl rm => [0xD2#8] ++ rm.enc 0#3
  | .rolRm8Imm8 rm b => [0xC0#8] ++ rm.enc 0#3 ++ [b]
  | .rolRmOne _ rm => [0xD1#8] ++ rm.enc 0#3
  | .rolRmCl _ rm => [0xD3#8] ++ rm.enc 0#3
  | .rolRmImm8 _ rm b => [0xC1#8] ++ rm.enc 0#3 ++ [b]
  | .rorRm8One rm => [0xD0#8] ++ rm.enc 1#3
  | .rorRm8Cl rm => [0xD2#8] ++ rm.enc 1#3
  | .rorRm8Imm8 rm b => [0xC0#8] ++ rm.enc 1#3 ++ [b]
  | .rorRmOne _ rm => [0xD1#8] ++ rm.enc 1#3
  | .rorRmCl _ rm => [0xD3#8] ++ rm.enc 1#3
  | .rorRmImm8 _ rm b => [0xC1#8] ++ rm.enc 1#3 ++ [b]
  | .rclRm8One rm => [0xD0#8] ++ rm.enc 2#3
  | .rclRm8Cl rm => [0xD2#8] ++ rm.enc 2#3
  | .rclRm8Imm8 rm b => [0xC0#8] ++ rm.enc 2#3 ++ [b]
  | .rclRmOne _ rm => [0xD1#8] ++ rm.enc 2#3
  | .rclRmCl _ rm => [0xD3#8] ++ rm.enc 2#3
  | .rclRmImm8 _ rm b => [0xC1#8] ++ rm.enc 2#3 ++ [b]
  | .rcrRm8One rm => [0xD0#8] ++ rm.enc 3#3
  | .rcrRm8Cl rm => [0xD2#8] ++ rm.enc 3#3
  | .rcrRm8Imm8 rm b => [0xC0#8] ++ rm.enc 3#3 ++ [b]
  | .rcrRmOne _ rm => [0xD1#8] ++ rm.enc 3#3
  | .rcrRmCl _ rm => [0xD3#8] ++ rm.enc 3#3
  | .rcrRmImm8 _ rm b => [0xC1#8] ++ rm.enc 3#3 ++ [b]
  | .salRm8One rm => [0xD0#8] ++ rm.enc 4#3
  | .salRm8Cl rm => [0xD2#8] ++ rm.enc 4#3
  | .salRm8Imm8 rm b => [0xC0#8] ++ rm.enc 4#3 ++ [b]
  | .salRmOne _ rm => [0xD1#8] ++ rm.enc 4#3
  | .salRmCl _ rm => [0xD3#8] ++ rm.enc 4#3
  | .salRmImm8 _ rm b => [0xC1#8] ++ rm.enc 4#3 ++ [b]
  | .shrRm8One rm => [0xD0#8] ++ rm.enc 5#3
  | .shrRm8Cl rm => [0xD2#8] ++ rm.enc 5#3
  | .shrRm8Imm8 rm b => [0xC0#8] ++ rm.enc 5#3 ++ [b]
  | .shrRmOne _ rm => [0xD1#8] ++ rm.enc 5#3
  | .shrRmCl _ rm => [0xD3#8] ++ rm.enc 5#3
  | .shrRmImm8 _ rm b => [0xC1#8] ++ rm.enc 5#3 ++ [b]
  | .sarRm8One rm => [0xD0#8] ++ rm.enc 7#3
  | .sarRm8Cl rm => [0xD2#8] ++ rm.enc 7#3
  | .sarRm8Imm8 rm b => [0xC0#8] ++ rm.enc 7#3 ++ [b]
  | .sarRmOne _ rm => [0xD1#8] ++ rm.enc 7#3
  | .sarRmCl _ rm => [0xD3#8] ++ rm.enc 7#3
  | .sarRmImm8 _ rm b => [0xC1#8] ++ rm.enc 7#3 ++ [b]
  | .retNear _ => [0xC3#8]
  | .retNearImm _ w => [0xC2#8] ++ Word.le w
  | .retFar _ => [0xCB#8]
  | .retFarImm _ w => [0xCA#8] ++ Word.le w
  | .sahf => [0x9E#8]
  | .scasb _ => [0xAE#8]
  | .scasw _ _ => [0xAF#8]
  | .seto rm => [0x0F#8, 0x90#8] ++ rm.enc 0#3
  | .setno rm => [0x0F#8, 0x91#8] ++ rm.enc 0#3
  | .setb rm => [0x0F#8, 0x92#8] ++ rm.enc 0#3
  | .setae rm => [0x0F#8, 0x93#8] ++ rm.enc 0#3
  | .sete rm => [0x0F#8, 0x94#8] ++ rm.enc 0#3
  | .setne rm => [0x0F#8, 0x95#8] ++ rm.enc 0#3
  | .setbe rm => [0x0F#8, 0x96#8] ++ rm.enc 0#3
  | .seta rm => [0x0F#8, 0x97#8] ++ rm.enc 0#3
  | .sets rm => [0x0F#8, 0x98#8] ++ rm.enc 0#3
  | .setns rm => [0x0F#8, 0x99#8] ++ rm.enc 0#3
  | .setp rm => [0x0F#8, 0x9A#8] ++ rm.enc 0#3
  | .setnp rm => [0x0F#8, 0x9B#8] ++ rm.enc 0#3
  | .setl rm => [0x0F#8, 0x9C#8] ++ rm.enc 0#3
  | .setge rm => [0x0F#8, 0x9D#8] ++ rm.enc 0#3
  | .setle rm => [0x0F#8, 0x9E#8] ++ rm.enc 0#3
  | .setg rm => [0x0F#8, 0x9F#8] ++ rm.enc 0#3
  | .sgdt _ rm => [0x0F#8, 0x01#8] ++ rm.enc 0#3
  | .sidt _ rm => [0x0F#8, 0x01#8] ++ rm.enc 1#3
  | .shldRmRImm8 _ rm r b => [0x0F#8, 0xA4#8] ++ rm.enc r.bits ++ [b]
  | .shldRmRCl _ rm r => [0x0F#8, 0xA5#8] ++ rm.enc r.bits
  | .shrdRmRImm8 _ rm r b => [0x0F#8, 0xAC#8] ++ rm.enc r.bits ++ [b]
  | .shrdRmRCl _ rm r => [0x0F#8, 0xAD#8] ++ rm.enc r.bits
  | .sldt rm => [0x0F#8, 0x00#8] ++ rm.enc 0#3
  | .smsw rm => [0x0F#8, 0x01#8] ++ rm.enc 4#3
  | .stc => [0xF9#8]
  | .std => [0xFD#8]
  | .sti => [0xFB#8]
  | .stosb _ => [0xAA#8]
  | .stosw _ _ => [0xAB#8]
  | .str rm => [0x0F#8, 0x00#8] ++ rm.enc 1#3
  | .testAlImm8 b => [0xA8#8] ++ [b]
  | .testAccImm v => [0xA9#8] ++ v.le
  | .testRm8Imm8 rm b => [0xF6#8] ++ rm.enc 0#3 ++ [b]
  | .testRmImm rm v => [0xF7#8] ++ rm.enc 0#3 ++ v.le
  | .testRm8R8 rm r => [0x84#8] ++ rm.enc r.bits
  | .testRmR _ rm r => [0x85#8] ++ rm.enc r.bits
  | .verr rm => [0x0F#8, 0x00#8] ++ rm.enc 4#3
  | .verw rm => [0x0F#8, 0x00#8] ++ rm.enc 5#3
  | .wait => [0x9B#8]
  | .xchgAccR _ r => [plusR 0x90#8 r.bits]
  | .xchgRm8R8 rm r => [0x86#8] ++ rm.enc r.bits
  | .xchgRmR _ rm r => [0x87#8] ++ rm.enc r.bits
  | .xlat _ => [0xD7#8]
  | .esc i => [plusR 0xD8#8 i]
  | .unassigned82 => [0x82#8]
  | .unassignedD6 => [0xD6#8]
  | .unassignedF1 => [0xF1#8]

/-! The host's view of the decoder: one row of the opcode table as a number. -/

/-- Bits 8k to 8k+7 of a number, as a byte. -/
def byteOf (w k : Nat) : Byte := BitVec.ofNat 8 (w / 2 ^ (8 * k))

/-- The longest instruction's worth of bytes of a number of `nbits` bits, byte 0 first; the bits above are 0. -/
def bytesOfWord (nbits w : Nat) : List Byte :=
  (List.range Config.maxInstrLength).map (byteOf (w % 2 ^ nbits))

/-- The instruction the decoder reads from the bytes of `w`, first with the size attributes in force after reset (16, 16)
and, for a row the table gives only for operand size 32, with operand size 32. Log entry 8. -/
noncomputable def decodeTableWord (nbits w : Nat) : Option Instr :=
  match decodeOne .s16 .s16 (bytesOfWord nbits w) with
  | .ok (i, _) => some i
  | .error _ =>
    match decodeOne .s32 .s16 (bytesOfWord nbits w) with
    | .ok (i, _) => some i
    | .error _ => none

end Sys2Proof
end

