-- ==== Sys2Proof/Machine/State.lean ====
section
/-! DEFINITION. The state of the 80386 as plain data (10_state.md R30 to R57), the machine's fault and refusals, and the
state after reset (70_reset_and_hazards.md R560). INVENTORY.md lists every field with the rule that names it. -/

namespace Sys2Proof.Machine

/-- The eight 32-bit general registers (10_state.md R31). -/
structure GeneralRegs where
  eax : Dword
  ecx : Dword
  edx : Dword
  ebx : Dword
  esp : Dword
  ebp : Dword
  esi : Dword
  edi : Dword
  deriving DecidableEq, Repr

/-- The named flags of EFLAGS; the reserved bits are constants (10_state.md R36). `ie` is IF and `ov` is OF. -/
structure Flags where
  cf : Bool
  pf : Bool
  af : Bool
  zf : Bool
  sf : Bool
  tf : Bool
  ie : Bool
  df : Bool
  ov : Bool
  iopl : BitVec 2
  nt : Bool
  rf : Bool
  vm : Bool
  deriving DecidableEq, Repr

/-- A segment register, LDTR or TR: the visible selector and the hidden part (10_state.md R40, R45). `typ`, `s`, `dpl`,
`p`, `db`, `g` are the descriptor's attributes (20_memory.md R86); `limit` is in bytes (R87). -/
structure SegReg where
  sel : Word
  base : Dword
  limit : Dword
  typ : BitVec 4
  s : Bool
  dpl : BitVec 2
  p : Bool
  db : Bool
  g : Bool
  valid : Bool
  deriving DecidableEq, Repr

/-- GDTR or IDTR: a linear base and a 16-bit limit (10_state.md R44). -/
structure TableReg where
  base : Dword
  limit : Word
  deriving DecidableEq, Repr

/-- CR0 (10_state.md R46): PE bit 0, MP bit 1, EM bit 2, TS bit 3, ET bit 4, the reserved bits 30:5, PG bit 31. -/
structure Cr0 where
  pe : Bool
  mp : Bool
  em : Bool
  ts : Bool
  et : Bool
  res : BitVec 26
  pg : Bool
  deriving DecidableEq, Repr

/-- The interrupt shadow (10_state.md R50, 70_reset_and_hazards.md R570). -/
inductive Inhibit where
  | none
  | all
  | sti
  deriving DecidableEq, Repr

/-- A repeat prefix: F2 or F3 (30_encoding.md R121). -/
inductive Rep where
  | repne
  | repe
  deriving DecidableEq, Repr

/-- The prefixes of the instruction in progress (30_encoding.md R121). The MODEL's own field (log entry 7). -/
structure Prefixes where
  lock : Bool
  rep : Option Rep
  seg : Option Sreg
  osz : Bool
  asz : Bool
  deriving DecidableEq, Repr

/-- No prefix. -/
def Prefixes.none : Prefixes := { lock := false, rep := Option.none, seg := Option.none, osz := false, asz := false }

/-- A translation: the frame of a page, and the permissions of both its entries together (20_memory.md R101, R102). -/
structure TlbEntry where
  frame : BitVec 20
  rw : Bool
  us : Bool
  deriving DecidableEq, Repr

/-- A change software made to a directory or page-table entry since the TLB was last flushed: the address of the entry and
the value it had before (20_memory.md R104, log entry 10). -/
structure OldEntry where
  addr : Dword
  value : Dword
  deriving DecidableEq, Repr

/-- The instruction prefetch queue (10_state.md R51) as far as a program can see it: the bytes it may still hold where a fetch
would now read others, each with its linear address (20_memory.md R112); whether the instruction in progress emptied the
queue (the MODEL's own mark); whether the next instruction must be a JMP (70_reset_and_hazards.md R572). -/
structure Queue where
  stale : List Host.Cell
  flushed : Bool
  jumpNeeded : Bool
  deriving DecidableEq, Repr

/-- The inputs the processor samples between steps (60_exceptions.md R520 to R524): INTR with its vector, RESET, and the
BUSY# and ERROR# pins as "asserted". The environment sets them; no step clears them. -/
structure Pins where
  intr : Option Byte
  reset : Bool
  busy : Bool
  error : Bool
  deriving DecidableEq, Repr

/-- An access to the I/O ports (92_eei_decisions.md D17). -/
inductive PortEvent where
  | read (port : Word) (w : Width) (value : Dword)
  | write (port : Word) (w : Width) (value : Dword)
  deriving DecidableEq, Repr

/-- The complete state (10_state.md R30). -/
structure State where
  /-- the general registers, R31 -/
  regs : GeneralRegs
  /-- EIP, the offset of the instruction to execute, R35 (`pc` while one executes) -/
  eip : Dword
  /-- the offset of the byte after the instruction in progress, R35 -/
  next : Dword
  /-- EFLAGS, R36 -/
  flags : Flags
  es : SegReg
  cs : SegReg
  ss : SegReg
  ds : SegReg
  fs : SegReg
  gs : SegReg
  /-- the current privilege level, R43 -/
  cpl : BitVec 2
  gdtr : TableReg
  idtr : TableReg
  ldtr : SegReg
  tr : SegReg
  cr0 : Cr0
  cr2 : Dword
  cr3 : Dword
  dr0 : Dword
  dr1 : Dword
  dr2 : Dword
  dr3 : Dword
  dr6 : Dword
  dr7 : Dword
  tr6 : Dword
  tr7 : Dword
  /-- the interrupt shadow, R50 -/
  inhibit : Inhibit
  /-- set by HLT, R53 -/
  halted : Bool
  /-- R53, 60_exceptions.md R548 -/
  shutdown : Bool
  /-- an NMI handler is in progress, R57 -/
  nmiBlocked : Bool
  /-- the latched NMI, 60_exceptions.md R522 -/
  nmiPending : Bool
  /-- the pending single-step trap, 60_exceptions.md R545 -/
  trapPending : Bool
  /-- what the TLB may still hold: the changes to the page tables since it was flushed, newest first, 20_memory.md R104 -/
  tlb : List OldEntry
  /-- every translation is unspecified until CR3 is written, 20_memory.md R104 -/
  tlbUndef : Bool
  queue : Queue
  pfx : Prefixes
  /-- memory in canonical form, 20_memory.md R80 -/
  mem : List Host.Cell
  pins : Pins
  /-- the port accesses made, newest first, 92_eei_decisions.md D17 -/
  ioLog : List PortEvent
  /-- how many free values have been drawn (log entry 4) -/
  draws : Nat
  deriving DecidableEq, Repr

/-- Why the machine stops with a fault. -/
inductive Fault where
  /-- `step` on a state with EFLAGS.VM = 1 and CR0.PE = 0, which "does not occur" (00_scope.md R6). No run from reset
  reaches it. Safe: the model only stops. -/
  | vmWithoutProtection
  deriving DecidableEq, Repr

/-- Why the model gives no next state. Every one is safe: the model claims nothing there. -/
inductive Refusal where
  /-- Raised by `exec` for an instruction that has no meaning yet. -/
  | notModelled (mnemonic : String)
  /-- Raised by `step` and by the three unassigned rows: an encoding no page lists (30_encoding.md R170, D21). -/
  | unlistedEncoding
  /-- Raised by ESC with EM = TS = 0: the coprocessor is outside the spec (92_eei_decisions.md D12). -/
  | coprocessor
  /-- Raised by a prefix: two different segment overrides, or F2 with F3 (30_encoding.md R122 e, D22). -/
  | conflictingPrefixes
  /-- Raised by MOV DR7 setting an enable bit, and by `step` on such a state (60_exceptions.md R546, 10_state.md R48). -/
  | breakpointEnable
  /-- Raised by a task switch to a TSS whose T bit is 1 (60_exceptions.md R546). -/
  | tssTrapBit
  /-- Raised by MOV CR0 making PG = 1 with PE = 0, and by `step` on such a state (92_eei_decisions.md D18). -/
  | pagingWithoutProtection
  /-- Raised by `step`: a change of PE or a setting of PG is not followed by a JMP (70_reset_and_hazards.md R572). -/
  | noJumpAfterModeSwitch
  /-- Raised by delivery from V86 mode through a 16-bit gate (42_i.md R289, 93_implementation_defined.md U3). -/
  | v86Gate16
  deriving DecidableEq, Repr

/-- A segment register after a load in Real Address Mode or V86 mode (10_state.md R41). -/
def SegReg.real (sel : Word) (dpl : BitVec 2) : SegReg :=
  { sel := sel, base := sel.setWidth 32 <<< 4, limit := 0xFFFF#32, typ := 3#4, s := true, dpl := dpl, p := true,
    db := false, g := false, valid := true }

/-- LDTR and TR after reset: selector 0, hidden part not valid (10_state.md R30). Log entry 1. -/
def SegReg.empty : SegReg :=
  { sel := 0#16, base := 0#32, limit := 0#32, typ := 0#4, s := false, dpl := 0#2, p := false, db := false,
    g := false, valid := false }

/-- The reset event (70_reset_and_hazards.md R560): every element of the reset table takes its value; memory, the inputs,
the ports' event log and the draw counter are what they were. What the table leaves unspecified is named in log entries 1 and 2.
The table does not give D/B, G and DPL of CS, SS, DS, ES, FS and GS: all are 0, as after a real-mode load, a DESIGN CHOICE, log
entry 61. -/
def State.afterReset (mem : List Host.Cell) (pins : Pins) (ioLog : List PortEvent) (draws : Nat) : State :=
  { regs := { eax := Config.resetEAX, ecx := 0#32, edx := Config.resetEDX, ebx := 0#32, esp := 0#32, ebp := 0#32,
              esi := 0#32, edi := 0#32 }
    eip := 0x0000FFF0#32
    next := 0x0000FFF0#32
    flags := { cf := false, pf := false, af := false, zf := false, sf := false, tf := false, ie := false, df := false,
               ov := false, iopl := 0#2, nt := false, rf := false, vm := false }
    es := SegReg.real 0#16 0#2
    cs := { SegReg.real 0xF000#16 0#2 with base := 0xFFFF0000#32 }
    ss := SegReg.real 0#16 0#2
    ds := SegReg.real 0#16 0#2
    fs := SegReg.real 0#16 0#2
    gs := SegReg.real 0#16 0#2
    cpl := 0#2
    gdtr := { base := 0#32, limit := 0xFFFF#16 }
    idtr := { base := 0#32, limit := 0x03FF#16 }
    ldtr := SegReg.empty
    tr := SegReg.empty
    cr0 := { pe := false, mp := false, em := false, ts := false, et := Config.resetET, res := 0#26, pg := false }
    cr2 := 0#32
    cr3 := 0#32
    dr0 := 0#32
    dr1 := 0#32
    dr2 := 0#32
    dr3 := 0#32
    dr6 := 0#32
    dr7 := 0#32
    tr6 := 0#32
    tr7 := 0#32
    inhibit := .none
    halted := false
    shutdown := false
    nmiBlocked := false
    nmiPending := false
    trapPending := false
    tlb := []
    tlbUndef := true
    queue := { stale := [], flushed := false, jumpNeeded := false }
    pfx := Prefixes.none
    mem := mem
    pins := pins
    ioLog := ioLog
    draws := draws }

/-- The machine right after reset (70_reset_and_hazards.md R560): nothing listed in memory, no input asserted. -/
def State.reset : State :=
  State.afterReset [] { intr := none, reset := false, busy := false, error := false } [] 0

end Sys2Proof.Machine
end

