-- ==== Sys2Proof/Machine/Flags.lean ====
section
/-! DEFINITION. EFLAGS as a word, the status-flag functions of 10_state.md R37, and the condition codes of
30_encoding.md R160. -/

namespace Sys2Proof.Machine

/-- The low sixteen bits of EFLAGS (10_state.md R36): the named flags in their places, bit 1 reads 1, bits 3, 5, 15
read 0. -/
def flagsLow (f : Flags) : Word :=
  BitVec.ofBool false ++ BitVec.ofBool f.nt ++ f.iopl ++ BitVec.ofBool f.ov ++ BitVec.ofBool f.df ++ BitVec.ofBool f.ie
    ++ BitVec.ofBool f.tf ++ BitVec.ofBool f.sf ++ BitVec.ofBool f.zf ++ BitVec.ofBool false ++ BitVec.ofBool f.af
    ++ BitVec.ofBool false ++ BitVec.ofBool f.pf ++ BitVec.ofBool true ++ BitVec.ofBool f.cf

/-- EFLAGS (10_state.md R36): RF is bit 16, VM bit 17, bits 31:18 read 0 (92_eei_decisions.md D5). -/
def eflags (f : Flags) : Dword := 0#14 ++ BitVec.ofBool f.vm ++ BitVec.ofBool f.rf ++ flagsLow f

/-- The flags an image of EFLAGS holds; the reserved bits of the image are ignored (10_state.md R36). -/
def flagsOfWord (v : Dword) : Flags :=
  { cf := v.getLsbD 0, pf := v.getLsbD 2, af := v.getLsbD 4, zf := v.getLsbD 6, sf := v.getLsbD 7, tf := v.getLsbD 8,
    ie := v.getLsbD 9, df := v.getLsbD 10, ov := v.getLsbD 11, iopl := v.extractLsb' 12 2, nt := v.getLsbD 14,
    rf := v.getLsbD 16, vm := v.getLsbD 17 }

/-- PF: the low byte has an even number of 1 bits (10_state.md R37). -/
def parity {n : Nat} (r : BitVec n) : Bool :=
  !(r.getLsbD 0 ^^ r.getLsbD 1 ^^ r.getLsbD 2 ^^ r.getLsbD 3 ^^ r.getLsbD 4 ^^ r.getLsbD 5 ^^ r.getLsbD 6
    ^^ r.getLsbD 7)

/-- `SZP_N` (10_state.md R37). -/
def szpFlags {n : Nat} (r : BitVec n) (f : Flags) : Flags :=
  { f with zf := r == 0#n, sf := r.msb, pf := parity r }

/-- The low four bits of an operand, as a number. -/
def nibble {n : Nat} (a : BitVec n) : Nat := a.toNat % 16

/-- The result of `AddFlags_N`: a + b + c modulo 2^N (10_state.md R37). -/
def addResult {n : Nat} (a b : BitVec n) (c : Bool) : BitVec n := a + b + BitVec.ofNat n c.toNat

/-- `AddFlags_N` (10_state.md R37). -/
def addFlags {n : Nat} (a b : BitVec n) (c : Bool) (f : Flags) : Flags :=
  let r := addResult a b c
  { szpFlags r f with
    cf := decide (2 ^ n ≤ a.toNat + b.toNat + c.toNat)
    ov := a.msb == b.msb && r.msb != a.msb
    af := decide (16 ≤ nibble a + nibble b + c.toNat) }

/-- The result of `SubFlags_N`: a - b - c modulo 2^N (10_state.md R37). -/
def subResult {n : Nat} (a b : BitVec n) (c : Bool) : BitVec n := a - b - BitVec.ofNat n c.toNat

/-- `SubFlags_N` (10_state.md R37). -/
def subFlags {n : Nat} (a b : BitVec n) (c : Bool) (f : Flags) : Flags :=
  let r := subResult a b c
  { szpFlags r f with
    cf := decide (a.toNat < b.toNat + c.toNat)
    ov := a.msb != b.msb && r.msb != a.msb
    af := decide (nibble a < nibble b + c.toNat) }

/-- `LogicFlags_N` (10_state.md R37); the value of AF is unspecified and given by the caller. -/
def logicFlags {n : Nat} (r : BitVec n) (undefAF : Bool) (f : Flags) : Flags :=
  { szpFlags r f with cf := false, ov := false, af := undefAF }

/-- The sixteen condition codes, in the order of the encoding (30_encoding.md R160). -/
inductive Cond where
  | o | no | b | ae | e | ne | be | a | s | ns | p | np | l | ge | le | g
  deriving DecidableEq, Repr

/-- When a condition holds (30_encoding.md R160). -/
def condHolds (c : Cond) (f : Flags) : Bool :=
  match c with
  | .o => f.ov
  | .no => !f.ov
  | .b => f.cf
  | .ae => !f.cf
  | .e => f.zf
  | .ne => !f.zf
  | .be => f.cf || f.zf
  | .a => !f.cf && !f.zf
  | .s => f.sf
  | .ns => !f.sf
  | .p => f.pf
  | .np => !f.pf
  | .l => f.sf != f.ov
  | .ge => f.sf == f.ov
  | .le => f.zf || f.sf != f.ov
  | .g => !f.zf && f.sf == f.ov

/-- Which status flags an instruction leaves undefined (10_state.md R39). -/
structure UndefMask where
  cf : Bool := false
  pf : Bool := false
  af : Bool := false
  zf : Bool := false
  sf : Bool := false
  ov : Bool := false
  deriving DecidableEq, Repr

/-- Replace the masked status flags by the bits of a free value, one bit each (00_scope.md R13). -/
def undefFlags (m : UndefMask) (u : BitVec 6) (f : Flags) : Flags :=
  { f with
    cf := if m.cf then u.getLsbD 0 else f.cf
    pf := if m.pf then u.getLsbD 1 else f.pf
    af := if m.af then u.getLsbD 2 else f.af
    zf := if m.zf then u.getLsbD 3 else f.zf
    sf := if m.sf then u.getLsbD 4 else f.sf
    ov := if m.ov then u.getLsbD 5 else f.ov }

/-- All six status flags undefined (10_state.md R39: DIV, IDIV, moves to and from special registers). -/
def UndefMask.all : UndefMask := { cf := true, pf := true, af := true, zf := true, sf := true, ov := true }

end Sys2Proof.Machine
end

