-- ==== Sys2Proof/Machine/Ops.lean ====
section
/-! DEFINITION. The named operations over registers and memory: the instruction monad, memory in canonical form, paging,
segment checks, the stack, descriptors, segment loads, task switches, taking an exception and returning from one.
An operation that fails leaves no effect: `M` threads the state, and an exception rolls back (00_scope.md R10, R12). -/

namespace Sys2Proof.Machine

/-! ## The instruction monad -/

/-- An exception: its vector and its error code (60_exceptions.md R500, R502). -/
structure Exc where
  vector : Byte
  code : Option Word
  deriving DecidableEq, Repr

/-- How an operation stops: with an exception, at the state where it arose and saying whether a task switch was
committed before (60_exceptions.md R530), or with a refusal of the model. -/
inductive Stop where
  | exc (e : Exc) (st : State) (committed : Bool)
  | refuse (r : Refusal)
  deriving DecidableEq, Repr

/-- An operation of the processor: reads and writes the state, or stops. -/
abbrev M := StateT State (Except Stop)

/-- `raise` (00_scope.md R8). -/
def raise {α : Type} (e : Exc) : M α := fun s => .error (.exc e s false)

/-- Stop with a refusal of the model. -/
def refuse {α : Type} (r : Refusal) : M α := fun _ => .error (.refuse r)

/-- What follows the commit point of a task switch: its faults belong to the new task (60_exceptions.md R530). -/
def committed {α : Type} (m : M α) : M α := fun s =>
  match m s with
  | .error (.exc e st _) => .error (.exc e st true)
  | r => r

/-- The exceptions by name (60_exceptions.md R500). -/
def excDE : Exc := { vector := 0#8, code := none }
def excDB : Exc := { vector := 1#8, code := none }
def excBR : Exc := { vector := 5#8, code := none }
def excUD : Exc := { vector := 6#8, code := none }
def excNM : Exc := { vector := 7#8, code := none }
def excDF : Exc := { vector := 8#8, code := some 0#16 }
def excTS (code : Word) : Exc := { vector := 10#8, code := some code }
def excNP (code : Word) : Exc := { vector := 11#8, code := some code }
def excSS (code : Word) : Exc := { vector := 12#8, code := some code }
def excGP (code : Word) : Exc := { vector := 13#8, code := some code }
def excPF (code : Word) : Exc := { vector := 14#8, code := some code }
def excMF : Exc := { vector := 16#8, code := none }

/-- The error code of a selector: the selector with its RPL bits 0 (60_exceptions.md R511; EXT is added on delivery). -/
def selCode (sel : Word) : Word := sel &&& 0xFFFC#16

/-- A free value of at most 64 bits, fresh at each use: `UNDEF_n` (00_scope.md R13). Log entry 4. -/
def draw (n : Nat) : M (BitVec n) := fun s =>
  .ok ((Config.freeWord s.draws).setWidth n, { s with draws := s.draws + 1 })

/-! ## Modes and size attributes -/

/-- The three operating modes (00_scope.md R6). -/
inductive Mode where
  | real
  | prot
  | v86
  deriving DecidableEq, Repr

/-- `Mode()` (00_scope.md R6). -/
def State.mode (s : State) : Mode :=
  if s.cr0.pe then (if s.flags.vm then .v86 else .prot) else .real

/-- The D bit of the current code segment: 0 outside protected mode (10_state.md R42, 30_encoding.md R123). The mode is the
present one, also for the JMP right after a change of PE, whose decoding 70_reset_and_hazards.md R572 leaves open where D = 1;
DESIGN CHOICE, log entry 63. -/
def State.codeSize (s : State) : Sz :=
  if s.mode = .prot ∧ s.cs.db then .s32 else .s16

/-- `SS_size` (10_state.md R42). -/
def State.ssSize (s : State) : Sz :=
  if s.mode = .prot ∧ s.ss.db then .s32 else .s16

/-- OS of the instruction in progress (30_encoding.md R123). -/
def State.os (s : State) : Sz := if s.pfx.osz then s.codeSize.other else s.codeSize

/-- AS of the instruction in progress (30_encoding.md R123). -/
def State.as (s : State) : Sz := if s.pfx.asz then s.codeSize.other else s.codeSize

/-- The privilege test of the IOPL-sensitive instructions: CPL is at most IOPL, or Real Address Mode (41_c_d_e_h.md
R237). -/
def State.ioAllowed (s : State) : Bool := !s.cr0.pe || s.cpl ≤ s.flags.iopl

/-! ## Registers -/

/-- `R32[r]` (00_scope.md R8). -/
def GeneralRegs.get (g : GeneralRegs) : Reg → Dword
  | .ax => g.eax
  | .cx => g.ecx
  | .dx => g.edx
  | .bx => g.ebx
  | .sp => g.esp
  | .bp => g.ebp
  | .si => g.esi
  | .di => g.edi

/-- `R32[r] <- v` (00_scope.md R8). -/
def GeneralRegs.set (g : GeneralRegs) (r : Reg) (v : Dword) : GeneralRegs :=
  match r with
  | .ax => { g with eax := v }
  | .cx => { g with ecx := v }
  | .dx => { g with edx := v }
  | .bx => { g with ebx := v }
  | .sp => { g with esp := v }
  | .bp => { g with ebp := v }
  | .si => { g with esi := v }
  | .di => { g with edi := v }

/-- Whether a byte register number names a high byte, AH CH DH BH (10_state.md R32). -/
def isHighByte : Reg → Bool
  | .sp | .bp | .si | .di => true
  | _ => false

/-- The 32-bit register that holds a byte register (10_state.md R31, R32). -/
def byteHome : Reg → Reg
  | .ax | .sp => .ax
  | .cx | .bp => .cx
  | .dx | .si => .dx
  | .bx | .di => .bx

/-- Replace the low 16 bits of a register (10_state.md R33). -/
def setLow16 (old : Dword) (v : Word) : Dword := old.extractLsb' 16 16 ++ v

/-- Replace bits 7:0 of a register (10_state.md R33). -/
def setLow8 (old : Dword) (v : Byte) : Dword := old.extractLsb' 8 24 ++ v

/-- Replace bits 15:8 of a register (10_state.md R33). -/
def setHigh8 (old : Dword) (v : Byte) : Dword := old.extractLsb' 16 16 ++ v ++ old.extractLsb' 0 8

/-- Read a general register at a width (10_state.md R31, R32). -/
def GeneralRegs.read (g : GeneralRegs) (w : Width) (r : Reg) : BitVec w.bits :=
  match w with
  | .b8 => if isHighByte r then (g.get (byteHome r)).extractLsb' 8 8 else (g.get (byteHome r)).extractLsb' 0 8
  | .b16 => (g.get r).extractLsb' 0 16
  | .b32 => g.get r

/-- Write a general register at a width; the other bits of the 32-bit register keep their values (10_state.md R33). -/
def GeneralRegs.write (g : GeneralRegs) (w : Width) (r : Reg) (v : BitVec w.bits) : GeneralRegs :=
  match w, v with
  | .b8, v =>
    g.set (byteHome r) (if isHighByte r then setHigh8 (g.get (byteHome r)) v else setLow8 (g.get (byteHome r)) v)
  | .b16, v => g.set r (setLow16 (g.get r) v)
  | .b32, v => g.set r v

/-- Read a general register in the machine. -/
def State.reg (s : State) (w : Width) (r : Reg) : BitVec w.bits := s.regs.read w r

/-- Write a general register in the machine. -/
def State.setReg (s : State) (w : Width) (r : Reg) (v : BitVec w.bits) : State :=
  { s with regs := s.regs.write w r v }

/-- Read a general register. -/
def readReg (w : Width) (r : Reg) : M (BitVec w.bits) := fun s => .ok (s.reg w r, s)

/-- Write a general register. -/
def writeReg (w : Width) (r : Reg) (v : BitVec w.bits) : M Unit := fun s => .ok ((), s.setReg w r v)

/-- Read a register at a size attribute, zero-extended to 32 bits. -/
def readRegSz (sz : Sz) (r : Reg) : M Dword := fun s => .ok ((s.reg sz.width r).setWidth 32, s)

/-- Write the low `sz` bits of a value into a register. -/
def writeRegSz (sz : Sz) (r : Reg) (v : Dword) : M Unit := fun s => .ok ((), s.setReg sz.width r (v.setWidth _))

/-- A segment register (10_state.md R40). -/
def State.seg (s : State) : Sreg → SegReg
  | .es => s.es
  | .cs => s.cs
  | .ss => s.ss
  | .ds => s.ds
  | .fs => s.fs
  | .gs => s.gs

/-- Write a segment register with its hidden part (10_state.md R40). -/
def State.setSeg (s : State) (r : Sreg) (v : SegReg) : State :=
  match r with
  | .es => { s with es := v }
  | .cs => { s with cs := v }
  | .ss => { s with ss := v }
  | .ds => { s with ds := v }
  | .fs => { s with fs := v }
  | .gs => { s with gs := v }

/-- CR0 as a word (10_state.md R46). -/
def cr0Word (c : Cr0) : Dword :=
  BitVec.ofBool c.pg ++ c.res ++ BitVec.ofBool c.et ++ BitVec.ofBool c.ts ++ BitVec.ofBool c.em ++ BitVec.ofBool c.mp
    ++ BitVec.ofBool c.pe

/-- CR0 from a word (10_state.md R46). -/
def cr0OfWord (v : Dword) : Cr0 :=
  { pe := v.getLsbD 0, mp := v.getLsbD 1, em := v.getLsbD 2, ts := v.getLsbD 3, et := v.getLsbD 4,
    res := v.extractLsb' 5 26, pg := v.getLsbD 31 }

/-- Read the status flags, or any flag. -/
def getFlags : M Flags := fun s => .ok (s.flags, s)

/-- Change the flags. -/
def modifyFlags (f : Flags → Flags) : M Unit := fun s => .ok ((), { s with flags := f s.flags })

/-- Make the masked status flags undefined: one free bit each (10_state.md R39). -/
def undefStatus (m : UndefMask) : M Unit := do
  let u ← draw 6
  modifyFlags (undefFlags m u)

/-! ## Memory (20_memory.md R80, R81) -/

/-- What an address that memory does not list reads as. The spec leaves the initial contents to the platform
(10_state.md R30); DESIGN CHOICE 0, log entry 3. -/
def Memory.unlisted : Byte := 0#8

/-- The byte at an address. -/
def Memory.read : List Host.Cell → Nat → Byte
  | [], _ => Memory.unlisted
  | (k, v) :: t, a => if a = k then v else Memory.read t a

/-- Write a byte, keeping the canonical form: addresses rise strictly and no listed byte is the unlisted one. -/
def Memory.write : List Host.Cell → Nat → Byte → List Host.Cell
  | [], a, v => if v = Memory.unlisted then [] else [(a, v)]
  | (k, w) :: t, a, v =>
    if a < k then (if v = Memory.unlisted then (k, w) :: t else (a, v) :: (k, w) :: t)
    else if a = k then (if v = Memory.unlisted then t else (a, v) :: t)
    else (k, w) :: Memory.write t a v

/-- The canonical form: addresses strictly rising from `lo`, below 2^32, and no byte equal to the unlisted one. -/
def Memory.wfFrom : Nat → List Host.Cell → Bool
  | _, [] => true
  | lo, (k, v) :: t => decide (lo ≤ k) && decide (k < 2 ^ 32) && decide (v ≠ Memory.unlisted) && Memory.wfFrom (k + 1) t

/-- Memory is in canonical form. -/
def Memory.wf (m : List Host.Cell) : Bool := Memory.wfFrom 0 m

/-- Little-endian: the number of a list of bytes, the first the least significant (20_memory.md R81). -/
def leNat : List Byte → Nat
  | [] => 0
  | b :: bs => b.toNat + 256 * leNat bs

/-- Little-endian: the value of a list of bytes at a width. -/
def leValue (n : Nat) (bs : List Byte) : BitVec n := BitVec.ofNat n (leNat bs)

/-- Little-endian: the `k` low bytes of a value, least significant first (20_memory.md R81). -/
def leBytes {n : Nat} : Nat → BitVec n → List Byte
  | 0, _ => []
  | k + 1, v => v.setWidth 8 :: leBytes k (v >>> 8)

/-- The byte at a physical address. -/
def State.byte (s : State) (a : Nat) : Byte := Memory.read s.mem a

/-- `n` bytes from a physical address, modulo 2^32. -/
def State.physBytes (s : State) (a : Dword) : Nat → List Byte
  | 0 => []
  | n + 1 => s.byte a.toNat :: s.physBytes (a + 1#32) n

/-- The doubleword at a physical address. -/
def State.physDword (s : State) (a : Dword) : Dword := leValue 32 (s.physBytes a 4)

/-- Write one byte at a physical address. -/
def State.setByte (s : State) (a : Nat) (v : Byte) : State := { s with mem := Memory.write s.mem a v }

/-- Write a doubleword at a physical address. -/
def State.setPhysDword (s : State) (a v : Dword) : State :=
  (((s.setByte a.toNat (v.extractLsb' 0 8)).setByte (a + 1#32).toNat (v.extractLsb' 8 8)).setByte
    (a + 2#32).toNat (v.extractLsb' 16 8)).setByte (a + 3#32).toNat (v.extractLsb' 24 8)

/-! ## Paging (20_memory.md R100 to R104) -/

/-- The page-table entries a linear address selects: the directory entry, then, if that is present, the table entry. -/
inductive Walk where
  | absent
  | found (pdeAddr pteAddr pde pte : Dword)
  deriving DecidableEq, Repr

/-- The page-table walk of 20_memory.md R100 from the directory `cr3` names, over the doublewords `read` gives. -/
def walkOver (read : Dword → Dword) (cr3 lin : Dword) : Walk :=
  let pdeAddr := cr3.extractLsb' 12 20 ++ lin.extractLsb' 22 10 ++ 0#2
  let pde := read pdeAddr
  if pde.getLsbD 0 then
    let pteAddr := pde.extractLsb' 12 20 ++ lin.extractLsb' 12 10 ++ 0#2
    let pte := read pteAddr
    if pte.getLsbD 0 then .found pdeAddr pteAddr pde pte else .absent
  else .absent

/-- The walk through the tables in memory, without its effects. -/
def State.walk (s : State) (lin : Dword) : Walk := walkOver s.physDword s.cr3 lin

/-- The translation a walk gives: the frame, and the two permission bits of both entries together (R101, R102). -/
def entryOf (pde pte : Dword) : TlbEntry :=
  { frame := pte.extractLsb' 12 20, rw := pde.getLsbD 1 && pte.getLsbD 1, us := pde.getLsbD 2 && pte.getLsbD 2 }

/-- Page-level protection (20_memory.md R102). -/
def TlbEntry.permits (e : TlbEntry) (wr user : Bool) : Bool := !user || (e.us && (!wr || e.rw))

/-- The physical address of a linear address under a translation. -/
def TlbEntry.phys (e : TlbEntry) (lin : Dword) : Nat := (e.frame ++ lin.extractLsb' 0 12 : BitVec 32).toNat

/-- `raise #PF(code)` (20_memory.md R103): CR2 takes the address; bits 15:3 of the code are unspecified. -/
def pageFault {α : Type} (lin : Dword) (present wr user : Bool) : M α := do
  let u ← draw 13
  modify fun s => { s with cr2 := lin }
  raise (excPF (u ++ BitVec.ofBool user ++ BitVec.ofBool wr ++ BitVec.ofBool present))

/-- Use a translation the TLB may hold, if it permits the access. -/
def useEntry (e : TlbEntry) (lin : Dword) (wr user : Bool) : M Nat :=
  if e.permits wr user then pure (e.phys lin) else pageFault lin true wr user

/-- Translate by the tables in memory, setting the accessed and dirty bits (20_memory.md R100). -/
def useWalk (lin : Dword) (wr user : Bool) : M Nat := do
  let s ← get
  match s.walk lin with
  | .absent => pageFault lin false wr user
  | .found pdeAddr pteAddr pde pte =>
    let e := entryOf pde pte
    if e.permits wr user then
      let s := s.setPhysDword pdeAddr (pde ||| 0x20#32)
      set (s.setPhysDword pteAddr (pte ||| (if wr then 0x60#32 else 0x20#32)))
      return e.phys lin
    else pageFault lin true wr user

/-- A doubleword of the page tables before the `k` newest changes that the TLB may not have seen. -/
def State.earlier (s : State) (k : Nat) (a : Dword) : Dword :=
  (((s.tlb.take k).reverse.find? fun c => c.addr = a).map (·.value)).getD (s.physDword a)

/-- The walks the tables gave for an address at the times since the TLB was flushed, where they are not today's: what
R104 calls the old translation. -/
def State.oldWalks (s : State) (lin : Dword) : List Walk :=
  ((List.range s.tlb.length).map fun k => walkOver (s.earlier (k + 1)) s.cr3 lin).filter fun w =>
    decide (w ≠ .absent) && decide (w ≠ s.walk lin)

/-- Translate one linear address (20_memory.md R100 to R104). With PG = 0 it is the physical address. Where software
changed an entry it goes through since CR3 was written, whether an old or the new translation is used is unspecified;
after reset, or a write to a test register, every translation is: that of the tables, one to
any page, or none. Log entry 10. -/
def translate (lin : Dword) (wr user : Bool) : M Nat := do
  let s ← get
  if s.cr0.pg then
    if s.tlbUndef then
      let u ← draw 24
      if u.getLsbD 23 then useWalk lin wr user
      else if u.getLsbD 22 then pageFault lin false wr user
      else useEntry { frame := u.extractLsb' 0 20, rw := u.getLsbD 20, us := u.getLsbD 21 } lin wr user
    else
      match s.oldWalks lin with
      | [] => useWalk lin wr user
      | ws => do
        let u ← draw 32
        match ws[u.toNat % (ws.length + 1)]? with
        | some (.found _ _ pde pte) => useEntry (entryOf pde pte) lin wr user
        | _ => useWalk lin wr user
  else return lin.toNat

/-- Translate `n` consecutive bytes, lowest address first (20_memory.md R90 step 5). -/
def translateAll (lin : Dword) (wr user : Bool) : Nat → M (List Nat)
  | 0 => pure []
  | n + 1 => do
    let a ← translate lin wr user
    let as ← translateAll (lin + 1#32) wr user n
    return a :: as

/-- Write bytes at physical addresses, and nothing else. -/
def State.putBytes (s : State) : List Nat → List Byte → State
  | a :: as, b :: bs => (s.setByte a b).putBytes as bs
  | _, _ => s

/-- Whether an address lies in the page directory. -/
def State.inDirectory (s : State) (a : Dword) : Bool := a.extractLsb' 12 20 = s.cr3.extractLsb' 12 20

/-- Whether the entry `pde`, if present, names the page table that holds the address. -/
def namesTable (pde a : Dword) : Bool := pde.getLsbD 0 && pde.extractLsb' 12 20 = a.extractLsb' 12 20

/-- Whether the doubleword at an aligned address is an entry of the page directory, or of a page table that the directory
names or has named since the TLB was flushed (20_memory.md R100). The directory's present entries are among its listed
bytes, since an unlisted one reads as 0. -/
def State.isEntry (s : State) (a : Dword) : Bool :=
  s.inDirectory a ||
  (s.mem.any fun c =>
    c.1 % 4 = 0 && s.inDirectory (BitVec.ofNat 32 c.1) && namesTable (s.physDword (BitVec.ofNat 32 c.1)) a) ||
  s.tlb.any fun c => s.inDirectory c.addr && namesTable c.value a

/-- The directory and page-table entries among the doublewords of the bytes `as` that a store from `s` to `t` changed,
with the values they had (20_memory.md R104). While every translation is unspecified none is noted. -/
def changedEntries (s t : State) (as : List Nat) : List OldEntry :=
  if s.tlbUndef then []
  else (as.map fun a => BitVec.ofNat 32 (a / 4 * 4)).eraseDups.filterMap fun a =>
    if s.physDword a ≠ t.physDword a ∧ s.isEntry a = true then some { addr := a, value := s.physDword a } else none

/-- A store of software or of the processor at physical addresses: the TLB does not see what it changes of the page
tables (20_memory.md R104). -/
def State.setBytes (s : State) (as : List Nat) (bs : List Byte) : State :=
  let t := s.putBytes as bs
  { t with tlb := changedEntries s t as ++ s.tlb }

/-- Read bytes at physical addresses. -/
def readPhys (as : List Nat) : M (List Byte) := fun s => .ok (as.map s.byte, s)

/-- Write bytes at physical addresses. -/
def writePhys (as : List Nat) (bs : List Byte) : M Unit := fun s => .ok ((), s.setBytes as bs)

/-- Read `n` bytes at a linear address. -/
def linBytes (lin : Dword) (n : Nat) (user : Bool) : M (List Byte) := do
  let as ← translateAll lin false user n
  readPhys as

/-- Write bytes at a linear address. -/
def linStore (lin : Dword) (bs : List Byte) (user : Bool) : M Unit := do
  let as ← translateAll lin true user bs.length
  writePhys as bs

/-- `LinRead(lin, n)`: `n` bytes with supervisor rights, as a value (00_scope.md R8). -/
def linRead (lin : Dword) (n : Nat) : M (BitVec (8 * n)) := do
  return leValue _ (← linBytes lin n false)

/-- `LinWrite(lin, n, v)` with supervisor rights (00_scope.md R8). -/
def linWrite (lin : Dword) (n : Nat) {k : Nat} (v : BitVec k) : M Unit := linStore lin (leBytes n v) false

/-! ## Segments (20_memory.md R90 to R95) -/

/-- A code segment (20_memory.md R86). -/
def SegReg.isCode (r : SegReg) : Bool := r.s && r.typ.getLsbD 3

/-- An expand-down data segment (20_memory.md R86). -/
def SegReg.expandDown (r : SegReg) : Bool := r.s && !r.typ.getLsbD 3 && r.typ.getLsbD 2

/-- A writable data segment (20_memory.md R86). -/
def SegReg.writable (r : SegReg) : Bool := r.s && !r.typ.getLsbD 3 && r.typ.getLsbD 1

/-- A segment that can be read: data, or readable code (20_memory.md R86). -/
def SegReg.readable (r : SegReg) : Bool := r.s && (!r.typ.getLsbD 3 || r.typ.getLsbD 1)

/-- A conforming code segment (20_memory.md R86). -/
def SegReg.conforming (r : SegReg) : Bool := r.isCode && r.typ.getLsbD 2

/-- Whether the `n` offsets from `off`, without wrap, are all valid in the segment (20_memory.md R87, R93). -/
def SegReg.holds (r : SegReg) (off n : Nat) : Bool :=
  if r.expandDown then decide (r.limit.toNat < off) && decide (off + n ≤ (if r.db then 2 ^ 32 else 2 ^ 16))
  else decide (off + n ≤ r.limit.toNat + 1)

/-- The exception of an access through a segment register outside its limit (20_memory.md R93). -/
def State.limitExc (s : State) (r : Sreg) : Exc :=
  match r, s.mode with
  | .ss, .prot => excSS 0#16
  | .ss, _ => { vector := Config.realModeStackFaultVector, code := some 0#16 }
  | _, _ => excGP 0#16

/-- Steps 1 to 3 of an access (20_memory.md R90 to R93): the segment is usable, the access fits its type, and its bytes
lie within the limit. -/
def State.accessExc (s : State) (r : Sreg) (off : Dword) (n : Nat) (wr : Bool) : Option Exc :=
  let g := s.seg r
  if s.mode = .prot ∧ !g.valid then some (s.limitExc r)
  else if s.mode = .prot ∧ wr ∧ !g.writable then some (excGP 0#16)
  else if s.mode = .prot ∧ !wr ∧ !g.readable then some (excGP 0#16)
  else if g.holds off.toNat n then none
  else some (s.limitExc r)

/-- Raise the exception of a segment check that fails. -/
def checkAccess (r : Sreg) (off : Dword) (n : Nat) (wr : Bool) : M Unit := do
  let s ← get
  match s.accessExc r off n wr with
  | some e => raise e
  | none => pure ()

/-- The linear address of an offset (20_memory.md R94). -/
def State.linear (s : State) (r : Sreg) (off : Dword) : Dword := (s.seg r).base + off

/-- A user access: CPL is 3 (20_memory.md R102). -/
def State.user (s : State) : Bool := s.cpl = 3#2

/-- Steps 1 to 5 of an access (20_memory.md R90): the physical addresses of its `n` bytes, lowest first. A read-modify-write
opens its operand for writing, so that its write checks come before its read. -/
def openMem (r : Sreg) (off : Dword) (n : Nat) (wr : Bool) : M (List Nat) := do
  checkAccess r off n wr
  let s ← get
  translateAll (s.linear r off) wr s.user n

/-- The same for the `n` bytes that follow the first `k` of one operand: its parts are read in order, and its bytes do not
wrap (20_memory.md R82, R83, R97). -/
def openTail (r : Sreg) (off : Dword) (k n : Nat) (wr : Bool) : M (List Nat) := do
  checkAccess r off (k + n) wr
  let s ← get
  translateAll (s.linear r off + BitVec.ofNat 32 k) wr s.user n

/-- `MemRead` of `n` bytes (20_memory.md R90). -/
def memBytes (r : Sreg) (off : Dword) (n : Nat) : M (List Byte) := do
  let as ← openMem r off n false
  readPhys as

/-- Two `MemRead`s in order: of the first `k` bytes of an operand, then of the `n` after them (20_memory.md R97). -/
def memParts (r : Sreg) (off : Dword) (k n : Nat) : M (List Byte × List Byte) := do
  let first ← memBytes r off k
  let as ← openTail r off k n false
  return (first, ← readPhys as)

/-- `MemRead` of one datum (20_memory.md R90). -/
def memRead (w : Width) (r : Sreg) (off : Dword) : M (BitVec w.bits) := do
  return leValue _ (← memBytes r off w.bytes)

/-- `MemWrite` of bytes (20_memory.md R90). -/
def memStore (r : Sreg) (off : Dword) (bs : List Byte) : M Unit := do
  let as ← openMem r off bs.length true
  writePhys as bs

/-- `MemWrite` of one datum (20_memory.md R90). -/
def memWrite (w : Width) (r : Sreg) (off : Dword) (v : BitVec w.bits) : M Unit := memStore r off (leBytes w.bytes v)

/-- Reduce an offset to a size attribute, zero-extended (30_encoding.md R134). -/
def truncSz : Sz → Dword → Dword
  | .s16, v => (v.setWidth 16).setWidth 32
  | .s32, v => v

/-! ## Control transfer -/

/-- Transfer control to an offset in CS: the prefetch queue is emptied (10_state.md R51). -/
def jumpTo (off : Dword) : M Unit :=
  modify fun s => { s with eip := off, queue := { stale := [], flushed := true, jumpNeeded := false } }

/-- "`t` beyond the CS limit": `raise #GP(0)`, in real and V86 mode Interrupt 13 (43_j.md R303). -/
def checkCodeLimit (c : SegReg) (t : Dword) : M Unit :=
  if c.holds t.toNat 1 then pure () else raise (excGP 0#16)

/-! ## The stack (10_state.md R34, 46_p.md R390, R391) -/

/-- The stack pointer: SP zero-extended or ESP (10_state.md R34). -/
def State.sp (s : State) : Dword := truncSz s.ssSize s.regs.esp

/-- Write the stack pointer; with a 16-bit stack bits 31:16 of ESP keep their values (10_state.md R34). -/
def State.setSp (s : State) (v : Dword) : State := s.setReg s.ssSize.width .sp (v.setWidth _)

/-- Write the stack pointer. -/
def setStackPtr (v : Dword) : M Unit := modify fun s => s.setSp v

/-- `Push_n(v)` (46_p.md R391). -/
def push (sz : Sz) (v : Dword) : M Unit := do
  let s ← get
  let new := truncSz s.ssSize (s.sp - BitVec.ofNat 32 sz.bytes)
  memStore .ss new (leBytes sz.bytes v)
  setStackPtr new

/-- The stack datum at a displacement from the stack pointer, without wrap inside the datum (46_p.md R390). -/
def stackRead (sz : Sz) (disp : Nat) : M Dword := do
  let s ← get
  return leValue 32 (← memBytes .ss (truncSz s.ssSize (s.sp + BitVec.ofNat 32 disp)) sz.bytes)

/-- Add to the stack pointer modulo its size (46_p.md R390). -/
def addStackPtr (n : Nat) : M Unit := modify fun s => s.setSp (s.sp + BitVec.ofNat 32 n)

/-- `Pop_n()`, zero-extended to 32 bits (46_p.md R390). -/
def pop (sz : Sz) : M Dword := do
  let v ← stackRead sz 0
  addStackPtr sz.bytes
  return v

/-- Whether `k` pushes of `n` bytes below `sp` all lie within a stack segment (41_c_d_e_h.md R232 "has room"); each push
wraps at the stack's size by itself (46_p.md R401). -/
def stackRoom (g : SegReg) (size : Sz) (sp : Dword) (n : Nat) : Nat → Bool
  | 0 => true
  | k + 1 =>
    g.holds (truncSz size (sp - BitVec.ofNat 32 (n * (k + 1)))).toNat n && stackRoom g size sp n k

/-- "IF the stack has no room THEN raise #SS(0)". -/
def checkRoom (g : SegReg) (size : Sz) (sp : Dword) (n k : Nat) : M Unit :=
  if stackRoom g size sp n k then pure () else raise (excSS 0#16)

/-- "the top `n` bytes are not within stack limits: raise #SS(0)" (42_i.md R292, 47_r.md R427). -/
def checkStackTop (disp n : Nat) : M Unit := do
  let s ← get
  if s.ss.holds (truncSz s.ssSize (s.sp + BitVec.ofNat 32 disp)).toNat n then pure () else raise (excSS 0#16)

/-- A selector as a stack element: in a 32-bit element the upper half is unspecified (41_c_d_e_h.md R231, U2). -/
def padSel (sz : Sz) (sel : Word) : M Dword :=
  match sz with
  | .s16 => pure (sel.setWidth 32)
  | .s32 => do
    let u ← draw 16
    return u ++ sel

/-! ## Selectors and descriptors (20_memory.md R85 to R88, R99) -/

/-- A null selector (20_memory.md R85). -/
def selNull (sel : Word) : Bool := sel.extractLsb' 2 14 = 0#14

/-- RPL (20_memory.md R85). -/
def selRpl (sel : Word) : BitVec 2 := sel.extractLsb' 0 2

/-- TI: the selector names the LDT (20_memory.md R85). -/
def selTI (sel : Word) : Bool := sel.getLsbD 2

/-- The byte offset of the selector's entry in its table: index * 8 (20_memory.md R85). -/
def selOffset (sel : Word) : Dword := (sel &&& 0xFFF8#16).setWidth 32

/-- A selector with its RPL field replaced (43_j.md R305 "with RPL bits replaced by CPL"). -/
def withRpl (sel : Word) (rpl : BitVec 2) : Word := sel.extractLsb' 2 14 ++ rpl

/-- The selector is within its descriptor table limits (20_memory.md R85). -/
def State.selInTable (s : State) (sel : Word) : Bool :=
  if selTI sel then s.ldtr.valid && decide ((selOffset sel).toNat + 7 ≤ s.ldtr.limit.toNat)
  else decide ((selOffset sel).toNat + 7 ≤ s.gdtr.limit.toNat)

/-- The linear address of the selector's descriptor (20_memory.md R85). -/
def State.descAddr (s : State) (sel : Word) : Dword :=
  (if selTI sel then s.ldtr.base else s.gdtr.base) + selOffset sel

/-- A descriptor: its two doublewords (20_memory.md R86). -/
structure Desc where
  lo : Dword
  hi : Dword
  deriving DecidableEq, Repr

/-- The type field (20_memory.md R86). -/
def Desc.typ (d : Desc) : BitVec 4 := d.hi.extractLsb' 8 4
/-- S: code or data (20_memory.md R86). -/
def Desc.s (d : Desc) : Bool := d.hi.getLsbD 12
/-- DPL (20_memory.md R86). -/
def Desc.dpl (d : Desc) : BitVec 2 := d.hi.extractLsb' 13 2
/-- P, present (20_memory.md R86). -/
def Desc.p (d : Desc) : Bool := d.hi.getLsbD 15
/-- D/B (20_memory.md R86). -/
def Desc.db (d : Desc) : Bool := d.hi.getLsbD 22
/-- G, granularity (20_memory.md R86). -/
def Desc.g (d : Desc) : Bool := d.hi.getLsbD 23
/-- The base address (20_memory.md R86). -/
def Desc.base (d : Desc) : Dword := d.hi.extractLsb' 24 8 ++ d.hi.extractLsb' 0 8 ++ d.lo.extractLsb' 16 16
/-- The 20-bit limit field (20_memory.md R87). -/
def Desc.limit20 (d : Desc) : BitVec 20 := d.hi.extractLsb' 16 4 ++ d.lo.extractLsb' 0 16
/-- The limit in bytes (20_memory.md R87). -/
def Desc.limit (d : Desc) : Dword := if d.g then d.limit20 ++ 0xFFF#12 else d.limit20.setWidth 32
/-- The selector of a gate (20_memory.md R88). -/
def Desc.gateSel (d : Desc) : Word := d.lo.extractLsb' 16 16
/-- The parameter count of a call gate (20_memory.md R88). -/
def Desc.gateCount (d : Desc) : Nat := (d.hi.extractLsb' 0 5).toNat
/-- The width of the transfer through a gate: 32 for the 80386 types (20_memory.md R88). -/
def Desc.gateSize (d : Desc) : Sz := if d.typ.getLsbD 3 then .s32 else .s16
/-- The offset of a gate; 16 bits zero-extended for an 80286 gate (20_memory.md R88). -/
def Desc.gateOff (d : Desc) : Dword :=
  match d.gateSize with
  | .s16 => (d.lo.extractLsb' 0 16).setWidth 32
  | .s32 => d.hi.extractLsb' 16 16 ++ d.lo.extractLsb' 0 16

/-- The register a descriptor loads: selector and hidden part, valid (20_memory.md R98). -/
def Desc.toSeg (d : Desc) (sel : Word) : SegReg :=
  { sel := sel, base := d.base, limit := d.limit, typ := d.typ, s := d.s, dpl := d.dpl, p := d.p, db := d.db, g := d.g,
    valid := true }

/-- The same with the accessed bit set, as loading sets it (20_memory.md R98). -/
def Desc.toAccessed (d : Desc) (sel : Word) : SegReg := { d.toSeg sel with typ := d.typ ||| 1#4 }

/-- A code segment descriptor. -/
def Desc.isCode (d : Desc) : Bool := d.s && d.typ.getLsbD 3
/-- A conforming code segment descriptor. -/
def Desc.conforming (d : Desc) : Bool := d.isCode && d.typ.getLsbD 2
/-- A data segment descriptor. -/
def Desc.isData (d : Desc) : Bool := d.s && !d.typ.getLsbD 3
/-- A writable data segment descriptor. -/
def Desc.writable (d : Desc) : Bool := d.isData && d.typ.getLsbD 1
/-- Data, or readable code. -/
def Desc.readable (d : Desc) : Bool := d.isData || (d.isCode && d.typ.getLsbD 1)
/-- A system descriptor of the given type (20_memory.md R88). -/
def Desc.isSys (d : Desc) (t : BitVec 4) : Bool := !d.s && d.typ = t
/-- An available TSS, type 1 or 9. -/
def Desc.availTss (d : Desc) : Bool := d.isSys 1#4 || d.isSys 9#4
/-- A busy TSS, type 3 or B. -/
def Desc.busyTss (d : Desc) : Bool := d.isSys 3#4 || d.isSys 11#4
/-- A TSS of the 80386 layout, type 9 or B (20_memory.md R89). -/
def Desc.tss386 (d : Desc) : Bool := d.typ = 9#4 || d.typ = 11#4

/-- Eight bytes of a descriptor table (20_memory.md R99). -/
def readDescAt (a : Dword) : M Desc := do
  let v ← linRead a 8
  return { lo := v.extractLsb' 0 32, hi := v.extractLsb' 32 32 }

/-- `descriptor(sel)` (20_memory.md R99). -/
def readDesc (sel : Word) : M Desc := do
  let s ← get
  readDescAt (s.descAddr sel)

/-- Raise `e` unless `b` holds: one line of a listing's checks. -/
def require (b : Bool) (e : Exc) : M Unit := if b then pure () else raise e

/-- The descriptor of a selector that must be within its table: `raise e` otherwise. -/
def fetchDesc (sel : Word) (e : Exc) : M Desc := do
  let s ← get
  require (s.selInTable sel) e
  readDesc sel

/-- Set the accessed bit of the descriptor in memory when it is 0 (20_memory.md R98): a write of its byte alone, DESIGN
CHOICE, log entry 52. -/
def markAccessed (sel : Word) (d : Desc) : M Unit := do
  let s ← get
  if d.typ.getLsbD 0 then pure ()
  else linWrite (s.descAddr sel + 5#32) 1 (d.hi.extractLsb' 8 8 ||| 1#8)

/-- Load a segment register from a descriptor (20_memory.md R98). -/
def loadSeg (r : Sreg) (sel : Word) (d : Desc) : M Unit := do
  markAccessed sel d
  modify fun s => s.setSeg r (d.toAccessed sel)

/-- Load a segment register in Real Address Mode or V86 mode (10_state.md R41). -/
def loadRealSeg (r : Sreg) (sel : Word) : M Unit :=
  modify fun s => s.setSeg r (SegReg.real sel (if s.mode = .v86 then 3#2 else 0#2))

/-- Write a null selector: the register is not valid (20_memory.md R98). -/
def loadNull (r : Sreg) (sel : Word) : M Unit :=
  modify fun s => s.setSeg r { s.seg r with sel := sel, valid := false }

/-- `SegLoad(sreg, sel)` (20_memory.md R98). CS is never its destination. -/
def segLoad (r : Sreg) (sel : Word) : M Unit := do
  let s ← get
  if s.mode ≠ .prot then loadRealSeg r sel
  else if r = .ss then
    require (!selNull sel) (excGP 0#16)
    let d ← fetchDesc sel (excGP (selCode sel))
    require (selRpl sel = s.cpl) (excGP (selCode sel))
    require d.writable (excGP (selCode sel))
    require (d.dpl = s.cpl) (excGP (selCode sel))
    require d.p (excSS (selCode sel))
    loadSeg r sel d
  else if selNull sel then loadNull r sel
  else
    let d ← fetchDesc sel (excGP (selCode sel))
    require d.readable (excGP (selCode sel))
    require (d.conforming || (decide (selRpl sel ≤ d.dpl) && decide (s.cpl ≤ d.dpl))) (excGP (selCode sel))
    require d.p (excNP (selCode sel))
    loadSeg r sel d

/-! ## Task state segments and the task switch (20_memory.md R89, 60_exceptions.md R530, R531) -/

/-- Whether TR holds a TSS of the 80286 layout; any other is read as an 80386 TSS. Log entry 30. -/
def State.oldTss (s : State) : Bool := s.tr.typ = 1#4 || s.tr.typ = 3#4

/-- SS and (E)SP of an inner privilege level from the current TSS (20_memory.md R89); beyond the TSS limit
`raise #TS(TR)` (41_c_d_e_h.md R232). R232 says so of a far CALL only; that a delivery (42_i.md R288, R289) raises it too is
a DESIGN CHOICE, log entry 56. The 16-bit pointer of an 80286 TSS is zero-extended: what it leaves in ESP[31:16] when
the new stack is a 32-bit one is not said; DEDUCED, log entry 30. R232, R288 and R289 do not say which of the two fields is
read first: (E)SPn, then SSn, is a DESIGN CHOICE, log entry 59. -/
def tssStack (level : BitVec 2) : M (Word × Dword) := do
  let s ← get
  if s.oldTss then
    let off := 2 + 4 * level.toNat
    require (decide (off + 3 ≤ s.tr.limit.toNat)) (excTS (selCode s.tr.sel))
    let sp ← linRead (s.tr.base + BitVec.ofNat 32 off) 2
    let ss ← linRead (s.tr.base + BitVec.ofNat 32 (off + 2)) 2
    return (ss, sp.setWidth 32)
  else
    let off := 4 + 8 * level.toNat
    require (decide (off + 5 ≤ s.tr.limit.toNat)) (excTS (selCode s.tr.sel))
    let sp ← linRead (s.tr.base + BitVec.ofNat 32 off) 4
    let ss ← linRead (s.tr.base + BitVec.ofNat 32 (off + 4)) 2
    return (ss, sp)

/-- What causes a task switch (60_exceptions.md R530). -/
inductive SwitchKind where
  | jmp
  | call
  | int
  | iret
  deriving DecidableEq, Repr

/-- CALL and INT nest: the back link is written and NT set (60_exceptions.md R530). -/
def SwitchKind.nested : SwitchKind → Bool
  | .call | .int => true
  | _ => false

/-- Set or clear the busy bit of a TSS descriptor in the GDT: a read-modify-write of the descriptor's second doubleword
(44_l.md R346, 60_exceptions.md R530). -/
def setBusy (sel : Word) (busy : Bool) : M Unit := do
  let s ← get
  let as ← translateAll (s.gdtr.base + selOffset sel + 4#32) true false 4
  let hi : Dword := leValue 32 (← readPhys as)
  writePhys as (leBytes 4 (if busy then hi ||| 0x200#32 else hi &&& 0xFFFFFDFF#32))

/-- Write the fields of a list, each of a width and at an offset from a base, in order. -/
def saveFields (base : Dword) : List (Nat × Dword × Dword) → M Unit
  | [] => pure ()
  | (n, o, v) :: fs => do
    linWrite (base + o) n v
    saveFields base fs

/-- The fields a task is saved in (20_memory.md R89), in the order of 60_exceptions.md R530: the general registers, the
selectors, EFLAGS, EIP. -/
def State.taskFields (s : State) (f : Flags) (ret : Dword) : List (Nat × Dword × Dword) :=
  let g := s.regs
  let sel := fun (r : SegReg) => (r.sel.setWidth 32 : Dword)
  if s.oldTss then
    [(2, 0x12#32, g.eax), (2, 0x14#32, g.ecx), (2, 0x16#32, g.edx), (2, 0x18#32, g.ebx), (2, 0x1A#32, g.esp),
     (2, 0x1C#32, g.ebp), (2, 0x1E#32, g.esi), (2, 0x20#32, g.edi), (2, 0x22#32, sel s.es), (2, 0x24#32, sel s.cs),
     (2, 0x26#32, sel s.ss), (2, 0x28#32, sel s.ds), (2, 0x10#32, eflags f), (2, 0x0E#32, ret)]
  else
    [(4, 0x28#32, g.eax), (4, 0x2C#32, g.ecx), (4, 0x30#32, g.edx), (4, 0x34#32, g.ebx), (4, 0x38#32, g.esp),
     (4, 0x3C#32, g.ebp), (4, 0x40#32, g.esi), (4, 0x44#32, g.edi), (2, 0x48#32, sel s.es), (2, 0x4C#32, sel s.cs),
     (2, 0x50#32, sel s.ss), (2, 0x54#32, sel s.ds), (2, 0x58#32, sel s.fs), (2, 0x5C#32, sel s.gs),
     (4, 0x24#32, eflags f), (4, 0x20#32, ret)]

/-- Save the outgoing task in its TSS (60_exceptions.md R530). -/
def saveTask (f : Flags) (ret : Dword) : M Unit := do
  let s ← get
  saveFields s.tr.base (s.taskFields f ret)

/-- The state of a task as its TSS holds it (20_memory.md R89). -/
structure TaskImage where
  cr3 : Dword
  eip : Dword
  eflags : Dword
  regs : GeneralRegs
  es : Word
  cs : Word
  ss : Word
  ds : Word
  fs : Word
  gs : Word
  ldt : Word
  trap : Bool
  deriving DecidableEq, Repr

/-- Read a TSS of the 80386 layout, in the order of 60_exceptions.md R530; the T bit comes last. -/
def readTask386 (base : Dword) : M TaskImage := do
  let d := fun (o : Dword) => (linRead (base + o) 4 : M Dword)
  let w := fun (o : Dword) => (linRead (base + o) 2 : M Word)
  return { cr3 := ← d 0x1C#32, ldt := ← w 0x60#32, eip := ← d 0x20#32, eflags := ← d 0x24#32
           regs := { eax := ← d 0x28#32, ecx := ← d 0x2C#32, edx := ← d 0x30#32, ebx := ← d 0x34#32
                     esp := ← d 0x38#32, ebp := ← d 0x3C#32, esi := ← d 0x40#32, edi := ← d 0x44#32 }
           es := ← w 0x48#32, cs := ← w 0x4C#32, ss := ← w 0x50#32, ds := ← w 0x54#32, fs := ← w 0x58#32
           gs := ← w 0x5C#32, trap := (← w 0x64#32).getLsbD 0 }

/-- Read a TSS of the 80286 layout: upper halves are 0, FS and GS null (60_exceptions.md R530). -/
def readTask286 (base : Dword) : M TaskImage := do
  let w := fun (o : Dword) => (linRead (base + o) 2 : M Word)
  let d := fun (o : Dword) => do return (← w o).setWidth 32
  return { cr3 := 0#32, ldt := ← w 0x2A#32, eip := ← d 0x0E#32, eflags := ← d 0x10#32
           regs := { eax := ← d 0x12#32, ecx := ← d 0x14#32, edx := ← d 0x16#32, ebx := ← d 0x18#32
                     esp := ← d 0x1A#32, ebp := ← d 0x1C#32, esi := ← d 0x1E#32, edi := ← d 0x20#32 }
           es := ← w 0x22#32, cs := ← w 0x24#32, ss := ← w 0x26#32, ds := ← w 0x28#32, fs := 0#16, gs := 0#16
           trap := false }

/-- A segment register that holds a new selector whose descriptor is not loaded yet (60_exceptions.md R531). -/
def SegReg.unloaded (r : SegReg) (sel : Word) : SegReg := { r with sel := sel, valid := false }

/-- Give the processor the incoming task's registers, before any of its descriptors is loaded. -/
def State.withTask (s : State) (i : TaskImage) (nested : Bool) : State :=
  let f := flagsOfWord i.eflags
  { s with
    regs := i.regs
    flags := { f with nt := f.nt || nested }
    es := s.es.unloaded i.es, cs := s.cs.unloaded i.cs, ss := s.ss.unloaded i.ss
    ds := s.ds.unloaded i.ds, fs := s.fs.unloaded i.fs, gs := s.gs.unloaded i.gs
    ldtr := s.ldtr.unloaded i.ldt
    dr7 := s.dr7 &&& 0xFFFFFFAA#32 }

/-- The privilege level of the incoming task, set between its LDTR and its segment registers (60_exceptions.md R530). -/
def State.withTaskLevel (s : State) (i : TaskImage) : State :=
  { s with cpl := if s.flags.vm then 3#2 else selRpl i.cs }

/-- Load LDTR from the incoming task (60_exceptions.md R530). -/
def loadTaskLdt (sel : Word) : M Unit := do
  if selNull sel then pure ()
  else
    require (!selTI sel) (excTS (selCode sel))
    let d ← fetchDesc sel (excTS (selCode sel))
    require (d.isSys 2#4) (excTS (selCode sel))
    require d.p (excTS (selCode sel))
    modify fun s => { s with ldtr := d.toSeg sel }

/-- Load CS of the incoming task (60_exceptions.md R531). -/
def loadTaskCs (sel : Word) : M Unit := do
  require (!selNull sel) (excTS (selCode sel))
  let d ← fetchDesc sel (excTS (selCode sel))
  require d.isCode (excTS (selCode sel))
  require (if d.conforming then decide (d.dpl ≤ selRpl sel) else decide (d.dpl = selRpl sel)) (excTS (selCode sel))
  require d.p (excNP (selCode sel))
  loadSeg .cs sel d

/-- Load SS of the incoming task (60_exceptions.md R531). -/
def loadTaskSs (sel : Word) : M Unit := do
  let s ← get
  require (!selNull sel) (excTS (selCode sel))
  let d ← fetchDesc sel (excTS (selCode sel))
  require (selRpl sel = s.cpl) (excTS (selCode sel))
  require d.writable (excTS (selCode sel))
  require (d.dpl = s.cpl) (excTS (selCode sel))
  require d.p (excSS (selCode sel))
  loadSeg .ss sel d

/-- Load a data segment register of the incoming task (60_exceptions.md R531). -/
def loadTaskData (r : Sreg) (sel : Word) : M Unit := do
  let s ← get
  if selNull sel then pure ()
  else
    let d ← fetchDesc sel (excTS (selCode sel))
    require d.readable (excTS (selCode sel))
    require (d.conforming || (decide (s.cpl ≤ d.dpl) && decide (selRpl sel ≤ d.dpl))) (excTS (selCode sel))
    require d.p (excNP (selCode sel))
    loadSeg r sel d

/-- Load the six segment registers of the incoming task, in the order of 60_exceptions.md R530. -/
def loadTaskSegs (i : TaskImage) : M Unit := do
  let s ← get
  if s.flags.vm then
    loadRealSeg .cs i.cs
    loadRealSeg .ss i.ss
    loadRealSeg .ds i.ds
    loadRealSeg .es i.es
    loadRealSeg .fs i.fs
    loadRealSeg .gs i.gs
  else
    loadTaskCs i.cs
    loadTaskSs i.ss
    loadTaskData .ds i.ds
    loadTaskData .es i.es
    loadTaskData .fs i.fs
    loadTaskData .gs i.gs

/-- SWITCH-TASKS after its commit point (60_exceptions.md R530): faults are raised in the new task. -/
def enterTask (k : SwitchKind) (t : Word) (td : Desc) : M Unit := committed do
  modify fun s => { s with tr := { td.toSeg t with typ := td.typ ||| 2#4 }, cr0 := { s.cr0 with ts := true } }
  let i ← if td.tss386 then readTask386 td.base else readTask286 td.base
  if i.trap then refuse .tssTrapBit
  let s ← get
  if s.cr0.pg && td.tss386 then
    set { s with cr3 := i.cr3 &&& 0xFFFFF000#32, tlb := [], tlbUndef := false }
  modify fun s => s.withTask i k.nested
  jumpTo i.eip
  loadTaskLdt i.ldt
  modify fun s => s.withTaskLevel i
  loadTaskSegs i

/-- SWITCH-TASKS to the TSS `td` with selector `t`, saving `ret` as the old task's EIP (60_exceptions.md R530). -/
def switchTasks (k : SwitchKind) (t : Word) (td : Desc) (ret : Dword) : M Unit := do
  let s ← get
  require (decide ((if td.tss386 then 0x67 else 0x2B) ≤ td.limit.toNat)) (excTS (selCode t))
  if k = .jmp ∨ k = .iret then setBusy s.tr.sel false
  saveTask (if k = .iret then { s.flags with nt := false } else s.flags) ret
  if k.nested then linWrite td.base 2 s.tr.sel
  if k ≠ .iret then setBusy t true
  enterTask k t td

/-! ## Taking an exception or interrupt (60_exceptions.md R510 to R514, 42_i.md R287 to R289) -/

/-- RF in the pushed image of EFLAGS (60_exceptions.md R504 d): 1 for faults, 0 for traps and interrupts, unspecified for
the abort #DF. Log entry 14. -/
inductive ImageRF where
  | one
  | zero
  | free
  deriving DecidableEq, Repr

/-- An event to deliver: vector, error code, the return offset, whether INT n, INT 3 or INTO caused it (the DPL test), the
EXT bit of the exceptions its delivery raises (60_exceptions.md R511, R514), and RF of the pushed image. -/
structure Event where
  vector : Byte
  code : Option Word
  ret : Dword
  software : Bool
  ext : Bool
  rf : ImageRF
  deriving DecidableEq, Repr

/-- The EFLAGS image an event pushes. -/
def imageFlags (e : Event) : M Dword := do
  let s ← get
  match e.rf with
  | .one => return eflags { s.flags with rf := true }
  | .zero => return eflags { s.flags with rf := false }
  | .free =>
    let u ← draw 1
    return eflags { s.flags with rf := u.getLsbD 0 }

/-- Push each value of a list at a width, in order. -/
def pushAll (sz : Sz) : List Dword → M Unit
  | [] => pure ()
  | v :: vs => do
    push sz v
    pushAll sz vs

/-- Delivery in Real Address Mode (42_i.md R287). The listing clears IF and TF; NT stays, as 10_state.md R38 and R39 ("NT 0
(protected)") have it, where the summary 60_exceptions.md R513 says "always" and no ruling decides: the listing and the rules
that agree with it are followed; DEDUCED, log entry 54. -/
def deliverReal (e : Event) : M Unit := do
  let s ← get
  require (decide (e.vector.toNat * 4 + 3 ≤ s.idtr.limit.toNat)) (excGP 0#16)
  let image ← imageFlags e
  pushAll .s16 [image, s.cs.sel.setWidth 32, e.ret]
  modifyFlags fun f => { f with ie := false, tf := false }
  let v ← linRead (s.idtr.base + BitVec.ofNat 32 (e.vector.toNat * 4)) 4
  loadRealSeg .cs (v.extractLsb' 16 16)
  jumpTo ((v.extractLsb' 0 16).setWidth 32)

/-- The error code of a failing check on the gate: vector * 8 + 2 (42_i.md R288). -/
def idtCode (vector : Byte) : Word := vector.setWidth 16 <<< 3 ||| 2#16

/-- The changes to the flags at the end of a delivery through a gate (42_i.md R288): an interrupt gate has type bit 0
clear. -/
def gateFlags (g : Desc) (f : Flags) : Flags :=
  { f with ie := if g.typ.getLsbD 0 then f.ie else false, tf := false, nt := false }

/-- Enter the handler's code segment at its offset. -/
def enterHandler (cs : Word) (c : Desc) (cpl : BitVec 2) (off : Dword) : M Unit := do
  loadSeg .cs (withRpl cs cpl) c
  jumpTo off

/-- The number of error-code elements an event pushes. -/
def Event.codes (e : Event) : List Dword := (e.code.map (·.setWidth 32)).toList

/-- INTERRUPT-TO-SAME-PRIVILEGE-LEVEL (42_i.md R288). -/
def deliverSame (e : Event) (g : Desc) (cs : Word) (c : Desc) : M Unit := do
  let s ← get
  let sz := g.gateSize
  checkRoom s.ss s.ssSize s.sp sz.bytes (3 + e.codes.length)
  checkCodeLimit (c.toSeg cs) g.gateOff
  let image ← imageFlags e
  let oldCs ← padSel sz s.cs.sel
  pushAll sz ([image, oldCs, e.ret] ++ e.codes)
  enterHandler cs c s.cpl g.gateOff
  modifyFlags (gateFlags g)

/-- The stack of an inner level from the TSS, with the checks of an interrupt or call (42_i.md R288, 41_c_d_e_h.md R232);
`null` is the exception for a null selector. -/
def innerStack (level : BitVec 2) (null : Exc) : M (Word × Desc × Dword) := do
  let (nss, nsp) ← tssStack level
  require (!selNull nss) null
  let d ← fetchDesc nss (excTS (selCode nss))
  require (selRpl nss = level) (excTS (selCode nss))
  require (d.dpl = level) (excTS (selCode nss))
  require d.writable (excTS (selCode nss))
  require d.p (excSS (selCode nss))
  return (nss, d, nsp)

/-- The size of the stack a descriptor gives in protected mode (10_state.md R42). -/
def Desc.stackSize (d : Desc) : Sz := if d.db then .s32 else .s16

/-- Switch to the stack of an inner level. -/
def enterStack (nss : Word) (d : Desc) (nsp : Dword) (level : BitVec 2) : M Unit := do
  loadSeg .ss nss d
  setStackPtr nsp
  modify fun s => { s with cpl := level }

/-- INTERRUPT-TO-INNER-PRIVILEGE (42_i.md R288). -/
def deliverInner (e : Event) (g : Desc) (cs : Word) (c : Desc) : M Unit := do
  let s ← get
  let sz := g.gateSize
  let (nss, d, nsp) ← innerStack c.dpl (excGP 0#16)
  checkRoom (d.toSeg nss) d.stackSize nsp sz.bytes (5 + e.codes.length)
  checkCodeLimit (c.toSeg cs) g.gateOff
  let image ← imageFlags e
  let oldSs ← padSel sz s.ss.sel
  let oldCs ← padSel sz s.cs.sel
  enterStack nss d nsp c.dpl
  pushAll sz ([oldSs, s.regs.esp, image, oldCs, e.ret] ++ e.codes)
  enterHandler cs c c.dpl g.gateOff
  modifyFlags (gateFlags g)

/-- INTERRUPT-FROM-V86-MODE (42_i.md R289): ESP takes the whole of TSS.ESP0, and the listing makes no test of the handler's
offset against its limit. -/
def deliverFromV86 (e : Event) (g : Desc) (cs : Word) (c : Desc) : M Unit := do
  let s ← get
  require (c.dpl = 0#2) (excGP (selCode cs))
  match g.gateSize with
  | .s16 => refuse .v86Gate16
  | .s32 => pure ()
  let (nss, d, nsp) ← innerStack 0#2 (excGP 0#16)
  checkRoom (d.toSeg nss) d.stackSize nsp 4 (9 + e.codes.length)
  let image ← imageFlags e
  let oldGs ← padSel .s32 s.gs.sel
  let oldFs ← padSel .s32 s.fs.sel
  let oldDs ← padSel .s32 s.ds.sel
  let oldEs ← padSel .s32 s.es.sel
  let oldSs ← padSel .s32 s.ss.sel
  let oldCs ← padSel .s32 s.cs.sel
  modifyFlags fun f => { gateFlags g f with vm := false }
  loadSeg .ss nss d
  modify fun s => { s with cpl := 0#2, regs := { s.regs with esp := nsp } }
  pushAll .s32 ([oldGs, oldFs, oldDs, oldEs, oldSs, s.regs.esp, image, oldCs, e.ret] ++ e.codes)
  loadNull .gs 0#16
  loadNull .fs 0#16
  loadNull .ds 0#16
  loadNull .es 0#16
  enterHandler cs c 0#2 g.gateOff

/-- The TSS a task gate or a far transfer names: in the GDT, an available TSS, present (42_i.md R289, 41_c_d_e_h.md R233,
43_j.md R306); `bad` is the exception of the page for the first three tests. -/
def fetchTss (t : Word) (bad : Word → Exc) : M Desc := do
  require (!selTI t) (bad (selCode t))
  let td ← fetchDesc t (bad (selCode t))
  require td.availTss (bad (selCode t))
  require td.p (excNP (selCode t))
  return td

/-- TASK-GATE in the IDT (42_i.md R289). Once the tasks are switched TF is cleared, as in every delivery (10_state.md R38,
60_exceptions.md R513, R545), so that the handler task is not stepped; the listing does not say where, DEDUCED, log entry 55. -/
def deliverTask (e : Event) (g : Desc) : M Unit := do
  let td ← fetchTss g.gateSel excTS
  switchTasks .int g.gateSel td e.ret
  committed do
    modifyFlags fun f => { f with tf := false }
    let s ← get
    let sz : Sz := if td.tss386 then .s32 else .s16
    checkRoom s.ss s.ssSize s.sp sz.bytes e.codes.length
    pushAll sz e.codes
    checkCodeLimit s.cs s.eip

/-- Delivery through the IDT in protected mode and V86 mode (42_i.md R288). Answers whether it switched tasks. -/
def deliverProt (e : Event) : M Bool := do
  let s ← get
  require (decide (e.vector.toNat * 8 + 7 ≤ s.idtr.limit.toNat)) (excGP (idtCode e.vector))
  let g ← readDescAt (s.idtr.base + BitVec.ofNat 32 (e.vector.toNat * 8))
  require (g.isSys 5#4 || g.isSys 6#4 || g.isSys 7#4 || g.isSys 14#4 || g.isSys 15#4) (excGP (idtCode e.vector))
  require (!e.software || decide (s.cpl ≤ g.dpl)) (excGP (idtCode e.vector))
  require g.p (excNP (idtCode e.vector))
  if g.isSys 5#4 then
    deliverTask e g
    return true
  else
    let cs := g.gateSel
    require (!selNull cs) (excGP 0#16)
    let c ← fetchDesc cs (excGP (selCode cs))
    require c.isCode (excGP (selCode cs))
    require c.p (excNP (selCode cs))
    if s.flags.vm then deliverFromV86 e g cs c
    else if !c.conforming ∧ c.dpl < s.cpl then deliverInner e g cs c
    else if c.conforming ∨ c.dpl = s.cpl then deliverSame e g cs c
    else raise (excGP (selCode cs))
    return false

/-- EXT is 1 in every selector-form code raised while an exception or external interrupt is delivered
(60_exceptions.md R511, R514); a page fault's code has no EXT. Log entry 13. -/
def withExt (e : Exc) : Exc :=
  if e.vector = 14#8 then e else { e with code := e.code.map (· ||| 1#16) }

/-- One attempt to deliver an event (60_exceptions.md R510): answers whether it switched tasks. -/
def deliver (e : Event) : M Bool := fun s =>
  let m : M Bool := do
    modify fun s => { s with inhibit := .none, halted := false }
    if s.cr0.pe then deliverProt e
    else
      deliverReal e
      return false
  match m s with
  | .error (.exc x st c) => .error (.exc (if e.ext then withExt x else x) st c)
  | r => r

/-- The exceptions of the double-fault rule (60_exceptions.md R547): #DE, #TS, #NP, #SS, #GP. -/
def contributory (vector : Byte) : Bool :=
  vector = 0#8 || vector = 10#8 || vector = 11#8 || vector = 12#8 || vector = 13#8

/-- The state a new exception starts from when an earlier operation failed (00_scope.md R10, R12): the state before it,
with CR2 and the free values drawn since; or, after the commit point of a task switch, the state of the new
task (60_exceptions.md R530). The accessed bits that the instruction's fetch set are in `base` if the fetch came to its end, which
the rules do not say; DESIGN CHOICE, log entry 62. -/
def rollback (base st : State) (isCommitted : Bool) : State :=
  if isCommitted then st
  else { base with cr2 := st.cr2, draws := st.draws }

/-- The end of a delivery: no prefix, no trap pending, and the mark of the emptied queue cleared. -/
def settle (s : State) : State :=
  { s with pfx := Prefixes.none, trapPending := false, queue := { s.queue with flushed := false } }

/-- The event of an exception a state raises at its current instruction (60_exceptions.md R503, R510). For the abort #DF too the
return address is that state's CS:EIP, where R547 says only that it is not meaningful for restart; DESIGN CHOICE, log entry 58. -/
def excEvent (x : Exc) (s : State) : Event :=
  { vector := x.vector, code := x.code, ret := s.eip, software := false, ext := true,
    rf := if x.vector = 8#8 then .free else if x.vector = 1#8 then .zero else .one }

/-- Shutdown (60_exceptions.md R548). -/
def enterShutdown (s : State) : State := settle { s with shutdown := true }

/-- Deliver #DF; if that fails, shut down (60_exceptions.md R547, R548). -/
def takeDoubleFault (base : State) : Host.Outcome State Fault Refusal :=
  match deliver (excEvent excDF base) base with
  | .ok (_, s) => .next (settle s)
  | .error (.exc _ st c) => .next (enterShutdown (rollback base st c))
  | .error (.refuse r) => .refused r

/-- Deliver #PF; a fault of the contributory set or #PF in its delivery is a double fault (60_exceptions.md R547). -/
def takePageFault (x : Exc) (base : State) : Host.Outcome State Fault Refusal :=
  match deliver (excEvent x base) base with
  | .ok (_, s) => .next (settle s)
  | .error (.exc _ st c) => takeDoubleFault (rollback base st c)
  | .error (.refuse r) => .refused r

/-- Deliver an exception of the contributory set: in its delivery #PF is taken in turn, one of the set is a double fault
(60_exceptions.md R547). -/
def takeContributory (x : Exc) (base : State) : Host.Outcome State Fault Refusal :=
  match deliver (excEvent x base) base with
  | .ok (_, s) => .next (settle s)
  | .error (.exc y st c) =>
    if y.vector = 14#8 then takePageFault y (rollback base st c) else takeDoubleFault (rollback base st c)
  | .error (.refuse r) => .refused r

/-- TAKING AN EXCEPTION RAISED DURING A DELIVERY of an event outside the double-fault set, or by an instruction
(60_exceptions.md R510, R547): it is delivered from `base`, its own delivery's faults in turn. -/
def takeFault (x : Exc) (base : State) : Host.Outcome State Fault Refusal :=
  if x.vector = 14#8 then takePageFault x base
  else if contributory x.vector then takeContributory x base
  else if x.vector = 8#8 then takeDoubleFault base
  else
    match deliver (excEvent x base) base with
    | .ok (_, s) => .next (settle s)
    | .error (.exc y st c) =>
      if y.vector = 14#8 then takePageFault y (rollback base st c) else takeContributory y (rollback base st c)
    | .error (.refuse r) => .refused r

/-- TAKING AN EXCEPTION that an operation begun at `base` raised (60_exceptions.md R510). -/
def takeException (base : State) (x : Exc) (st : State) (isCommitted : Bool) : Host.Outcome State Fault Refusal :=
  takeFault x (rollback base st isCommitted)

/-- Take an interrupt or trap at an instruction boundary (60_exceptions.md R520 to R522, R545): the return address is
EIP, the next instruction. -/
def takeInterrupt (vector : Byte) (base : State) : Host.Outcome State Fault Refusal :=
  match deliver { vector := vector, code := none, ret := base.eip, software := false, ext := true, rf := .zero } base with
  | .ok (_, s) => .next (settle s)
  | .error (.exc y st c) => takeException base y st c
  | .error (.refuse r) => .refused r

/-! ## Returning from an exception: IRET (42_i.md R290 to R294) -/

/-- `LoadFlags(v, W)` (42_i.md R291) under the CPL of the code that executes it; POPF uses it without RF and VM. -/
def loadFlags (s : State) (v : Dword) (sz : Sz) (vm : Bool) : Flags :=
  let i := flagsOfWord v
  { s.flags with
    cf := i.cf, pf := i.pf, af := i.af, zf := i.zf, sf := i.sf, tf := i.tf, df := i.df, ov := i.ov, nt := i.nt
    ie := if s.ioAllowed then i.ie else s.flags.ie
    iopl := if !s.cr0.pe || (!s.flags.vm && s.cpl = 0#2) then i.iopl else s.flags.iopl
    rf := if sz = .s32 then i.rf else s.flags.rf
    vm := if vm then i.vm else s.flags.vm }

/-- Element `i` of a frame of `sz`-wide elements. -/
def frameElem (sz : Sz) (bs : List Byte) (i : Nat) : Dword := leValue 32 ((bs.drop (i * sz.bytes)).take sz.bytes)

/-- IRET in Real Address Mode, and in V86 mode with IOPL = 3: the three pops are checked together (42_i.md R290). -/
def iretReal (sz : Sz) : M Unit := do
  let s ← get
  let bs ← memBytes .ss s.sp (3 * sz.bytes)
  let ip := frameElem sz bs 0
  let cs := frameElem sz bs 1
  let fl := frameElem sz bs 2
  require (decide (ip.toNat ≤ 0xFFFF)) (excGP 0#16)
  addStackPtr (3 * sz.bytes)
  loadRealSeg .cs (cs.setWidth 16)
  modify fun s => { s with flags := loadFlags s fl sz false }
  jumpTo ip

/-- The return code segment's checks (42_i.md R292, 47_r.md R427, R428): `level` is the RPL of the return selector. -/
def returnCs (rcs : Word) (level : BitVec 2) : M Desc := do
  require (!selNull rcs) (excGP 0#16)
  let c ← fetchDesc rcs (excGP (selCode rcs))
  require c.isCode (excGP (selCode rcs))
  require (if c.conforming then decide (c.dpl ≤ level) else decide (c.dpl = level)) (excGP (selCode rcs))
  require c.p (excNP (selCode rcs))
  return c

/-- The return stack segment's checks (42_i.md R292, 47_r.md R428). -/
def returnSs (rss : Word) (level : BitVec 2) : M Desc := do
  require (!selNull rss) (excGP 0#16)
  let d ← fetchDesc rss (excGP (selCode rss))
  require (selRpl rss = level) (excGP (selCode rss))
  require d.writable (excGP (selCode rss))
  require (d.dpl = level) (excGP (selCode rss))
  require d.p (excNP (selCode rss))
  return d

/-- The outer stack pointer of an inter-level return: with W = 2 on a 32-bit stack the upper half of ESP is unspecified
(42_i.md R292, U4). -/
def returnSp (sz : Sz) (sp : Dword) : M Unit := do
  let s ← get
  match sz, s.ssSize with
  | .s16, .s32 => do
    let u ← draw 16
    setStackPtr (u ++ sp.setWidth 16)
  | _, _ => setStackPtr sp

/-- A data segment register after a return to an outer level: zeroed and not valid when `bad` (42_i.md R292). -/
def invalidate (bad : State → SegReg → Bool) (r : Sreg) : M Unit :=
  modify fun s => if bad s (s.seg r) then s.setSeg r { s.seg r with sel := 0#16, valid := false } else s

/-- IRET's test: a data or nonconforming code segment whose DPL is below the new CPL; a null register is left as it is
(the listing of 42_i.md R292). That the DPL must also reach the selector's RPL is in the prose only, and is not asked; DEDUCED,
log entry 60. -/
def iretInvalid (s : State) (g : SegReg) : Bool :=
  !selNull g.sel && g.s && !g.conforming && decide (g.dpl < s.cpl)

/-- STACK-RETURN of IRET in protected mode (42_i.md R292). -/
def iretProt (sz : Sz) : M Unit := do
  let s ← get
  checkStackTop sz.bytes sz.bytes
  let rcs := (← stackRead sz sz.bytes).setWidth 16
  require (decide (s.cpl ≤ selRpl rcs)) (excGP (selCode rcs))
  if selRpl rcs = s.cpl then
    checkStackTop 0 (3 * sz.bytes)
    let c ← returnCs rcs s.cpl
    let ip ← stackRead sz 0
    checkCodeLimit (c.toSeg rcs) ip
    let fl ← stackRead sz (2 * sz.bytes)
    loadSeg .cs rcs c
    modify fun t => { t with flags := loadFlags s fl sz false }
    addStackPtr (3 * sz.bytes)
    jumpTo ip
  else
    checkStackTop 0 (5 * sz.bytes)
    let c ← returnCs rcs (selRpl rcs)
    let rss := (← stackRead sz (4 * sz.bytes)).setWidth 16
    let d ← returnSs rss (selRpl rcs)
    let ip ← stackRead sz 0
    checkCodeLimit (c.toSeg rcs) ip
    let fl ← stackRead sz (2 * sz.bytes)
    let sp ← stackRead sz (3 * sz.bytes)
    loadSeg .cs rcs c
    modify fun t => { t with flags := loadFlags s fl sz false }
    loadSeg .ss rss d
    returnSp sz sp
    modify fun t => { t with cpl := selRpl rcs }
    invalidate iretInvalid .es
    invalidate iretInvalid .fs
    invalidate iretInvalid .gs
    invalidate iretInvalid .ds
    jumpTo ip

/-- IRETD to V86 mode (42_i.md R293). -/
def iretToV86 : M Unit := do
  checkStackTop 0 36
  let ip ← stackRead .s32 0
  let cs ← stackRead .s32 4
  let fl ← stackRead .s32 8
  let sp ← stackRead .s32 12
  let ss ← stackRead .s32 16
  let es ← stackRead .s32 20
  let ds ← stackRead .s32 24
  let fs ← stackRead .s32 28
  let gs ← stackRead .s32 32
  require (decide (ip.toNat ≤ 0xFFFF)) (excGP 0#16)
  modify fun s => { s with flags := flagsOfWord fl, cpl := 3#2, regs := { s.regs with esp := sp } }
  loadRealSeg .cs (cs.setWidth 16)
  loadRealSeg .ss (ss.setWidth 16)
  loadRealSeg .es (es.setWidth 16)
  loadRealSeg .ds (ds.setWidth 16)
  loadRealSeg .fs (fs.setWidth 16)
  loadRealSeg .gs (gs.setWidth 16)
  jumpTo ip

/-- TASK-RETURN of IRET (42_i.md R294). -/
def iretTask : M Unit := do
  let s ← get
  let b ← linRead s.tr.base 2
  require (!selTI b) (excTS (selCode b))
  let td ← fetchDesc b (excTS (selCode b))
  require td.busyTss (excTS (selCode b))
  require td.p (excNP (selCode b))
  switchTasks .iret b td s.next
  committed do
    let s ← get
    checkCodeLimit s.cs s.eip

/-- IRET and IRETD (42_i.md R290). NMI is unblocked when the whole IRET succeeds (10_state.md R57 says no more than "cleared
by any IRET"): a task return that faults after the commit point of its switch leaves it blocked; DESIGN CHOICE, log entry
50. -/
def returnFromInterrupt (sz : Sz) : M Unit := do
  let s ← get
  if s.mode = .real ∨ (s.mode = .v86 ∧ s.flags.iopl = 3#2) then iretReal sz
  else if s.mode = .v86 then raise (excGP 0#16)
  else if s.flags.nt then iretTask
  else if sz = .s32 ∧ s.cpl = 0#2 then
    checkStackTop 8 4
    let fl ← stackRead .s32 8
    if fl.getLsbD 17 then iretToV86 else iretProt sz
  else iretProt sz
  modify fun s => { s with nmiBlocked := false }

/-! ## Running one instruction -/

/-- Where a walk puts a linear address. -/
def Walk.phys (lin : Dword) : Walk → Option Nat
  | .absent => none
  | .found _ _ pde pte => some ((entryOf pde pte).phys lin)

/-- The physical address a code byte is fetched from, as the tables stand; nothing is changed. -/
def State.fetchAddr (s : State) (off : Dword) : Option Nat :=
  let lin := s.linear .cs off
  if s.cr0.pg then (s.walk lin).phys lin else some lin.toNat

/-- The physical addresses a prefetch may read a linear address from: those of the walks that `translate` may use, and, where
every translation is unspecified, each listed byte at that place of a page. -/
def State.fetchAddrs (s : State) (lin : Dword) : List Nat :=
  if s.cr0.pg then
    if s.tlbUndef then (s.mem.map (·.1)).filter fun a => a % 4096 = lin.toNat % 4096
    else (s.walk lin :: s.oldWalks lin).filterMap (Walk.phys lin)
  else [lin.toNat]

/-- The bytes a prefetch may read there; a page that nothing lists gives the unlisted byte. -/
def State.codeBytes (s : State) (lin : Dword) : List Byte :=
  (if s.cr0.pg && s.tlbUndef then [Memory.unlisted] else []) ++ (s.fetchAddrs lin).map s.byte

/-- The bytes the queue may hold of a linear address that the instruction from `s` to `t` overtook: what a store replaced
(20_memory.md R112), or, when CR0.PG changed, whatever was fetched before (70_reset_and_hazards.md R573). -/
def overtakenAt (s t : State) (lin : Dword) : List Byte :=
  if s.cr0.pg = t.cr0.pg then
    ((s.fetchAddrs lin ++ t.fetchAddrs lin).filter fun a => decide (s.byte a ≠ t.byte a)).map s.byte
  else (s.codeBytes lin).filter fun b => decide (t.codeBytes lin ≠ [b])

/-- The prefetched bytes the instruction from `s` to `t` overtook, of the `Config.prefetchDepth` bytes from its end, each with
its linear address. Older ones stay in the queue beside them, whatever the translation becomes. Log entry 9. -/
def overtaken (s t : State) : List Host.Cell :=
  if s.mem = t.mem ∧ s.cr0.pg = t.cr0.pg then []
  else (List.range Config.prefetchDepth).flatMap fun i =>
    let lin := t.linear .cs (s.next + BitVec.ofNat 32 i)
    (overtakenAt s t lin).eraseDups.map fun b => (lin.toNat, b)

/-- The end of an instruction that completed: what its stores overtook in the prefetch queue (20_memory.md R112), the
single-step trap if TF was 1 when it began (60_exceptions.md R545), and no prefix. -/
def retire (s t : State) : State :=
  { t with
    trapPending := s.flags.tf
    pfx := Prefixes.none
    queue := { stale := if t.queue.flushed then [] else overtaken s t ++ t.queue.stale
               flushed := false, jumpNeeded := t.queue.jumpNeeded } }

/-- The state an instruction's operation starts from: EIP has advanced to `next`, the interrupt shadow is over
(70_reset_and_hazards.md R570), and the queue is not emptied yet. -/
def begun (s : State) : State :=
  { s with eip := s.next, inhibit := .none, queue := { s.queue with flushed := false } }

/-- Run an instruction's operation from `s`, whose EIP is `pc`: it completes, or takes the exception it raises
(00_scope.md R10), or the model refuses. -/
def runM (s : State) (m : M Unit) : Host.Outcome State Fault Refusal :=
  match m (begun s) with
  | .ok (_, t) => .next (retire s t)
  | .error (.exc x st c) => takeException s x st c
  | .error (.refuse r) => .refused r

/-- RF is cleared by the completion of an instruction (10_state.md R38). -/
def clearRF : M Unit := modifyFlags fun f => { f with rf := false }

/-- LOCK before an instruction that does not accept it, a repeat prefix before one that is no string instruction:
`raise #UD` (30_encoding.md R122). -/
def checkPrefixes (s : State) (lockable : Bool) : M Unit := do
  require (!s.pfx.lock || lockable) excUD
  require s.pfx.rep.isNone excUD

/-- Run an instruction that is not a string instruction, then clear RF. -/
def perform (s : State) (lockable : Bool) (m : M Unit) : Host.Outcome State Fault Refusal :=
  runM s do
    checkPrefixes s lockable
    m
    clearRF

/-- Run IRET, POPF, or a transfer that may switch tasks: `m` itself decides RF (10_state.md R38). -/
def performKeepingRF (s : State) (m : M Unit) : Host.Outcome State Fault Refusal :=
  runM s do
    checkPrefixes s false
    m

/-- Run a transfer that answers whether it switched tasks: RF is cleared unless it did (10_state.md R38). -/
def performTransfer (s : State) (m : M Bool) : Host.Outcome State Fault Refusal :=
  performKeepingRF s do
    if ← m then pure () else clearRF

/-- `raise #GP(0)` unless CPL is 0 (60_exceptions.md R551; in V86 mode CPL is 3, in Real Address Mode 0). -/
def requireCpl0 : M Unit := do
  let s ← get
  require (!s.cr0.pe || (!s.flags.vm && s.cpl = 0#2)) (excGP 0#16)

/-- "is not recognized in Real Address Mode", and V86 mode the same: `raise #UD` (60_exceptions.md R551). -/
def requireProt : M Unit := do
  let s ← get
  require (s.mode = .prot) excUD

end Sys2Proof.Machine
end

