-- ==== Sys2Proof/Machine/Operands.lean ====
section
/-! DEFINITION. The operand forms: effective addresses (30_encoding.md R131 to R136), r/m operands (R130), immediates
(R144), far pointers (R146), and the index registers of the string instructions (R123, R135). -/

namespace Sys2Proof.Machine

/-! ## Effective addresses -/

/-- The sum of the registers of a 16-bit address form, modulo 2^16 (30_encoding.md R131). -/
def GeneralRegs.base16 (g : GeneralRegs) : Base16 → Word
  | .bxsi => g.read .b16 .bx + g.read .b16 .si
  | .bxdi => g.read .b16 .bx + g.read .b16 .di
  | .bpsi => g.read .b16 .bp + g.read .b16 .si
  | .bpdi => g.read .b16 .bp + g.read .b16 .di
  | .si => g.read .b16 .si
  | .di => g.read .b16 .di
  | .bp => g.read .b16 .bp
  | .bx => g.read .b16 .bx

/-- The value of a 16-bit form's displacement: `disp8` is sign-extended (30_encoding.md R131). -/
def dispWord : Disp16 → Word
  | .none => 0#16
  | .d8 d => d.signExtend 16
  | .d16 d => d

/-- The value of a 32-bit form's displacement: `disp8` is sign-extended (30_encoding.md R132). -/
def dispDword : Disp32 → Dword
  | .none => 0#32
  | .d8 d => d.signExtend 32
  | .d32 d => d

/-- The scaled index of a SIB byte; index number 100 means no index (30_encoding.md R133). -/
def GeneralRegs.scaledIndex (g : GeneralRegs) (scale : BitVec 2) (index : Reg) : Dword :=
  if index = .sp then 0#32 else g.get index <<< scale.toNat

/-- The effective address, zero-extended to 32 bits (30_encoding.md R131 to R134). -/
def GeneralRegs.ea (g : GeneralRegs) : Mem → Dword
  | .direct16 d => d.setWidth 32
  | .based16 b d => (g.base16 b + dispWord d).setWidth 32
  | .direct32 d => d
  | .based32 b d => g.get b + dispDword d
  | .sib scale index base d => g.get base + g.scaledIndex scale index + dispDword d
  | .sibNoBase scale index d => g.scaledIndex scale index + d

/-- "`ss` values other than 00 with index = 100 give an `UNDEF` effective address" (30_encoding.md R133). -/
def openAddress : Mem → Bool
  | .sib scale index _ _ => index = .sp && scale ≠ 0#2
  | .sibNoBase scale index _ => index = .sp && scale ≠ 0#2
  | _ => false

/-- The effective address of a memory operand; an unspecified one is a free value (30_encoding.md R133, log entry 28). -/
def effAddr (m : Mem) : M Dword :=
  if openAddress m then draw 32 else fun s => .ok (s.regs.ea m, s)

/-- The address size a memory operand was decoded with. -/
def addressSize : Mem → Sz
  | .direct16 _ => .s16
  | .based16 _ _ => .s16
  | _ => .s32

/-- The default segment of a memory operand: SS when BP, EBP or ESP is the base, else DS (30_encoding.md R131 to
R133). -/
def defaultSeg : Mem → Sreg
  | .based16 b _ => if b = .bpsi ∨ b = .bpdi ∨ b = .bp then .ss else .ds
  | .based32 b _ => if b = .bp then .ss else .ds
  | .sib _ _ base _ => if base = .bp ∨ base = .sp then .ss else .ds
  | _ => .ds

/-- The segment of an overridable memory operand: that of the override prefix, or the default (30_encoding.md R135). -/
def State.dataSeg (s : State) (dflt : Sreg) : Sreg := s.pfx.seg.getD dflt

/-- The segment register and offset of a memory operand (30_encoding.md R135). -/
def resolve (m : Mem) : M (Sreg × Dword) := do
  let off ← effAddr m
  let s ← get
  return (s.dataSeg (defaultSeg m), off)

/-! ## r/m operands -/

/-- Where an operand is, after its checks: a register, or the physical addresses of its bytes. -/
inductive Place where
  | reg (r : Reg)
  | mem (addrs : List Nat)
  deriving DecidableEq, Repr

/-- Find an r/m operand and make its checks: for writing when `wr` (20_memory.md R90). -/
def openRm (w : Width) (rm : Rm) (wr : Bool) : M Place :=
  match rm with
  | .reg r => pure (.reg r)
  | .mem m => do
    let (seg, off) ← resolve m
    return .mem (← openMem seg off w.bytes wr)

/-- Read an operand. -/
def readPlace (w : Width) : Place → M (BitVec w.bits)
  | .reg r => readReg w r
  | .mem as => do return leValue _ (← readPhys as)

/-- Write an operand. -/
def writePlace (w : Width) (p : Place) (v : BitVec w.bits) : M Unit :=
  match p with
  | .reg r => writeReg w r v
  | .mem as => writePhys as (leBytes w.bytes v)

/-- Read an r/m operand. -/
def readRm (w : Width) (rm : Rm) : M (BitVec w.bits) := do
  let p ← openRm w rm false
  readPlace w p

/-- Write an r/m operand. -/
def writeRm (w : Width) (rm : Rm) (v : BitVec w.bits) : M Unit := do
  let p ← openRm w rm true
  writePlace w p v

/-- Read an r/m operand, compute, and write it: the write checks come first (20_memory.md R90). SHLD and SHRD with a count
of 0 make these checks and store the value back, so the page becomes dirty; DEDUCED, log entry 53. -/
def updateRm (w : Width) (rm : Rm) (f : BitVec w.bits → M (BitVec w.bits)) : M Unit := do
  let p ← openRm w rm true
  let a ← readPlace w p
  let r ← f a
  writePlace w p r

/-- Read a general register, compute, and write it. -/
def updateReg (w : Width) (r : Reg) (f : BitVec w.bits → M (BitVec w.bits)) : M Unit := do
  let a ← readReg w r
  let v ← f a
  writeReg w r v

/-- Whether an r/m operand is memory: a LOCK prefix needs that (44_l.md R340). -/
def isMem : Rm → Bool
  | .mem _ => true
  | .reg _ => false

/-- The memory operand of a row that requires one; with mod = 11 `raise #UD` (30_encoding.md R137). -/
def requireMem (rm : Rm) : M Mem :=
  match rm with
  | .mem m => pure m
  | .reg _ => raise excUD

/-- The selector operand of LAR and LSL: 2 bytes, or 4 of which the low 16 are the selector (44_l.md R321). -/
def readSelector (os : Sz) (rm : Rm) : M Word := do
  let v ← readRm os.width rm
  return v.setWidth 16

/-! ## Immediates, direct offsets and far pointers -/

/-- The operand size an immediate carries (30_encoding.md R144). -/
def immSize : Imm → Sz
  | .i16 _ => .s16
  | .i32 _ => .s32

/-- The value of an immediate, zero-extended. -/
def immValue : Imm → Dword
  | .i16 v => v.setWidth 32
  | .i32 v => v

/-- The value of an immediate, sign-extended: a relative offset (30_encoding.md R145). -/
def immSigned : Imm → Dword
  | .i16 v => v.signExtend 32
  | .i32 v => v

/-- The value of an immediate at its own width. -/
def immAt (w : Width) (v : Imm) : BitVec w.bits := (immValue v).setWidth _

/-- An immediate byte sign-extended to an operand size (30_encoding.md R144). -/
def sextByte (w : Width) (b : Byte) : BitVec w.bits := b.signExtend _

/-- The operand of a `moffs` row: a bare offset in DS or the override (30_encoding.md R136). -/
def openMoffs (w : Width) (o : Imm) (wr : Bool) : M Place := do
  let s ← get
  return .mem (← openMem (s.dataSeg .ds) (immValue o) w.bytes wr)

/-- The operand size of a far pointer. -/
def farSize : FarPtr → Sz
  | .p16 _ _ => .s16
  | .p32 _ _ => .s32

/-- Offset, zero-extended, and selector of a far pointer in the instruction (30_encoding.md R146). -/
def farParts : FarPtr → Dword × Word
  | .p16 off sel => (off.setWidth 32, sel)
  | .p32 off sel => (off, sel)

/-- An operand of two parts in memory, of `k` bytes and then of `n`, read in this order (20_memory.md R83, R97). -/
def readPair (m : Mem) (k n : Nat) : M (Dword × Dword) := do
  let (seg, off) ← resolve m
  let (lo, hi) ← memParts seg off k n
  return (leValue 32 lo, leValue 32 hi)

/-- The far pointer of CALL and JMP in memory, one `MemRead`: offset at the lower address, then the selector; mod = 11
raises #UD (30_encoding.md R137, 41_c_d_e_h.md R231, R232). -/
def readFar (os : Sz) (rm : Rm) : M (Dword × Word) := do
  let m ← requireMem rm
  let (seg, off) ← resolve m
  let bs ← memBytes seg off (os.bytes + 2)
  return (leValue 32 (bs.take os.bytes), leValue 16 (bs.drop os.bytes))

/-! ## String operands (30_encoding.md R135 c, d) -/

/-- The step of an index register: up when DF = 0, down when DF = 1 (10_state.md R38). -/
def indexStep (f : Flags) (w : Width) : Dword :=
  if f.df then 0#32 - BitVec.ofNat 32 w.bytes else BitVec.ofNat 32 w.bytes

/-- Step an index register modulo 2^AS; with AS = 16 its upper half is unchanged (41_c_d_e_h.md R241). -/
def stepIndex (as : Sz) (w : Width) (r : Reg) : M Unit := do
  let f ← getFlags
  let i ← readRegSz as r
  writeRegSz as r (i + indexStep f w)

/-- Open the source operand seg:[(E)SI], DS or the override (30_encoding.md R135 c). -/
def openSource (as : Sz) (w : Width) : M Place := do
  let s ← get
  let si ← readRegSz as .si
  return .mem (← openMem (s.dataSeg .ds) si w.bytes false)

/-- Open the destination operand ES:[(E)DI], not overridable (30_encoding.md R135 d). -/
def openDest (as : Sz) (w : Width) (wr : Bool) : M Place := do
  let di ← readRegSz as .di
  return .mem (← openMem .es di w.bytes wr)

end Sys2Proof.Machine
end

