-- ==== Sys2Proof/Machine/Arith.lean ====
section
/-! DEFINITION. Arithmetic and logic: ADD OR ADC SBB AND SUB XOR CMP, INC DEC NEG NOT TEST, MUL IMUL DIV
IDIV, and the decimal adjustments. -/

namespace Sys2Proof.Machine

/-! ## The eight two-operand operations (40_a_b.md R215) -/

/-- The operations that share the forms of 40_a_b.md R215. -/
inductive AluOp where
  | add | or | adc | sbb | and | sub | xor | cmp
  deriving DecidableEq, Repr

/-- CMP stores no result (41_c_d_e_h.md R240). -/
def writesResult (op : AluOp) : Bool := op ≠ .cmp

/-- AND, OR and XOR leave AF undefined (10_state.md R39). -/
def isLogic : AluOp → Bool
  | .and | .or | .xor => true
  | _ => false

/-- The result of an operation on DEST = `a` and SRC = `b` with carry `c` (40_a_b.md R204 to R206, 41_c_d_e_h.md R240,
45_m_n_o.md R380, 48_s.md R445, R469, 49_t_v_w_x.md R487). -/
def aluResult {n : Nat} (op : AluOp) (a b : BitVec n) (c : Bool) : BitVec n :=
  match op with
  | .add => addResult a b false
  | .adc => addResult a b c
  | .sub | .cmp => subResult a b false
  | .sbb => subResult a b c
  | .and => a &&& b
  | .or => a ||| b
  | .xor => a ^^^ b

/-- The flags of an operation; `u` is the unspecified AF of the logical ones (10_state.md R37, R39). -/
def aluFlags {n : Nat} (op : AluOp) (a b : BitVec n) (u : Bool) (f : Flags) : Flags :=
  match op with
  | .add => addFlags a b false f
  | .adc => addFlags a b f.cf f
  | .sub | .cmp => subFlags a b false f
  | .sbb => subFlags a b f.cf f
  | .and | .or | .xor => logicFlags (aluResult op a b f.cf) u f

/-- One operation: set the flags and answer the result. -/
def alu {n : Nat} (op : AluOp) (a b : BitVec n) : M (BitVec n) := do
  let f ← getFlags
  let u ← if isLogic op then draw 1 else pure 0#1
  modifyFlags (aluFlags op a b (u.getLsbD 0))
  return aluResult op a b f.cf

/-- One operation on an opened destination. -/
def aluTo (w : Width) (op : AluOp) (p : Place) (b : BitVec w.bits) : M Unit := do
  let a ← readPlace w p
  let r ← alu op a b
  if writesResult op then writePlace w p r

/-- The forms with an r/m destination and a register source. -/
def aluRmReg (s : State) (w : Width) (op : AluOp) (rm : Rm) (r : Reg) : Host.Outcome State Fault Refusal :=
  perform s (isMem rm && writesResult op) do
    let b ← readReg w r
    let p ← openRm w rm (writesResult op)
    aluTo w op p b

/-- The forms with an r/m destination and an immediate source. -/
def aluRmImm (s : State) (w : Width) (op : AluOp) (rm : Rm) (b : BitVec w.bits) : Host.Outcome State Fault Refusal :=
  perform s (isMem rm && writesResult op) do
    let p ← openRm w rm (writesResult op)
    aluTo w op p b

/-- The forms with a register destination and an r/m source. -/
def aluRegRm (s : State) (w : Width) (op : AluOp) (r : Reg) (rm : Rm) : Host.Outcome State Fault Refusal :=
  perform s false do
    let b ← readRm w rm
    aluTo w op (.reg r) b

/-- The forms with the accumulator and an immediate. -/
def aluAccImm (s : State) (w : Width) (op : AluOp) (b : BitVec w.bits) : Host.Outcome State Fault Refusal :=
  perform s false (aluTo w op (.reg .ax) b)

/-! ## INC, DEC, NEG, NOT, TEST -/

/-- INC: `AddFlags_N(a, 1, 0)` with CF unchanged (42_i.md R273). -/
def incr {n : Nat} (a : BitVec n) : M (BitVec n) := do
  modifyFlags fun f => { addFlags a 1#n false f with cf := f.cf }
  return addResult a 1#n false

/-- DEC: `SubFlags_N(a, 1, 0)` with CF unchanged (41_c_d_e_h.md R245). -/
def decr {n : Nat} (a : BitVec n) : M (BitVec n) := do
  modifyFlags fun f => { subFlags a 1#n false f with cf := f.cf }
  return subResult a 1#n false

/-- NEG: `SubFlags_N(0, a, 0)` (45_m_n_o.md R373). -/
def negate {n : Nat} (a : BitVec n) : M (BitVec n) := do
  modifyFlags (subFlags 0#n a false)
  return subResult 0#n a false

/-- NOT: no flag changes (45_m_n_o.md R375). -/
def complement {n : Nat} (a : BitVec n) : M (BitVec n) := pure (~~~a)

/-- The one-operand forms on r/m; LOCK is accepted on memory (44_l.md R340). -/
def unaryRm (s : State) (w : Width) (rm : Rm) (f : BitVec w.bits → M (BitVec w.bits)) : Host.Outcome State Fault Refusal :=
  perform s (isMem rm) (updateRm w rm f)

/-- TEST: the flags of the AND; nothing is written (49_t_v_w_x.md R480). -/
def testBits {n : Nat} (a b : BitVec n) : M Unit := do
  let u ← draw 1
  modifyFlags (logicFlags (a &&& b) (u.getLsbD 0))

/-! ## Multiplication and division -/

/-- The double-width value AX, DX:AX or EDX:EAX (41_c_d_e_h.md R246). -/
def readDouble (w : Width) : M (BitVec (w.bits + w.bits)) :=
  match w with
  | .b8 => readReg .b16 .ax
  | .b16 => do return (← readReg .b16 .dx) ++ (← readReg .b16 .ax)
  | .b32 => do return (← readReg .b32 .dx) ++ (← readReg .b32 .ax)

/-- Write a pair: the low part to AL, AX or EAX, the high part to AH, DX or EDX (41_c_d_e_h.md R246). -/
def writePair (w : Width) (hi lo : BitVec w.bits) : M Unit :=
  match w, hi, lo with
  | .b8, hi, lo => do
    writeReg .b8 .ax lo
    writeReg .b8 .sp hi
  | .b16, hi, lo => do
    writeReg .b16 .ax lo
    writeReg .b16 .dx hi
  | .b32, hi, lo => do
    writeReg .b32 .ax lo
    writeReg .b32 .dx hi

/-- CF and OF of a multiplication; the other status flags are undefined (10_state.md R39). -/
def mulFlags (high : Bool) : M Unit := do
  modifyFlags fun f => { f with cf := high, ov := high }
  undefStatus { sf := true, zf := true, af := true, pf := true }

/-- MUL: the product of the accumulator and `b`, unsigned; CF and OF say whether the high half is not 0
(45_m_n_o.md R372). -/
def mulUnsigned (w : Width) (b : BitVec w.bits) : M Unit := do
  let a ← readReg w .ax
  let p := a.toNat * b.toNat
  let hi := BitVec.ofNat w.bits (p / 2 ^ w.bits)
  writePair w hi (BitVec.ofNat w.bits p)
  mulFlags (hi != 0#w.bits)

/-- The signed product modulo 2^N of the high and the low half. -/
def signedHi (n : Nat) (p : Int) : BitVec n := BitVec.ofInt n (p / 2 ^ n)

/-- IMUL with one operand: the signed product of the accumulator and `b`; CF and OF say whether the product is not the
sign extension of its low half (42_i.md R271). -/
def mulSigned (w : Width) (b : BitVec w.bits) : M Unit := do
  let a ← readReg w .ax
  let p := a.toInt * b.toInt
  let lo := BitVec.ofInt w.bits p
  writePair w (signedHi w.bits p) lo
  mulFlags (p != lo.toInt)

/-- IMUL into a register: the low half of the signed product (42_i.md R271). -/
def mulSignedTo (w : Width) (r : Reg) (a b : BitVec w.bits) : M Unit := do
  let p := a.toInt * b.toInt
  let lo := BitVec.ofInt w.bits p
  writeReg w r lo
  mulFlags (p != lo.toInt)

/-- DIV (41_c_d_e_h.md R246). -/
def divUnsigned (w : Width) (v : BitVec w.bits) : M Unit := do
  let d ← readDouble w
  require (v != 0#w.bits) excDE
  let q := d.toNat / v.toNat
  require (decide (q < 2 ^ w.bits)) excDE
  writePair w (BitVec.ofNat w.bits (d.toNat % v.toNat)) (BitVec.ofNat w.bits q)
  undefStatus UndefMask.all

/-- IDIV: truncation toward 0, the remainder has the sign of the dividend (42_i.md R270). -/
def divSigned (w : Width) (v : BitVec w.bits) : M Unit := do
  let d ← readDouble w
  require (v != 0#w.bits) excDE
  let q := d.toInt.tdiv v.toInt
  require (decide (-(2 ^ (w.bits - 1)) ≤ q ∧ q < 2 ^ (w.bits - 1))) excDE
  writePair w (BitVec.ofInt w.bits (d.toInt.tmod v.toInt)) (BitVec.ofInt w.bits q)
  undefStatus UndefMask.all

/-- The forms of MUL, IMUL, DIV and IDIV with one r/m operand. -/
def accRm (s : State) (w : Width) (rm : Rm) (f : BitVec w.bits → M Unit) : Host.Outcome State Fault Refusal :=
  perform s false do
    let b ← readRm w rm
    f b

/-- The forms of IMUL with a register destination and two further operands. -/
def imulTo (s : State) (w : Width) (r : Reg) (rm : Rm) (b : BitVec w.bits) : Host.Outcome State Fault Refusal :=
  perform s false do
    let a ← readRm w rm
    mulSignedTo w r a b

/-! ## Decimal adjustment -/

/-- "the low nibble of AL is above 9, or AF = 1" (40_a_b.md R200, 41_c_d_e_h.md R243). -/
def lowAdjust (al : Byte) (f : Flags) : Bool := decide (9 < nibble al) || f.af

/-- AAA and AAS: `d` is 6 or -6, `h` is 1 or -1 (40_a_b.md R200, R203). -/
def asciiAdjust (d h : Byte) : M Unit := do
  let f ← getFlags
  let al ← readReg .b8 .ax
  let ah ← readReg .b8 .sp
  if lowAdjust al f then
    writeReg .b8 .ax ((al + d) &&& 0x0F#8)
    writeReg .b8 .sp (ah + h)
  else writeReg .b8 .ax (al &&& 0x0F#8)
  modifyFlags fun f => { f with af := lowAdjust al f, cf := lowAdjust al f }
  undefStatus { ov := true, sf := true, zf := true, pf := true }

/-- DAA and DAS: `d` is 6 or -6, `h` is 60H or -60H; the second test sees AL as the first step left it
(41_c_d_e_h.md R243, R244, log entry 12). -/
def decimalAdjust (d h : Byte) : M Unit := do
  let f ← getFlags
  let al ← readReg .b8 .ax
  let mid := if lowAdjust al f then al + d else al
  let high := decide (0x9F < mid.toNat) || f.cf
  let r := if high then mid + h else mid
  writeReg .b8 .ax r
  modifyFlags fun f => { szpFlags r f with af := lowAdjust al f, cf := high }
  undefStatus { ov := true }

/-- AAD (40_a_b.md R201). -/
def asciiBeforeDivide : M Unit := do
  let al ← readReg .b8 .ax
  let ah ← readReg .b8 .sp
  let r := ah * 10#8 + al
  writeReg .b8 .ax r
  writeReg .b8 .sp 0#8
  modifyFlags (szpFlags r)
  undefStatus { ov := true, af := true, cf := true }

/-- AAM (40_a_b.md R202). -/
def asciiAfterMultiply : M Unit := do
  let t ← readReg .b8 .ax
  let r := t % 10#8
  writeReg .b8 .sp (t / 10#8)
  writeReg .b8 .ax r
  modifyFlags (szpFlags r)
  undefStatus { ov := true, af := true, cf := true }

/-! ## The rows -/

/-- ADD r/m8,r8, `00 /r` (40_a_b.md R205). -/
def execAddRm8R8 (rm : Rm) (r : Reg) (s : State) : Host.Outcome State Fault Refusal := aluRmReg s .b8 .add rm r

/-- ADD r/m16,r16 | r/m32,r32, `01 /r` (40_a_b.md R205). -/
def execAddRmR (os : Sz) (rm : Rm) (r : Reg) (s : State) : Host.Outcome State Fault Refusal :=
  aluRmReg s os.width .add rm r

/-- ADD r8,r/m8, `02 /r` (40_a_b.md R205). -/
def execAddR8Rm8 (r : Reg) (rm : Rm) (s : State) : Host.Outcome State Fault Refusal := aluRegRm s .b8 .add r rm

/-- ADD r16,r/m16 | r32,r/m32, `03 /r` (40_a_b.md R205). -/
def execAddRRm (os : Sz) (r : Reg) (rm : Rm) (s : State) : Host.Outcome State Fault Refusal :=
  aluRegRm s os.width .add r rm

/-- ADD AL,imm8, `04 ib` (40_a_b.md R205). -/
def execAddAlImm8 (b : Byte) (s : State) : Host.Outcome State Fault Refusal := aluAccImm s .b8 .add b

/-- ADD AX,imm16 | EAX,imm32, `05 iw/id` (40_a_b.md R205). -/
def execAddAccImm (v : Imm) (s : State) : Host.Outcome State Fault Refusal :=
  aluAccImm s (immSize v).width .add (immAt _ v)

/-- ADD r/m8,imm8, `80 /0 ib` (40_a_b.md R205). -/
def execAddRm8Imm8 (rm : Rm) (b : Byte) (s : State) : Host.Outcome State Fault Refusal := aluRmImm s .b8 .add rm b

/-- ADD r/m16,imm16 | r/m32,imm32, `81 /0 iw/id` (40_a_b.md R205). -/
def execAddRmImm (rm : Rm) (v : Imm) (s : State) : Host.Outcome State Fault Refusal :=
  aluRmImm s (immSize v).width .add rm (immAt _ v)

/-- ADD r/m16,imm8 | r/m32,imm8, `83 /0 ib` (40_a_b.md R205). -/
def execAddRmImm8 (os : Sz) (rm : Rm) (b : Byte) (s : State) : Host.Outcome State Fault Refusal :=
  aluRmImm s os.width .add rm (sextByte _ b)

/-- OR r/m8,r8, `08 /r` (45_m_n_o.md R380). -/
def execOrRm8R8 (rm : Rm) (r : Reg) (s : State) : Host.Outcome State Fault Refusal := aluRmReg s .b8 .or rm r

/-- OR r/m16,r16 | r/m32,r32, `09 /r` (45_m_n_o.md R380). -/
def execOrRmR (os : Sz) (rm : Rm) (r : Reg) (s : State) : Host.Outcome State Fault Refusal :=
  aluRmReg s os.width .or rm r

/-- OR r8,r/m8, `0A /r` (45_m_n_o.md R380). -/
def execOrR8Rm8 (r : Reg) (rm : Rm) (s : State) : Host.Outcome State Fault Refusal := aluRegRm s .b8 .or r rm

/-- OR r16,r/m16 | r32,r/m32, `0B /r` (45_m_n_o.md R380). -/
def execOrRRm (os : Sz) (r : Reg) (rm : Rm) (s : State) : Host.Outcome State Fault Refusal :=
  aluRegRm s os.width .or r rm

/-- OR AL,imm8, `0C ib` (45_m_n_o.md R380). -/
def execOrAlImm8 (b : Byte) (s : State) : Host.Outcome State Fault Refusal := aluAccImm s .b8 .or b

/-- OR AX,imm16 | EAX,imm32, `0D iw/id` (45_m_n_o.md R380). -/
def execOrAccImm (v : Imm) (s : State) : Host.Outcome State Fault Refusal :=
  aluAccImm s (immSize v).width .or (immAt _ v)

/-- OR r/m8,imm8, `80 /1 ib` (45_m_n_o.md R380). -/
def execOrRm8Imm8 (rm : Rm) (b : Byte) (s : State) : Host.Outcome State Fault Refusal := aluRmImm s .b8 .or rm b

/-- OR r/m16,imm16 | r/m32,imm32, `81 /1 iw/id` (45_m_n_o.md R380). -/
def execOrRmImm (rm : Rm) (v : Imm) (s : State) : Host.Outcome State Fault Refusal :=
  aluRmImm s (immSize v).width .or rm (immAt _ v)

/-- OR r/m16,imm8 | r/m32,imm8, `83 /1 ib` (45_m_n_o.md R380). -/
def execOrRmImm8 (os : Sz) (rm : Rm) (b : Byte) (s : State) : Host.Outcome State Fault Refusal :=
  aluRmImm s os.width .or rm (sextByte _ b)

/-- ADC r/m8,r8, `10 /r` (40_a_b.md R204). -/
def execAdcRm8R8 (rm : Rm) (r : Reg) (s : State) : Host.Outcome State Fault Refusal := aluRmReg s .b8 .adc rm r

/-- ADC r/m16,r16 | r/m32,r32, `11 /r` (40_a_b.md R204). -/
def execAdcRmR (os : Sz) (rm : Rm) (r : Reg) (s : State) : Host.Outcome State Fault Refusal :=
  aluRmReg s os.width .adc rm r

/-- ADC r8,r/m8, `12 /r` (40_a_b.md R204). -/
def execAdcR8Rm8 (r : Reg) (rm : Rm) (s : State) : Host.Outcome State Fault Refusal := aluRegRm s .b8 .adc r rm

/-- ADC r16,r/m16 | r32,r/m32, `13 /r` (40_a_b.md R204). -/
def execAdcRRm (os : Sz) (r : Reg) (rm : Rm) (s : State) : Host.Outcome State Fault Refusal :=
  aluRegRm s os.width .adc r rm

/-- ADC AL,imm8, `14 ib` (40_a_b.md R204). -/
def execAdcAlImm8 (b : Byte) (s : State) : Host.Outcome State Fault Refusal := aluAccImm s .b8 .adc b

/-- ADC AX,imm16 | EAX,imm32, `15 iw/id` (40_a_b.md R204). -/
def execAdcAccImm (v : Imm) (s : State) : Host.Outcome State Fault Refusal :=
  aluAccImm s (immSize v).width .adc (immAt _ v)

/-- ADC r/m8,imm8, `80 /2 ib` (40_a_b.md R204). -/
def execAdcRm8Imm8 (rm : Rm) (b : Byte) (s : State) : Host.Outcome State Fault Refusal := aluRmImm s .b8 .adc rm b

/-- ADC r/m16,imm16 | r/m32,imm32, `81 /2 iw/id` (40_a_b.md R204). -/
def execAdcRmImm (rm : Rm) (v : Imm) (s : State) : Host.Outcome State Fault Refusal :=
  aluRmImm s (immSize v).width .adc rm (immAt _ v)

/-- ADC r/m16,imm8 | r/m32,imm8, `83 /2 ib` (40_a_b.md R204). -/
def execAdcRmImm8 (os : Sz) (rm : Rm) (b : Byte) (s : State) : Host.Outcome State Fault Refusal :=
  aluRmImm s os.width .adc rm (sextByte _ b)

/-- SBB r/m8,r8, `18 /r` (48_s.md R445). -/
def execSbbRm8R8 (rm : Rm) (r : Reg) (s : State) : Host.Outcome State Fault Refusal := aluRmReg s .b8 .sbb rm r

/-- SBB r/m16,r16 | r/m32,r32, `19 /r` (48_s.md R445). -/
def execSbbRmR (os : Sz) (rm : Rm) (r : Reg) (s : State) : Host.Outcome State Fault Refusal :=
  aluRmReg s os.width .sbb rm r

/-- SBB r8,r/m8, `1A /r` (48_s.md R445). -/
def execSbbR8Rm8 (r : Reg) (rm : Rm) (s : State) : Host.Outcome State Fault Refusal := aluRegRm s .b8 .sbb r rm

/-- SBB r16,r/m16 | r32,r/m32, `1B /r` (48_s.md R445). -/
def execSbbRRm (os : Sz) (r : Reg) (rm : Rm) (s : State) : Host.Outcome State Fault Refusal :=
  aluRegRm s os.width .sbb r rm

/-- SBB AL,imm8, `1C ib` (48_s.md R445). -/
def execSbbAlImm8 (b : Byte) (s : State) : Host.Outcome State Fault Refusal := aluAccImm s .b8 .sbb b

/-- SBB AX,imm16 | EAX,imm32, `1D iw/id` (48_s.md R445). -/
def execSbbAccImm (v : Imm) (s : State) : Host.Outcome State Fault Refusal :=
  aluAccImm s (immSize v).width .sbb (immAt _ v)

/-- SBB r/m8,imm8, `80 /3 ib` (48_s.md R445). -/
def execSbbRm8Imm8 (rm : Rm) (b : Byte) (s : State) : Host.Outcome State Fault Refusal := aluRmImm s .b8 .sbb rm b

/-- SBB r/m16,imm16 | r/m32,imm32, `81 /3 iw/id` (48_s.md R445). -/
def execSbbRmImm (rm : Rm) (v : Imm) (s : State) : Host.Outcome State Fault Refusal :=
  aluRmImm s (immSize v).width .sbb rm (immAt _ v)

/-- SBB r/m16,imm8 | r/m32,imm8, `83 /3 ib` (48_s.md R445). -/
def execSbbRmImm8 (os : Sz) (rm : Rm) (b : Byte) (s : State) : Host.Outcome State Fault Refusal :=
  aluRmImm s os.width .sbb rm (sextByte _ b)

/-- AND r/m8,r8, `20 /r` (40_a_b.md R206). -/
def execAndRm8R8 (rm : Rm) (r : Reg) (s : State) : Host.Outcome State Fault Refusal := aluRmReg s .b8 .and rm r

/-- AND r/m16,r16 | r/m32,r32, `21 /r` (40_a_b.md R206). -/
def execAndRmR (os : Sz) (rm : Rm) (r : Reg) (s : State) : Host.Outcome State Fault Refusal :=
  aluRmReg s os.width .and rm r

/-- AND r8,r/m8, `22 /r` (40_a_b.md R206). -/
def execAndR8Rm8 (r : Reg) (rm : Rm) (s : State) : Host.Outcome State Fault Refusal := aluRegRm s .b8 .and r rm

/-- AND r16,r/m16 | r32,r/m32, `23 /r` (40_a_b.md R206). -/
def execAndRRm (os : Sz) (r : Reg) (rm : Rm) (s : State) : Host.Outcome State Fault Refusal :=
  aluRegRm s os.width .and r rm

/-- AND AL,imm8, `24 ib` (40_a_b.md R206). -/
def execAndAlImm8 (b : Byte) (s : State) : Host.Outcome State Fault Refusal := aluAccImm s .b8 .and b

/-- AND AX,imm16 | EAX,imm32, `25 iw/id` (40_a_b.md R206). -/
def execAndAccImm (v : Imm) (s : State) : Host.Outcome State Fault Refusal :=
  aluAccImm s (immSize v).width .and (immAt _ v)

/-- AND r/m8,imm8, `80 /4 ib` (40_a_b.md R206). -/
def execAndRm8Imm8 (rm : Rm) (b : Byte) (s : State) : Host.Outcome State Fault Refusal := aluRmImm s .b8 .and rm b

/-- AND r/m16,imm16 | r/m32,imm32, `81 /4 iw/id` (40_a_b.md R206). -/
def execAndRmImm (rm : Rm) (v : Imm) (s : State) : Host.Outcome State Fault Refusal :=
  aluRmImm s (immSize v).width .and rm (immAt _ v)

/-- AND r/m16,imm8 | r/m32,imm8, `83 /4 ib` (40_a_b.md R206). -/
def execAndRmImm8 (os : Sz) (rm : Rm) (b : Byte) (s : State) : Host.Outcome State Fault Refusal :=
  aluRmImm s os.width .and rm (sextByte _ b)

/-- SUB r/m8,r8, `28 /r` (48_s.md R469). -/
def execSubRm8R8 (rm : Rm) (r : Reg) (s : State) : Host.Outcome State Fault Refusal := aluRmReg s .b8 .sub rm r

/-- SUB r/m16,r16 | r/m32,r32, `29 /r` (48_s.md R469). -/
def execSubRmR (os : Sz) (rm : Rm) (r : Reg) (s : State) : Host.Outcome State Fault Refusal :=
  aluRmReg s os.width .sub rm r

/-- SUB r8,r/m8, `2A /r` (48_s.md R469). -/
def execSubR8Rm8 (r : Reg) (rm : Rm) (s : State) : Host.Outcome State Fault Refusal := aluRegRm s .b8 .sub r rm

/-- SUB r16,r/m16 | r32,r/m32, `2B /r` (48_s.md R469). -/
def execSubRRm (os : Sz) (r : Reg) (rm : Rm) (s : State) : Host.Outcome State Fault Refusal :=
  aluRegRm s os.width .sub r rm

/-- SUB AL,imm8, `2C ib` (48_s.md R469). -/
def execSubAlImm8 (b : Byte) (s : State) : Host.Outcome State Fault Refusal := aluAccImm s .b8 .sub b

/-- SUB AX,imm16 | EAX,imm32, `2D iw/id` (48_s.md R469). -/
def execSubAccImm (v : Imm) (s : State) : Host.Outcome State Fault Refusal :=
  aluAccImm s (immSize v).width .sub (immAt _ v)

/-- SUB r/m8,imm8, `80 /5 ib` (48_s.md R469). -/
def execSubRm8Imm8 (rm : Rm) (b : Byte) (s : State) : Host.Outcome State Fault Refusal := aluRmImm s .b8 .sub rm b

/-- SUB r/m16,imm16 | r/m32,imm32, `81 /5 iw/id` (48_s.md R469). -/
def execSubRmImm (rm : Rm) (v : Imm) (s : State) : Host.Outcome State Fault Refusal :=
  aluRmImm s (immSize v).width .sub rm (immAt _ v)

/-- SUB r/m16,imm8 | r/m32,imm8, `83 /5 ib` (48_s.md R469). -/
def execSubRmImm8 (os : Sz) (rm : Rm) (b : Byte) (s : State) : Host.Outcome State Fault Refusal :=
  aluRmImm s os.width .sub rm (sextByte _ b)

/-- XOR r/m8,r8, `30 /r` (49_t_v_w_x.md R487). -/
def execXorRm8R8 (rm : Rm) (r : Reg) (s : State) : Host.Outcome State Fault Refusal := aluRmReg s .b8 .xor rm r

/-- XOR r/m16,r16 | r/m32,r32, `31 /r` (49_t_v_w_x.md R487). -/
def execXorRmR (os : Sz) (rm : Rm) (r : Reg) (s : State) : Host.Outcome State Fault Refusal :=
  aluRmReg s os.width .xor rm r

/-- XOR r8,r/m8, `32 /r` (49_t_v_w_x.md R487). -/
def execXorR8Rm8 (r : Reg) (rm : Rm) (s : State) : Host.Outcome State Fault Refusal := aluRegRm s .b8 .xor r rm

/-- XOR r16,r/m16 | r32,r/m32, `33 /r` (49_t_v_w_x.md R487). -/
def execXorRRm (os : Sz) (r : Reg) (rm : Rm) (s : State) : Host.Outcome State Fault Refusal :=
  aluRegRm s os.width .xor r rm

/-- XOR AL,imm8, `34 ib` (49_t_v_w_x.md R487). -/
def execXorAlImm8 (b : Byte) (s : State) : Host.Outcome State Fault Refusal := aluAccImm s .b8 .xor b

/-- XOR AX,imm16 | EAX,imm32, `35 iw/id` (49_t_v_w_x.md R487). -/
def execXorAccImm (v : Imm) (s : State) : Host.Outcome State Fault Refusal :=
  aluAccImm s (immSize v).width .xor (immAt _ v)

/-- XOR r/m8,imm8, `80 /6 ib` (49_t_v_w_x.md R487). -/
def execXorRm8Imm8 (rm : Rm) (b : Byte) (s : State) : Host.Outcome State Fault Refusal := aluRmImm s .b8 .xor rm b

/-- XOR r/m16,imm16 | r/m32,imm32, `81 /6 iw/id` (49_t_v_w_x.md R487). -/
def execXorRmImm (rm : Rm) (v : Imm) (s : State) : Host.Outcome State Fault Refusal :=
  aluRmImm s (immSize v).width .xor rm (immAt _ v)

/-- XOR r/m16,imm8 | r/m32,imm8, `83 /6 ib` (49_t_v_w_x.md R487). -/
def execXorRmImm8 (os : Sz) (rm : Rm) (b : Byte) (s : State) : Host.Outcome State Fault Refusal :=
  aluRmImm s os.width .xor rm (sextByte _ b)

/-- CMP r/m8,r8, `38 /r` (41_c_d_e_h.md R240). -/
def execCmpRm8R8 (rm : Rm) (r : Reg) (s : State) : Host.Outcome State Fault Refusal := aluRmReg s .b8 .cmp rm r

/-- CMP r/m16,r16 | r/m32,r32, `39 /r` (41_c_d_e_h.md R240). -/
def execCmpRmR (os : Sz) (rm : Rm) (r : Reg) (s : State) : Host.Outcome State Fault Refusal :=
  aluRmReg s os.width .cmp rm r

/-- CMP r8,r/m8, `3A /r` (41_c_d_e_h.md R240). -/
def execCmpR8Rm8 (r : Reg) (rm : Rm) (s : State) : Host.Outcome State Fault Refusal := aluRegRm s .b8 .cmp r rm

/-- CMP r16,r/m16 | r32,r/m32, `3B /r` (41_c_d_e_h.md R240). -/
def execCmpRRm (os : Sz) (r : Reg) (rm : Rm) (s : State) : Host.Outcome State Fault Refusal :=
  aluRegRm s os.width .cmp r rm

/-- CMP AL,imm8, `3C ib` (41_c_d_e_h.md R240). -/
def execCmpAlImm8 (b : Byte) (s : State) : Host.Outcome State Fault Refusal := aluAccImm s .b8 .cmp b

/-- CMP AX,imm16 | EAX,imm32, `3D iw/id` (41_c_d_e_h.md R240). -/
def execCmpAccImm (v : Imm) (s : State) : Host.Outcome State Fault Refusal :=
  aluAccImm s (immSize v).width .cmp (immAt _ v)

/-- CMP r/m8,imm8, `80 /7 ib` (41_c_d_e_h.md R240). -/
def execCmpRm8Imm8 (rm : Rm) (b : Byte) (s : State) : Host.Outcome State Fault Refusal := aluRmImm s .b8 .cmp rm b

/-- CMP r/m16,imm16 | r/m32,imm32, `81 /7 iw/id` (41_c_d_e_h.md R240). -/
def execCmpRmImm (rm : Rm) (v : Imm) (s : State) : Host.Outcome State Fault Refusal :=
  aluRmImm s (immSize v).width .cmp rm (immAt _ v)

/-- CMP r/m16,imm8 | r/m32,imm8, `83 /7 ib` (41_c_d_e_h.md R240). -/
def execCmpRmImm8 (os : Sz) (rm : Rm) (b : Byte) (s : State) : Host.Outcome State Fault Refusal :=
  aluRmImm s os.width .cmp rm (sextByte _ b)

/-- AAA, `37` (40_a_b.md R200). -/
def execAaa (s : State) : Host.Outcome State Fault Refusal := perform s false (asciiAdjust 6#8 1#8)

/-- AAS, `3F` (40_a_b.md R203). -/
def execAas (s : State) : Host.Outcome State Fault Refusal := perform s false (asciiAdjust (-6#8) (-1#8))

/-- AAD, `D5` (40_a_b.md R201). -/
def execAad (s : State) : Host.Outcome State Fault Refusal := perform s false asciiBeforeDivide

/-- AAM, `D4` (40_a_b.md R202). -/
def execAam (s : State) : Host.Outcome State Fault Refusal := perform s false asciiAfterMultiply

/-- DAA, `27` (41_c_d_e_h.md R243). -/
def execDaa (s : State) : Host.Outcome State Fault Refusal := perform s false (decimalAdjust 6#8 0x60#8)

/-- DAS, `2F` (41_c_d_e_h.md R244). -/
def execDas (s : State) : Host.Outcome State Fault Refusal := perform s false (decimalAdjust (-6#8) (-0x60#8))

/-- INC r/m8, `FE /0` (42_i.md R273). -/
def execIncRm8 (rm : Rm) (s : State) : Host.Outcome State Fault Refusal := unaryRm s .b8 rm incr

/-- INC r/m16 | r/m32, `FF /0` (42_i.md R273). -/
def execIncRm (os : Sz) (rm : Rm) (s : State) : Host.Outcome State Fault Refusal := unaryRm s os.width rm incr

/-- INC r16 | r32, `40+r` (42_i.md R273). -/
def execIncR (os : Sz) (r : Reg) (s : State) : Host.Outcome State Fault Refusal :=
  perform s false (updateReg os.width r incr)

/-- DEC r/m8, `FE /1` (41_c_d_e_h.md R245). -/
def execDecRm8 (rm : Rm) (s : State) : Host.Outcome State Fault Refusal := unaryRm s .b8 rm decr

/-- DEC r/m16 | r/m32, `FF /1` (41_c_d_e_h.md R245). -/
def execDecRm (os : Sz) (rm : Rm) (s : State) : Host.Outcome State Fault Refusal := unaryRm s os.width rm decr

/-- DEC r16 | r32, `48+r` (41_c_d_e_h.md R245). -/
def execDecR (os : Sz) (r : Reg) (s : State) : Host.Outcome State Fault Refusal :=
  perform s false (updateReg os.width r decr)

/-- NEG r/m8, `F6 /3` (45_m_n_o.md R373). -/
def execNegRm8 (rm : Rm) (s : State) : Host.Outcome State Fault Refusal := unaryRm s .b8 rm negate

/-- NEG r/m16 | r/m32, `F7 /3` (45_m_n_o.md R373). -/
def execNegRm (os : Sz) (rm : Rm) (s : State) : Host.Outcome State Fault Refusal := unaryRm s os.width rm negate

/-- NOT r/m8, `F6 /2` (45_m_n_o.md R375). -/
def execNotRm8 (rm : Rm) (s : State) : Host.Outcome State Fault Refusal := unaryRm s .b8 rm complement

/-- NOT r/m16 | r/m32, `F7 /2` (45_m_n_o.md R375). -/
def execNotRm (os : Sz) (rm : Rm) (s : State) : Host.Outcome State Fault Refusal := unaryRm s os.width rm complement

/-- MUL AL,r/m8, `F6 /4` (45_m_n_o.md R372). -/
def execMulRm8 (rm : Rm) (s : State) : Host.Outcome State Fault Refusal := accRm s .b8 rm (mulUnsigned .b8)

/-- MUL AX,r/m16 | EAX,r/m32, `F7 /4` (45_m_n_o.md R372). -/
def execMulRm (os : Sz) (rm : Rm) (s : State) : Host.Outcome State Fault Refusal :=
  accRm s os.width rm (mulUnsigned os.width)

/-- IMUL r/m8, `F6 /5` (42_i.md R271). -/
def execImulRm8 (rm : Rm) (s : State) : Host.Outcome State Fault Refusal := accRm s .b8 rm (mulSigned .b8)

/-- IMUL r/m16 | r/m32, `F7 /5` (42_i.md R271). -/
def execImulRm (os : Sz) (rm : Rm) (s : State) : Host.Outcome State Fault Refusal :=
  accRm s os.width rm (mulSigned os.width)

/-- DIV AL,r/m8, `F6 /6` (41_c_d_e_h.md R246). -/
def execDivRm8 (rm : Rm) (s : State) : Host.Outcome State Fault Refusal := accRm s .b8 rm (divUnsigned .b8)

/-- DIV AX,r/m16 | EAX,r/m32, `F7 /6` (41_c_d_e_h.md R246). -/
def execDivRm (os : Sz) (rm : Rm) (s : State) : Host.Outcome State Fault Refusal :=
  accRm s os.width rm (divUnsigned os.width)

/-- IDIV r/m8, `F6 /7` (42_i.md R270). -/
def execIdivRm8 (rm : Rm) (s : State) : Host.Outcome State Fault Refusal := accRm s .b8 rm (divSigned .b8)

/-- IDIV r/m16 | r/m32, `F7 /7` (42_i.md R270). -/
def execIdivRm (os : Sz) (rm : Rm) (s : State) : Host.Outcome State Fault Refusal :=
  accRm s os.width rm (divSigned os.width)

/-- IMUL r16,r/m16 | r32,r/m32, `0F AF /r` (42_i.md R271). -/
def execImulRRm (os : Sz) (r : Reg) (rm : Rm) (s : State) : Host.Outcome State Fault Refusal := perform s false do
  let a ← readReg os.width r
  let b ← readRm os.width rm
  mulSignedTo os.width r a b

/-- IMUL r16,r/m16,imm8 | r32,r/m32,imm8, `6B /r ib` (42_i.md R271). -/
def execImulRRmImm8 (os : Sz) (r : Reg) (rm : Rm) (b : Byte) (s : State) : Host.Outcome State Fault Refusal :=
  imulTo s os.width r rm (sextByte _ b)

/-- IMUL r16,r/m16,imm16 | r32,r/m32,imm32, `69 /r iw/id` (42_i.md R271). -/
def execImulRRmImm (r : Reg) (rm : Rm) (v : Imm) (s : State) : Host.Outcome State Fault Refusal :=
  imulTo s (immSize v).width r rm (immAt _ v)

/-- TEST AL,imm8, `A8 ib` (49_t_v_w_x.md R480). -/
def execTestAlImm8 (b : Byte) (s : State) : Host.Outcome State Fault Refusal := perform s false do
  let a ← readReg .b8 .ax
  testBits a b

/-- TEST AX,imm16 | EAX,imm32, `A9 iw/id` (49_t_v_w_x.md R480). -/
def execTestAccImm (v : Imm) (s : State) : Host.Outcome State Fault Refusal := perform s false do
  let a ← readReg (immSize v).width .ax
  testBits a (immAt _ v)

/-- TEST r/m8,imm8, `F6 /0 ib` (49_t_v_w_x.md R480). -/
def execTestRm8Imm8 (rm : Rm) (b : Byte) (s : State) : Host.Outcome State Fault Refusal :=
  accRm s .b8 rm (testBits · b)

/-- TEST r/m16,imm16 | r/m32,imm32, `F7 /0 iw/id` (49_t_v_w_x.md R480). -/
def execTestRmImm (rm : Rm) (v : Imm) (s : State) : Host.Outcome State Fault Refusal :=
  accRm s (immSize v).width rm (testBits · (immAt _ v))

/-- TEST r/m8,r8, `84 /r` (49_t_v_w_x.md R480). -/
def execTestRm8R8 (rm : Rm) (r : Reg) (s : State) : Host.Outcome State Fault Refusal := perform s false do
  let a ← readRm .b8 rm
  let b ← readReg .b8 r
  testBits a b

/-- TEST r/m16,r16 | r/m32,r32, `85 /r` (49_t_v_w_x.md R480). -/
def execTestRmR (os : Sz) (rm : Rm) (r : Reg) (s : State) : Host.Outcome State Fault Refusal := perform s false do
  let a ← readRm os.width rm
  let b ← readReg os.width r
  testBits a b

end Sys2Proof.Machine
end

