-- ==== Sys2Proof/Machine/Bits.lean ====
section
/-! DEFINITION. Bit test and bit scan (40_a_b.md R209 to R214). -/

namespace Sys2Proof.Machine

/-! ## BT, BTC, BTR, BTS -/

/-- What the four bit instructions do with the selected bit (40_a_b.md R211 to R214). -/
inductive BitOp where
  | test | complement | reset | set
  deriving DecidableEq, Repr

/-- The operand with the selected bit changed (40_a_b.md R212 to R214). -/
def bitResult {n : Nat} (op : BitOp) (a : BitVec n) (i : Nat) : BitVec n :=
  match op with
  | .test => a
  | .complement => a ^^^ (1#n <<< i)
  | .reset => a &&& ~~~(1#n <<< i)
  | .set => a ||| (1#n <<< i)

/-- Bit `i` of an opened operand: CF takes its old value, the other five status flags are undefined (40_a_b.md R211; ZF too
by 92_eei_decisions.md D24, log entry 44). -/
def bitOn (w : Width) (op : BitOp) (p : Place) (i : Nat) : M Unit := do
  let a ← readPlace w p
  modifyFlags fun f => { f with cf := a.getLsbD i }
  undefStatus { ov := true, sf := true, zf := true, af := true, pf := true }
  if op ≠ .test then writePlace w p (bitResult op a i)

/-- What a register bit offset adds to the effective address: (N/8) * floor(o / N), `o` signed (40_a_b.md R211). -/
def bitAddress (w : Width) (o : BitVec w.bits) : Dword := BitVec.ofInt 32 (o.toInt / w.bits * w.bytes)

/-- Open the operand that holds the bit a register offset selects: with a memory base, it lies `bitAddress` from the
effective address, modulo 2^AS (40_a_b.md R211). -/
def openBit (w : Width) (rm : Rm) (o : BitVec w.bits) (wr : Bool) : M Place :=
  match rm with
  | .reg r => pure (.reg r)
  | .mem m => do
    let (seg, off) ← resolve m
    return .mem (← openMem seg (truncSz (addressSize m) (off + bitAddress w o)) w.bytes wr)

/-- The forms with a register bit offset: bit `o mod N`. -/
def bitRmReg (s : State) (w : Width) (op : BitOp) (rm : Rm) (r : Reg) : Host.Outcome State Fault Refusal :=
  perform s (isMem rm) do
    let o ← readReg w r
    let p ← openBit w rm o (op ≠ .test)
    bitOn w op p (o.toNat % w.bits)

/-- The forms with an immediate bit offset, modulo N. -/
def bitRmImm (s : State) (w : Width) (op : BitOp) (rm : Rm) (b : Byte) : Host.Outcome State Fault Refusal :=
  perform s (isMem rm) do
    let p ← openRm w rm (op ≠ .test)
    bitOn w op p (b.toNat % w.bits)

/-! ## BSF and BSR -/

/-- The least i below `k` with bit i of `a` set, or `k` (40_a_b.md R209). -/
def lowestBit {n : Nat} (a : BitVec n) : Nat → Nat
  | 0 => 0
  | k + 1 => let i := lowestBit a k; if i < k then i else if a.getLsbD k then k else k + 1

/-- The greatest i below `k` with bit i of `a` set, or 0 (40_a_b.md R210). -/
def highestBit {n : Nat} (a : BitVec n) : Nat → Nat
  | 0 => 0
  | k + 1 => if a.getLsbD k then k else highestBit a k

/-- BSF and BSR: the index `scan` finds; a zero operand sets ZF and leaves the destination unspecified
(40_a_b.md R209, R210). -/
def bitScan (s : State) (w : Width) (r : Reg) (rm : Rm) (scan : BitVec w.bits → Nat) : Host.Outcome State Fault Refusal :=
  perform s false do
    let a ← readRm w rm
    if a = 0#w.bits then
      let u ← draw w.bits
      writeReg w r u
    else writeReg w r (BitVec.ofNat _ (scan a))
    modifyFlags fun f => { f with zf := a == 0#w.bits }
    undefStatus { ov := true, sf := true, af := true, pf := true, cf := true }

/-! ## The rows -/

/-- BSF r16,r/m16 | r32,r/m32, `0F BC /r` (40_a_b.md R209). -/
def execBsfRRm (os : Sz) (r : Reg) (rm : Rm) (s : State) : Host.Outcome State Fault Refusal :=
  bitScan s os.width r rm (lowestBit · os.bits)

/-- BSR r16,r/m16 | r32,r/m32, `0F BD /r` (40_a_b.md R210). -/
def execBsrRRm (os : Sz) (r : Reg) (rm : Rm) (s : State) : Host.Outcome State Fault Refusal :=
  bitScan s os.width r rm (highestBit · os.bits)

/-- BT r/m16,r16 | r/m32,r32, `0F A3 /r` (40_a_b.md R211). -/
def execBtRmR (os : Sz) (rm : Rm) (r : Reg) (s : State) : Host.Outcome State Fault Refusal :=
  bitRmReg s os.width .test rm r

/-- BT r/m16,imm8 | r/m32,imm8, `0F BA /4 ib` (40_a_b.md R211). -/
def execBtRmImm8 (os : Sz) (rm : Rm) (b : Byte) (s : State) : Host.Outcome State Fault Refusal :=
  bitRmImm s os.width .test rm b

/-- BTC r/m16,r16 | r/m32,r32, `0F BB /r` (40_a_b.md R212). -/
def execBtcRmR (os : Sz) (rm : Rm) (r : Reg) (s : State) : Host.Outcome State Fault Refusal :=
  bitRmReg s os.width .complement rm r

/-- BTC r/m16,imm8 | r/m32,imm8, `0F BA /7 ib` (40_a_b.md R212). -/
def execBtcRmImm8 (os : Sz) (rm : Rm) (b : Byte) (s : State) : Host.Outcome State Fault Refusal :=
  bitRmImm s os.width .complement rm b

/-- BTR r/m16,r16 | r/m32,r32, `0F B3 /r` (40_a_b.md R213). -/
def execBtrRmR (os : Sz) (rm : Rm) (r : Reg) (s : State) : Host.Outcome State Fault Refusal :=
  bitRmReg s os.width .reset rm r

/-- BTR r/m16,imm8 | r/m32,imm8, `0F BA /6 ib` (40_a_b.md R213). -/
def execBtrRmImm8 (os : Sz) (rm : Rm) (b : Byte) (s : State) : Host.Outcome State Fault Refusal :=
  bitRmImm s os.width .reset rm b

/-- BTS r/m16,r16 | r/m32,r32, `0F AB /r` (40_a_b.md R214). -/
def execBtsRmR (os : Sz) (rm : Rm) (r : Reg) (s : State) : Host.Outcome State Fault Refusal :=
  bitRmReg s os.width .set rm r

/-- BTS r/m16,imm8 | r/m32,imm8, `0F BA /5 ib` (40_a_b.md R214). -/
def execBtsRmImm8 (os : Sz) (rm : Rm) (b : Byte) (s : State) : Host.Outcome State Fault Refusal :=
  bitRmImm s os.width .set rm b

end Sys2Proof.Machine
end

