-- ==== Sys2Proof/Machine/Control.lean ====
section
/-! DEFINITION. Control transfer: CALL, JMP, Jcc, JCXZ, LOOP, RET, INT, IRET (41_c_d_e_h.md, 42_i.md, 43_j.md, 44_l.md, 47_r.md). -/

namespace Sys2Proof.Machine

/-! ## Near transfers -/

/-- Transfer to an offset in the current code segment: cut to 16 bits when OS = 16, checked against the CS limit
(43_j.md R300, R303). -/
def jumpNear (os : Sz) (t : Dword) : M Unit := do
  let s ← get
  checkCodeLimit s.cs (truncSz os t)
  jumpTo (truncSz os t)

/-- A relative transfer from the next instruction (30_encoding.md R145). -/
def jumpRelative (os : Sz) (rel : Dword) : M Unit := do
  let s ← get
  jumpNear os (s.next + rel)

/-- A near call: the limit check, the push of the return offset, the transfer (41_c_d_e_h.md R230). -/
def callNear (os : Sz) (t : Dword) : M Unit := do
  let s ← get
  checkCodeLimit s.cs (truncSz os t)
  push os s.next
  jumpTo (truncSz os t)

/-- Jcc (43_j.md R300). -/
def jumpIf (s : State) (c : Cond) (os : Sz) (rel : Dword) : Host.Outcome State Fault Refusal :=
  perform s false do
    let f ← getFlags
    if condHolds c f then jumpRelative os rel

/-- LOOP and its variants: `extra` is the condition beside count ≠ 0 (44_l.md R342 to R344). -/
def loopIf (s : State) (os as : Sz) (b : Byte) (extra : Flags → Bool) : Host.Outcome State Fault Refusal :=
  perform s false do
    let c ← readRegSz as .cx
    let n := truncSz as (c - 1#32)
    writeRegSz as .cx n
    let f ← getFlags
    if n ≠ 0#32 ∧ extra f = true then jumpRelative os (b.signExtend 32)

/-- RET near: pop the offset, check it, release `n` bytes of parameters (47_r.md R425). -/
def returnNear (s : State) (os : Sz) (n : Word) : Host.Outcome State Fault Refusal :=
  perform s false do
    let t ← pop os
    jumpNear os t
    addStackPtr n.toNat

/-! ## Far CALL and JMP (41_c_d_e_h.md R231 to R233, 43_j.md R304 to R306) -/

/-- Push the far return address: CS and the next offset. -/
def pushReturn (sz : Sz) : M Unit := do
  let s ← get
  let cs ← padSel sz s.cs.sel
  pushAll sz [cs, s.next]

/-- A far CALL or JMP in Real Address Mode and V86 mode (41_c_d_e_h.md R231, 43_j.md R304). -/
def farReal (call : Bool) (os : Sz) (off : Dword) (sel : Word) : M Unit := do
  require (decide (off.toNat ≤ 0xFFFF)) (excGP 0#16)
  if call then pushReturn os
  loadRealSeg .cs sel
  jumpTo off

/-- Enter a code segment at the current privilege level: "CS <- sel with RPL bits replaced by CPL". -/
def enterCode (sel : Word) (d : Desc) (off : Dword) : M Unit := do
  let s ← get
  loadSeg .cs (withRpl sel s.cpl) d
  jumpTo off

/-- The end of a transfer at the same privilege level: the present test, room for the return address of a CALL, the limit
test, the push, the load of CS (41_c_d_e_h.md R232, 43_j.md R305). -/
def transferSame (call : Bool) (sz : Sz) (off : Dword) (sel : Word) (d : Desc) : M Unit := do
  let s ← get
  require d.p (excNP (selCode sel))
  if call then checkRoom s.ss s.ssSize s.sp sz.bytes 2
  checkCodeLimit (d.toSeg sel) off
  if call then pushReturn sz
  enterCode sel d off

/-- A transfer straight to a code segment (41_c_d_e_h.md R232, 43_j.md R305). -/
def farCode (call : Bool) (os : Sz) (off : Dword) (sel : Word) (d : Desc) : M Unit := do
  let s ← get
  if d.conforming then require (decide (d.dpl ≤ s.cpl)) (excGP (selCode sel))
  else
    require (decide (selRpl sel ≤ s.cpl)) (excGP (selCode sel))
    require (decide (d.dpl = s.cpl)) (excGP (selCode sel))
  transferSame call os off sel d

/-- The parameters a call through a gate copies: `n` elements of the old stack from element `i` on, read lowest first
(41_c_d_e_h.md R232). -/
def readParams (sz : Sz) : Nat → Nat → M (List Dword)
  | 0, _ => pure []
  | n + 1, i => do
    let v ← stackRead sz (sz.bytes * i)
    let vs ← readParams sz n (i + 1)
    return v :: vs

/-- MORE-PRIVILEGE: a call through a gate to an inner level (41_c_d_e_h.md R232). -/
def callInner (g : Desc) (cs : Word) (c : Desc) : M Unit := do
  let s ← get
  let sz := g.gateSize
  require c.p (excNP (selCode cs))
  let (nss, d, nsp) ← innerStack c.dpl (excTS 0#16)
  checkRoom (d.toSeg nss) d.stackSize nsp sz.bytes (g.gateCount + 4)
  checkCodeLimit (c.toSeg cs) g.gateOff
  let params ← readParams sz g.gateCount 0
  let oldSs ← padSel sz s.ss.sel
  let oldCs ← padSel sz s.cs.sel
  enterStack nss d nsp c.dpl
  pushAll sz ([oldSs, s.regs.esp] ++ params.reverse ++ [oldCs, s.next])
  enterCode cs c g.gateOff

/-- A transfer through a call gate (41_c_d_e_h.md R232, 43_j.md R305). -/
def farGate (call : Bool) (sel : Word) (g : Desc) : M Unit := do
  let s ← get
  require (decide (s.cpl ≤ g.dpl)) (excGP (selCode sel))
  require (decide (selRpl sel ≤ g.dpl)) (excGP (selCode sel))
  require g.p (excNP (selCode sel))
  let cs := g.gateSel
  require (!selNull cs) (excGP 0#16)
  let c ← fetchDesc cs (excGP (selCode cs))
  require c.isCode (excGP (selCode cs))
  if call then
    require (decide (c.dpl ≤ s.cpl)) (excGP (selCode cs))
    if !c.conforming ∧ c.dpl < s.cpl then callInner g cs c
    else transferSame true g.gateSize g.gateOff cs c
  else
    require (if c.conforming then decide (c.dpl ≤ s.cpl) else decide (c.dpl = s.cpl)) (excGP (selCode cs))
    transferSame false g.gateSize g.gateOff cs c

/-- A transfer to a task, by a task gate or a TSS descriptor: CALL reports its failures as #TS, JMP as #GP
(41_c_d_e_h.md R233, 43_j.md R306). -/
def farTask (call : Bool) (sel : Word) (d : Desc) : M Unit := do
  let s ← get
  let bad : Word → Exc := if call then excTS else excGP
  let kind : SwitchKind := if call then .call else .jmp
  require (d.isSys 5#4 || !selTI sel) (bad (selCode sel))
  require (decide (s.cpl ≤ d.dpl)) (bad (selCode sel))
  require (decide (selRpl sel ≤ d.dpl)) (bad (selCode sel))
  if d.isSys 5#4 then
    require d.p (excNP (selCode sel))
    let td ← fetchTss d.gateSel bad
    switchTasks kind d.gateSel td s.next
  else
    require d.availTss (bad (selCode sel))
    require d.p (excNP (selCode sel))
    switchTasks kind sel d s.next
  committed do
    let s ← get
    require (s.cs.holds s.eip.toNat 1) (bad 0#16)

/-- A far CALL or JMP in protected mode; answers whether it switched tasks (41_c_d_e_h.md R232, 43_j.md R305). -/
def farProt (call : Bool) (os : Sz) (off : Dword) (sel : Word) : M Bool := do
  require (!selNull sel) (excGP 0#16)
  let d ← fetchDesc sel (excGP (selCode sel))
  if d.isCode then
    farCode call os off sel d
    return false
  else if d.isSys 4#4 || d.isSys 12#4 then
    farGate call sel d
    return false
  else if d.isSys 5#4 || d.availTss || d.busyTss then
    farTask call sel d
    return true
  else raise (excGP (selCode sel))

/-- A far CALL or JMP to a pointer (41_c_d_e_h.md R231, R232). -/
def farTransfer (call : Bool) (os : Sz) (off : Dword) (sel : Word) : M Bool := do
  let s ← get
  if s.mode = .prot then farProt call os off sel
  else
    farReal call os off sel
    return false

/-! ## Far RET (47_r.md R426 to R428) -/

/-- RET far in Real Address Mode and V86 mode (47_r.md R426). -/
def retReal (os : Sz) (n : Word) : M Unit := do
  let t ← stackRead os 0
  let sel ← stackRead os os.bytes
  require (decide (t.toNat ≤ 0xFFFF)) (excGP 0#16)
  addStackPtr (2 * os.bytes + n.toNat)
  loadRealSeg .cs (sel.setWidth 16)
  jumpTo t

/-- The test of a data segment register after a return to an outer level (the pseudocode of 47_r.md R428); a null one stays as it
is. The prose of R428 also asks that the DPL reach the selector's RPL, which the pseudocode does not; DEDUCED, log entry 60. -/
def retInvalid (s : State) (g : SegReg) : Bool :=
  !selNull g.sel &&
    (!s.selInTable g.sel || !g.readable || (!g.conforming && decide (g.dpl < s.cpl)))

/-- "r.sel <- 0 ; r.attr <- 0 ; r.valid <- 0" (47_r.md R428). -/
def clearedSeg (g : SegReg) : SegReg :=
  { g with sel := 0#16, typ := 0#4, s := false, dpl := 0#2, p := false, db := false, g := false, valid := false }

/-- Clear a data segment register the outer level may not use (47_r.md R428). -/
def clearInvalid (r : Sreg) : M Unit :=
  modify fun s => if retInvalid s (s.seg r) then s.setSeg r (clearedSeg (s.seg r)) else s

/-- SAME-LEVEL (47_r.md R427). -/
def retSame (os : Sz) (n : Word) (rcs : Word) : M Unit := do
  let s ← get
  let c ← returnCs rcs s.cpl
  checkStackTop 0 os.bytes
  let ip ← stackRead os 0
  checkCodeLimit (c.toSeg rcs) ip
  loadSeg .cs rcs c
  addStackPtr (2 * os.bytes + n.toNat)
  jumpTo ip

/-- OUTER-PRIVILEGE-LEVEL; the parameters are not released from the outer stack (47_r.md R428, log entry 12). -/
def retOuter (os : Sz) (n : Word) (rcs : Word) : M Unit := do
  checkStackTop 0 (4 * os.bytes + n.toNat)
  let c ← returnCs rcs (selRpl rcs)
  let rss := (← stackRead os (3 * os.bytes + n.toNat)).setWidth 16
  let d ← returnSs rss (selRpl rcs)
  let ip ← stackRead os 0
  checkCodeLimit (c.toSeg rcs) ip
  let sp ← stackRead os (2 * os.bytes + n.toNat)
  modify fun t => { t with cpl := selRpl rcs }
  loadSeg .cs rcs c
  loadSeg .ss rss d
  returnSp os sp
  clearInvalid .es
  clearInvalid .fs
  clearInvalid .gs
  clearInvalid .ds
  jumpTo ip

/-- RET far in protected mode (47_r.md R427). -/
def retProt (os : Sz) (n : Word) : M Unit := do
  let s ← get
  checkStackTop os.bytes 2
  let b ← memBytes .ss (truncSz s.ssSize (s.sp + BitVec.ofNat 32 os.bytes)) 2
  let rcs : Word := leValue 16 b
  require (decide (s.cpl ≤ selRpl rcs)) (excGP (selCode rcs))
  if selRpl rcs = s.cpl then retSame os n rcs else retOuter os n rcs

/-- RET far. -/
def returnFar (s : State) (os : Sz) (n : Word) : Host.Outcome State Fault Refusal :=
  perform s false do
    let s ← get
    if s.mode = .prot then retProt os n else retReal os n

/-! ## INT -/

/-- INT n, INT 3 and INTO deliver their vector with the return address of the next instruction (42_i.md R286). -/
def softwareInterrupt (vector : Byte) : M Bool := do
  let s ← get
  deliver { vector := vector, code := none, ret := s.next, software := true, ext := false, rf := .zero }

/-! ## The rows -/

/-- CALL rel16 | rel32, `E8 cw/cd` (41_c_d_e_h.md R230). -/
def execCallRel (v : Imm) (s : State) : Host.Outcome State Fault Refusal := perform s false do
  let s ← get
  callNear (immSize v) (s.next + immSigned v)

/-- CALL r/m16 | r/m32, `FF /2` (41_c_d_e_h.md R230). -/
def execCallRm (os : Sz) (rm : Rm) (s : State) : Host.Outcome State Fault Refusal := perform s false do
  let t ← readRm os.width rm
  callNear os (t.setWidth 32)

/-- CALL ptr16:16 | ptr16:32, `9A cd/cp` (41_c_d_e_h.md R231). -/
def execCallFarPtr (p : FarPtr) (s : State) : Host.Outcome State Fault Refusal :=
  performTransfer s (farTransfer true (farSize p) (farParts p).1 (farParts p).2)

/-- CALL m16:16 | m16:32, `FF /3` (41_c_d_e_h.md R231). -/
def execCallFarMem (os : Sz) (rm : Rm) (s : State) : Host.Outcome State Fault Refusal := performTransfer s do
  let (off, sel) ← readFar os rm
  farTransfer true os off sel

/-- JMP rel8, `EB cb` (43_j.md R303). -/
def execJmpRel8 (os : Sz) (b : Byte) (s : State) : Host.Outcome State Fault Refusal :=
  perform s false (jumpRelative os (b.signExtend 32))

/-- JMP rel16 | rel32, `E9 cw/cd` (43_j.md R303). -/
def execJmpRel (v : Imm) (s : State) : Host.Outcome State Fault Refusal :=
  perform s false (jumpRelative (immSize v) (immSigned v))

/-- JMP r/m16 | r/m32, `FF /4` (43_j.md R303). -/
def execJmpRm (os : Sz) (rm : Rm) (s : State) : Host.Outcome State Fault Refusal := perform s false do
  let t ← readRm os.width rm
  jumpNear os (t.setWidth 32)

/-- JMP ptr16:16 | ptr16:32, `EA cd/cp` (43_j.md R304). -/
def execJmpFarPtr (p : FarPtr) (s : State) : Host.Outcome State Fault Refusal :=
  performTransfer s (farTransfer false (farSize p) (farParts p).1 (farParts p).2)

/-- JMP m16:16 | m16:32, `FF /5` (43_j.md R304). -/
def execJmpFarMem (os : Sz) (rm : Rm) (s : State) : Host.Outcome State Fault Refusal := performTransfer s do
  let (off, sel) ← readFar os rm
  farTransfer false os off sel

/-- JO rel8, `70 cb` (43_j.md R300). -/
def execJoRel8 (os : Sz) (b : Byte) (s : State) : Host.Outcome State Fault Refusal := jumpIf s .o os (b.signExtend 32)

/-- JNO rel8, `71 cb` (43_j.md R300). -/
def execJnoRel8 (os : Sz) (b : Byte) (s : State) : Host.Outcome State Fault Refusal :=
  jumpIf s .no os (b.signExtend 32)

/-- JB_JC_JNAE rel8, `72 cb` (43_j.md R300). -/
def execJbRel8 (os : Sz) (b : Byte) (s : State) : Host.Outcome State Fault Refusal := jumpIf s .b os (b.signExtend 32)

/-- JAE_JNB_JNC rel8, `73 cb` (43_j.md R300). -/
def execJaeRel8 (os : Sz) (b : Byte) (s : State) : Host.Outcome State Fault Refusal :=
  jumpIf s .ae os (b.signExtend 32)

/-- JE_JZ rel8, `74 cb` (43_j.md R300). -/
def execJeRel8 (os : Sz) (b : Byte) (s : State) : Host.Outcome State Fault Refusal := jumpIf s .e os (b.signExtend 32)

/-- JNE_JNZ rel8, `75 cb` (43_j.md R300). -/
def execJneRel8 (os : Sz) (b : Byte) (s : State) : Host.Outcome State Fault Refusal :=
  jumpIf s .ne os (b.signExtend 32)

/-- JBE_JNA rel8, `76 cb` (43_j.md R300). -/
def execJbeRel8 (os : Sz) (b : Byte) (s : State) : Host.Outcome State Fault Refusal :=
  jumpIf s .be os (b.signExtend 32)

/-- JA_JNBE rel8, `77 cb` (43_j.md R300). -/
def execJaRel8 (os : Sz) (b : Byte) (s : State) : Host.Outcome State Fault Refusal := jumpIf s .a os (b.signExtend 32)

/-- JS rel8, `78 cb` (43_j.md R300). -/
def execJsRel8 (os : Sz) (b : Byte) (s : State) : Host.Outcome State Fault Refusal := jumpIf s .s os (b.signExtend 32)

/-- JNS rel8, `79 cb` (43_j.md R300). -/
def execJnsRel8 (os : Sz) (b : Byte) (s : State) : Host.Outcome State Fault Refusal :=
  jumpIf s .ns os (b.signExtend 32)

/-- JP_JPE rel8, `7A cb` (43_j.md R300). -/
def execJpRel8 (os : Sz) (b : Byte) (s : State) : Host.Outcome State Fault Refusal := jumpIf s .p os (b.signExtend 32)

/-- JNP_JPO rel8, `7B cb` (43_j.md R300). -/
def execJnpRel8 (os : Sz) (b : Byte) (s : State) : Host.Outcome State Fault Refusal :=
  jumpIf s .np os (b.signExtend 32)

/-- JL_JNGE rel8, `7C cb` (43_j.md R300). -/
def execJlRel8 (os : Sz) (b : Byte) (s : State) : Host.Outcome State Fault Refusal := jumpIf s .l os (b.signExtend 32)

/-- JGE_JNL rel8, `7D cb` (43_j.md R300). -/
def execJgeRel8 (os : Sz) (b : Byte) (s : State) : Host.Outcome State Fault Refusal :=
  jumpIf s .ge os (b.signExtend 32)

/-- JLE_JNG rel8, `7E cb` (43_j.md R300). -/
def execJleRel8 (os : Sz) (b : Byte) (s : State) : Host.Outcome State Fault Refusal :=
  jumpIf s .le os (b.signExtend 32)

/-- JG_JNLE rel8, `7F cb` (43_j.md R300). -/
def execJgRel8 (os : Sz) (b : Byte) (s : State) : Host.Outcome State Fault Refusal := jumpIf s .g os (b.signExtend 32)

/-- JO rel16 | rel32, `0F 80 cw/cd` (43_j.md R301). -/
def execJoRel (v : Imm) (s : State) : Host.Outcome State Fault Refusal := jumpIf s .o (immSize v) (immSigned v)

/-- JNO rel16 | rel32, `0F 81 cw/cd` (43_j.md R301). -/
def execJnoRel (v : Imm) (s : State) : Host.Outcome State Fault Refusal := jumpIf s .no (immSize v) (immSigned v)

/-- JB_JC_JNAE rel16 | rel32, `0F 82 cw/cd` (43_j.md R301). -/
def execJbRel (v : Imm) (s : State) : Host.Outcome State Fault Refusal := jumpIf s .b (immSize v) (immSigned v)

/-- JAE_JNB_JNC rel16 | rel32, `0F 83 cw/cd` (43_j.md R301). -/
def execJaeRel (v : Imm) (s : State) : Host.Outcome State Fault Refusal := jumpIf s .ae (immSize v) (immSigned v)

/-- JE_JZ rel16 | rel32, `0F 84 cw/cd` (43_j.md R301). -/
def execJeRel (v : Imm) (s : State) : Host.Outcome State Fault Refusal := jumpIf s .e (immSize v) (immSigned v)

/-- JNE_JNZ rel16 | rel32, `0F 85 cw/cd` (43_j.md R301). -/
def execJneRel (v : Imm) (s : State) : Host.Outcome State Fault Refusal := jumpIf s .ne (immSize v) (immSigned v)

/-- JBE_JNA rel16 | rel32, `0F 86 cw/cd` (43_j.md R301). -/
def execJbeRel (v : Imm) (s : State) : Host.Outcome State Fault Refusal := jumpIf s .be (immSize v) (immSigned v)

/-- JA_JNBE rel16 | rel32, `0F 87 cw/cd` (43_j.md R301). -/
def execJaRel (v : Imm) (s : State) : Host.Outcome State Fault Refusal := jumpIf s .a (immSize v) (immSigned v)

/-- JS rel16 | rel32, `0F 88 cw/cd` (43_j.md R301). -/
def execJsRel (v : Imm) (s : State) : Host.Outcome State Fault Refusal := jumpIf s .s (immSize v) (immSigned v)

/-- JNS rel16 | rel32, `0F 89 cw/cd` (43_j.md R301). -/
def execJnsRel (v : Imm) (s : State) : Host.Outcome State Fault Refusal := jumpIf s .ns (immSize v) (immSigned v)

/-- JP_JPE rel16 | rel32, `0F 8A cw/cd` (43_j.md R301). -/
def execJpRel (v : Imm) (s : State) : Host.Outcome State Fault Refusal := jumpIf s .p (immSize v) (immSigned v)

/-- JNP_JPO rel16 | rel32, `0F 8B cw/cd` (43_j.md R301). -/
def execJnpRel (v : Imm) (s : State) : Host.Outcome State Fault Refusal := jumpIf s .np (immSize v) (immSigned v)

/-- JL_JNGE rel16 | rel32, `0F 8C cw/cd` (43_j.md R301). -/
def execJlRel (v : Imm) (s : State) : Host.Outcome State Fault Refusal := jumpIf s .l (immSize v) (immSigned v)

/-- JGE_JNL rel16 | rel32, `0F 8D cw/cd` (43_j.md R301). -/
def execJgeRel (v : Imm) (s : State) : Host.Outcome State Fault Refusal := jumpIf s .ge (immSize v) (immSigned v)

/-- JLE_JNG rel16 | rel32, `0F 8E cw/cd` (43_j.md R301). -/
def execJleRel (v : Imm) (s : State) : Host.Outcome State Fault Refusal := jumpIf s .le (immSize v) (immSigned v)

/-- JG_JNLE rel16 | rel32, `0F 8F cw/cd` (43_j.md R301). -/
def execJgRel (v : Imm) (s : State) : Host.Outcome State Fault Refusal := jumpIf s .g (immSize v) (immSigned v)

/-- JCXZ_JECXZ rel8, `E3 cb` (43_j.md R302). -/
def execJcxz (os : Sz) (as : Sz) (b : Byte) (s : State) : Host.Outcome State Fault Refusal := perform s false do
  let c ← readRegSz as .cx
  if c = 0#32 then jumpRelative os (b.signExtend 32)

/-- LOOP rel8, `E2 cb` (44_l.md R342). -/
def execLoop (os : Sz) (as : Sz) (b : Byte) (s : State) : Host.Outcome State Fault Refusal :=
  loopIf s os as b fun _ => true

/-- LOOPE_LOOPZ rel8, `E1 cb` (44_l.md R343). -/
def execLoope (os : Sz) (as : Sz) (b : Byte) (s : State) : Host.Outcome State Fault Refusal :=
  loopIf s os as b fun f => f.zf

/-- LOOPNE_LOOPNZ rel8, `E0 cb` (44_l.md R344). -/
def execLoopne (os : Sz) (as : Sz) (b : Byte) (s : State) : Host.Outcome State Fault Refusal :=
  loopIf s os as b fun f => !f.zf

/-- RET (near), `C3` (47_r.md R425). -/
def execRetNear (os : Sz) (s : State) : Host.Outcome State Fault Refusal := returnNear s os 0#16

/-- RET imm16, `C2 iw` (47_r.md R425). -/
def execRetNearImm (os : Sz) (w : Word) (s : State) : Host.Outcome State Fault Refusal := returnNear s os w

/-- RET (far), `CB` (47_r.md R426). -/
def execRetFar (os : Sz) (s : State) : Host.Outcome State Fault Refusal := returnFar s os 0#16

/-- RET imm16, `CA iw` (47_r.md R426). -/
def execRetFarImm (os : Sz) (w : Word) (s : State) : Host.Outcome State Fault Refusal := returnFar s os w

/-- INT_3, `CC` (42_i.md R286). -/
def execInt3 (s : State) : Host.Outcome State Fault Refusal := performTransfer s (softwareInterrupt 3#8)

/-- INT imm8, `CD ib` (42_i.md R286). -/
def execIntImm8 (b : Byte) (s : State) : Host.Outcome State Fault Refusal := performTransfer s do
  let s ← get
  require (!(s.mode = .v86 && s.flags.iopl != 3#2)) (excGP 0#16)
  softwareInterrupt b

/-- INTO, `CE` (42_i.md R286). -/
def execInto (s : State) : Host.Outcome State Fault Refusal := performTransfer s do
  let f ← getFlags
  if f.ov then softwareInterrupt 4#8 else pure false

/-- IRET_IRETD, `CF` (42_i.md R290). -/
def execIret (os : Sz) (s : State) : Host.Outcome State Fault Refusal := performKeepingRF s (returnFromInterrupt os)

end Sys2Proof.Machine
end

