-- ==== Sys2Proof/Machine/Data.lean ====
section
/-! DEFINITION. Data movement: MOV, MOVSX, MOVZX, LEA, XCHG, XLAT, CBW, CWD, LAHF, SAHF, SETcc, BOUND, NOP. -/

namespace Sys2Proof.Machine

/-! ## Shared operations -/

/-- DEST <- SRC with an r/m destination (45_m_n_o.md R360, R365). -/
def moveToRm (s : State) (w : Width) (rm : Rm) (src : M (BitVec w.bits)) : Host.Outcome State Fault Refusal :=
  perform s false do
    let v ← src
    writeRm w rm v

/-- DEST <- SRC with a register destination and an r/m source (45_m_n_o.md R360). -/
def moveToReg (s : State) (w : Width) (r : Reg) (rm : Rm) : Host.Outcome State Fault Refusal :=
  perform s false do
    let v ← readRm w rm
    writeReg w r v

/-- Load the accumulator from a direct offset (45_m_n_o.md R363). -/
def loadMoffs (s : State) (w : Width) (o : Imm) : Host.Outcome State Fault Refusal :=
  perform s false do
    let p ← openMoffs w o false
    let v ← readPlace w p
    writeReg w .ax v

/-- Store the accumulator at a direct offset (45_m_n_o.md R363). -/
def storeMoffs (s : State) (w : Width) (o : Imm) : Host.Outcome State Fault Refusal :=
  perform s false do
    let v ← readReg w .ax
    let p ← openMoffs w o true
    writePlace w p v

/-- MOVSX and MOVZX: the source extended to the destination's width (45_m_n_o.md R370, R371). -/
def moveExtend (s : State) (src dst : Width) (signed : Bool) (r : Reg) (rm : Rm) : Host.Outcome State Fault Refusal :=
  perform s false do
    let v ← readRm src rm
    writeReg dst r (if signed then v.signExtend _ else v.setWidth _)

/-- XCHG of an r/m operand with a register: the write check precedes the read (49_t_v_w_x.md R485). -/
def exchangeRm (s : State) (w : Width) (rm : Rm) (r : Reg) : Host.Outcome State Fault Refusal :=
  perform s (isMem rm) do
    let p ← openRm w rm true
    let t ← readPlace w p
    let v ← readReg w r
    writePlace w p v
    writeReg w r t

/-- SETcc: one byte, 01H or 00H (48_s.md R447). -/
def setCond (s : State) (c : Cond) (rm : Rm) : Host.Outcome State Fault Refusal :=
  perform s false do
    let f ← getFlags
    writeRm .b8 rm (if condHolds c f then 1#8 else 0#8)

/-- Load SF, ZF, AF, PF and CF from a byte (48_s.md R440). -/
def flagsFromByte (v : Byte) (f : Flags) : Flags :=
  { f with sf := v.getLsbD 7, zf := v.getLsbD 6, af := v.getLsbD 4, pf := v.getLsbD 2, cf := v.getLsbD 0 }

/-- BOUND: #BR unless lower <= index <= upper, signed; the lower bound is read first (40_a_b.md R208). -/
def checkBounds (os : Sz) (r : Reg) (rm : Rm) : M Unit := do
  let m ← requireMem rm
  let (lo, hi) ← readPair m os.bytes os.bytes
  let i ← readReg os.width r
  let lower : BitVec os.width.bits := lo.setWidth _
  let upper : BitVec os.width.bits := hi.setWidth _
  require (decide (lower.toInt ≤ i.toInt ∧ i.toInt ≤ upper.toInt)) excBR

/-! ## The rows -/

/-- MOV r/m8,r8, `88 /r` (45_m_n_o.md R360). -/
def execMovRm8R8 (rm : Rm) (r : Reg) (s : State) : Host.Outcome State Fault Refusal :=
  moveToRm s .b8 rm (readReg .b8 r)

/-- MOV r/m16,r16 | r/m32,r32, `89 /r` (45_m_n_o.md R360). -/
def execMovRmR (os : Sz) (rm : Rm) (r : Reg) (s : State) : Host.Outcome State Fault Refusal :=
  moveToRm s os.width rm (readReg os.width r)

/-- MOV r8,r/m8, `8A /r` (45_m_n_o.md R360). -/
def execMovR8Rm8 (r : Reg) (rm : Rm) (s : State) : Host.Outcome State Fault Refusal := moveToReg s .b8 r rm

/-- MOV r16,r/m16 | r32,r/m32, `8B /r` (45_m_n_o.md R360). -/
def execMovRRm (os : Sz) (r : Reg) (rm : Rm) (s : State) : Host.Outcome State Fault Refusal :=
  moveToReg s os.width r rm

/-- MOV AL,moffs8, `A0 offset` (45_m_n_o.md R363). -/
def execMovAlMoffs (o : Imm) (s : State) : Host.Outcome State Fault Refusal := loadMoffs s .b8 o

/-- MOV AX,moffs16 | EAX,moffs32, `A1 offset` (45_m_n_o.md R363). -/
def execMovAccMoffs (os : Sz) (o : Imm) (s : State) : Host.Outcome State Fault Refusal := loadMoffs s os.width o

/-- MOV moffs8,AL, `A2 offset` (45_m_n_o.md R363). -/
def execMovMoffsAl (o : Imm) (s : State) : Host.Outcome State Fault Refusal := storeMoffs s .b8 o

/-- MOV moffs16,AX | moffs32,EAX, `A3 offset` (45_m_n_o.md R363). -/
def execMovMoffsAcc (os : Sz) (o : Imm) (s : State) : Host.Outcome State Fault Refusal := storeMoffs s os.width o

/-- MOV r8,imm8, `B0+r ib` (45_m_n_o.md R364). -/
def execMovR8Imm8 (r : Reg) (b : Byte) (s : State) : Host.Outcome State Fault Refusal :=
  perform s false (writeReg .b8 r b)

/-- MOV r16,imm16 | r32,imm32, `B8+r iw/id` (45_m_n_o.md R364). -/
def execMovRImm (r : Reg) (v : Imm) (s : State) : Host.Outcome State Fault Refusal :=
  perform s false (writeReg (immSize v).width r (immAt _ v))

/-- MOV r/m8,imm8, `C6 /0 ib` (45_m_n_o.md R365). -/
def execMovRm8Imm8 (rm : Rm) (b : Byte) (s : State) : Host.Outcome State Fault Refusal := moveToRm s .b8 rm (pure b)

/-- MOV r/m16,imm16 | r/m32,imm32, `C7 /0 iw/id` (45_m_n_o.md R365). -/
def execMovRmImm (rm : Rm) (v : Imm) (s : State) : Host.Outcome State Fault Refusal :=
  moveToRm s (immSize v).width rm (pure (immAt _ v))

/-- MOVSX r16,r/m8 | r32,r/m8, `0F BE /r` (45_m_n_o.md R370). -/
def execMovsxRRm8 (os : Sz) (r : Reg) (rm : Rm) (s : State) : Host.Outcome State Fault Refusal :=
  moveExtend s .b8 os.width true r rm

/-- MOVSX r32,r/m16, `0F BF /r` (45_m_n_o.md R370). -/
def execMovsxR32Rm16 (r : Reg) (rm : Rm) (s : State) : Host.Outcome State Fault Refusal :=
  moveExtend s .b16 .b32 true r rm

/-- MOVZX r16,r/m8 | r32,r/m8, `0F B6 /r` (45_m_n_o.md R371). -/
def execMovzxRRm8 (os : Sz) (r : Reg) (rm : Rm) (s : State) : Host.Outcome State Fault Refusal :=
  moveExtend s .b8 os.width false r rm

/-- MOVZX r32,r/m16, `0F B7 /r` (45_m_n_o.md R371). -/
def execMovzxR32Rm16 (r : Reg) (rm : Rm) (s : State) : Host.Outcome State Fault Refusal :=
  moveExtend s .b16 .b32 false r rm

/-- LEA r16,m | r32,m, `8D /r` (44_l.md R322). -/
def execLea (os : Sz) (r : Reg) (rm : Rm) (s : State) : Host.Outcome State Fault Refusal := perform s false do
  let m ← requireMem rm
  let ea ← effAddr m
  writeReg os.width r (ea.setWidth _)

/-- XCHG AX,r16 | EAX,r32, `90+r` (49_t_v_w_x.md R484). -/
def execXchgAccR (os : Sz) (r : Reg) (s : State) : Host.Outcome State Fault Refusal := perform s false do
  let t ← readReg os.width .ax
  let v ← readReg os.width r
  writeReg os.width .ax v
  writeReg os.width r t

/-- XCHG r/m8,r8 | r8,r/m8, `86 /r` (49_t_v_w_x.md R485). -/
def execXchgRm8R8 (rm : Rm) (r : Reg) (s : State) : Host.Outcome State Fault Refusal := exchangeRm s .b8 rm r

/-- XCHG r/m16,r16 | r16,r/m16 | r/m32,r32 | r32,r/m32, `87 /r` (49_t_v_w_x.md R485). -/
def execXchgRmR (os : Sz) (rm : Rm) (r : Reg) (s : State) : Host.Outcome State Fault Refusal :=
  exchangeRm s os.width rm r

/-- XLAT_XLATB m8, `D7` (49_t_v_w_x.md R486). -/
def execXlat (as : Sz) (s : State) : Host.Outcome State Fault Refusal := perform s false do
  let b ← readRegSz as .bx
  let al ← readReg .b8 .ax
  let s ← get
  let v ← memRead .b8 (s.dataSeg .ds) (truncSz as (b + al.setWidth 32))
  writeReg .b8 .ax v

/-- CBW_CWDE, `98` (41_c_d_e_h.md R234). -/
def execCbw (os : Sz) (s : State) : Host.Outcome State Fault Refusal := perform s false do
  match os with
  | .s16 => writeReg .b16 .ax ((← readReg .b8 .ax).signExtend 16)
  | .s32 => writeReg .b32 .ax ((← readReg .b16 .ax).signExtend 32)

/-- CWD_CDQ, `99` (41_c_d_e_h.md R242). -/
def execCwd (os : Sz) (s : State) : Host.Outcome State Fault Refusal := perform s false do
  let a ← readReg os.width .ax
  writeReg os.width .dx (if a.msb then BitVec.allOnes _ else 0#_)

/-- LAHF, `9F` (44_l.md R320). AH is register 4; the fixed bits are those of FLAGS (log entry 27). -/
def execLahf (s : State) : Host.Outcome State Fault Refusal := perform s false do
  let f ← getFlags
  writeReg .b8 .sp ((flagsLow f).setWidth 8)

/-- SAHF, `9E` (48_s.md R440). -/
def execSahf (s : State) : Host.Outcome State Fault Refusal := perform s false do
  let v ← readReg .b8 .sp
  modifyFlags (flagsFromByte v)

/-- SETO r/m8, `0F 90 /r` (48_s.md R447). -/
def execSeto (rm : Rm) (s : State) : Host.Outcome State Fault Refusal := setCond s .o rm

/-- SETNO r/m8, `0F 91 /r` (48_s.md R447). -/
def execSetno (rm : Rm) (s : State) : Host.Outcome State Fault Refusal := setCond s .no rm

/-- SETB_SETC_SETNAE r/m8, `0F 92 /r` (48_s.md R447). -/
def execSetb (rm : Rm) (s : State) : Host.Outcome State Fault Refusal := setCond s .b rm

/-- SETAE_SETNB_SETNC r/m8, `0F 93 /r` (48_s.md R447). -/
def execSetae (rm : Rm) (s : State) : Host.Outcome State Fault Refusal := setCond s .ae rm

/-- SETE_SETZ r/m8, `0F 94 /r` (48_s.md R447). -/
def execSete (rm : Rm) (s : State) : Host.Outcome State Fault Refusal := setCond s .e rm

/-- SETNE_SETNZ r/m8, `0F 95 /r` (48_s.md R447). -/
def execSetne (rm : Rm) (s : State) : Host.Outcome State Fault Refusal := setCond s .ne rm

/-- SETBE_SETNA r/m8, `0F 96 /r` (48_s.md R447). -/
def execSetbe (rm : Rm) (s : State) : Host.Outcome State Fault Refusal := setCond s .be rm

/-- SETA_SETNBE r/m8, `0F 97 /r` (48_s.md R447). -/
def execSeta (rm : Rm) (s : State) : Host.Outcome State Fault Refusal := setCond s .a rm

/-- SETS r/m8, `0F 98 /r` (48_s.md R447). -/
def execSets (rm : Rm) (s : State) : Host.Outcome State Fault Refusal := setCond s .s rm

/-- SETNS r/m8, `0F 99 /r` (48_s.md R447). -/
def execSetns (rm : Rm) (s : State) : Host.Outcome State Fault Refusal := setCond s .ns rm

/-- SETP_SETPE r/m8, `0F 9A /r` (48_s.md R447). -/
def execSetp (rm : Rm) (s : State) : Host.Outcome State Fault Refusal := setCond s .p rm

/-- SETNP_SETPO r/m8, `0F 9B /r` (48_s.md R447). -/
def execSetnp (rm : Rm) (s : State) : Host.Outcome State Fault Refusal := setCond s .np rm

/-- SETL_SETNGE r/m8, `0F 9C /r` (48_s.md R447). -/
def execSetl (rm : Rm) (s : State) : Host.Outcome State Fault Refusal := setCond s .l rm

/-- SETGE_SETNL r/m8, `0F 9D /r` (48_s.md R447). -/
def execSetge (rm : Rm) (s : State) : Host.Outcome State Fault Refusal := setCond s .ge rm

/-- SETLE_SETNG r/m8, `0F 9E /r` (48_s.md R447). -/
def execSetle (rm : Rm) (s : State) : Host.Outcome State Fault Refusal := setCond s .le rm

/-- SETG_SETNLE r/m8, `0F 9F /r` (48_s.md R447). -/
def execSetg (rm : Rm) (s : State) : Host.Outcome State Fault Refusal := setCond s .g rm

/-- BOUND r16,m16&16 | r32,m32&32, `62 /r` (40_a_b.md R208). -/
def execBound (os : Sz) (r : Reg) (rm : Rm) (s : State) : Host.Outcome State Fault Refusal :=
  perform s false (checkBounds os r rm)

/-- NOP, `90` (45_m_n_o.md R374). -/
def execNop (s : State) : Host.Outcome State Fault Refusal := perform s false (pure ())

end Sys2Proof.Machine
end

