-- ==== Sys2Proof/Machine/Io.lean ====
section
/-! DEFINITION. Port I/O: IN and OUT with the I/O permission check (42_i.md R272, R276, 45_m_n_o.md R381). -/

namespace Sys2Proof.Machine

/-! ## Ports -/

/-- `IOPermission(port, w)`: the bits of the I/O permission bitmap of an 80386 TSS for the `n` ports are all 0, and both
bytes read lie within the TSS (42_i.md R276). -/
def ioPermission (port : Word) (n : Nat) : M Bool := do
  let s ← get
  if s.tr.typ = 9#4 ∨ s.tr.typ = 11#4 then
    let base ← linRead (s.tr.base + 0x66#32) 2
    let at0 := base.toNat + port.toNat / 8
    if at0 + 1 ≤ s.tr.limit.toNat then
      let bits ← linRead (s.tr.base + BitVec.ofNat 32 at0) 2
      return (bits.extractLsb' (port.toNat % 8) n) == 0#n
    else return false
  else return false

/-- The permission test of IN, OUT, INS and OUTS (42_i.md R272): in protected mode with CPL above IOPL, and in V86 mode
always, the bitmap decides. -/
def checkPort (port : Word) (w : Width) : M Unit := do
  let s ← get
  if s.cr0.pe ∧ (s.flags.vm ∨ s.flags.iopl < s.cpl) then
    let ok ← ioPermission port w.bytes
    require ok (excGP 0#16)

/-- `PortRead(port, w)`: the platform's next answer, noted as an event (42_i.md R272, log entry 5). -/
def portIn (w : Width) (port : Word) : M (BitVec w.bits) := fun s =>
  let v : BitVec w.bits := (Config.portRead s.draws port w).setWidth _
  .ok (v, { s with draws := s.draws + 1, ioLog := .read port w (v.setWidth 32) :: s.ioLog })

/-- `PortWrite(port, w, v)`: an output event (45_m_n_o.md R381, log entry 5). -/
def portOut (w : Width) (port : Word) (v : BitVec w.bits) : M Unit := fun s =>
  .ok ((), { s with ioLog := .write port w (v.setWidth 32) :: s.ioLog })

/-- IN: read a port into the accumulator (42_i.md R272). -/
def inPort (w : Width) (port : Word) : M Unit := do
  checkPort port w
  let v ← portIn w port
  writeReg w .ax v

/-- OUT: write the accumulator to a port (45_m_n_o.md R381). -/
def outPort (w : Width) (port : Word) : M Unit := do
  checkPort port w
  let v ← readReg w .ax
  portOut w port v

/-! ## The rows -/

/-- IN AL,imm8, `E4 ib` (42_i.md R272). -/
def execInAlImm8 (b : Byte) (s : State) : Host.Outcome State Fault Refusal :=
  perform s false (inPort .b8 (b.setWidth 16))

/-- IN AX,imm8 | EAX,imm8, `E5 ib` (42_i.md R272). -/
def execInAccImm8 (os : Sz) (b : Byte) (s : State) : Host.Outcome State Fault Refusal :=
  perform s false (inPort os.width (b.setWidth 16))

/-- IN AL,DX, `EC` (42_i.md R272). -/
def execInAlDx (s : State) : Host.Outcome State Fault Refusal := perform s false do
  let port ← readReg .b16 .dx
  inPort .b8 port

/-- IN AX,DX | EAX,DX, `ED` (42_i.md R272). -/
def execInAccDx (os : Sz) (s : State) : Host.Outcome State Fault Refusal := perform s false do
  let port ← readReg .b16 .dx
  inPort os.width port

/-- OUT imm8,AL, `E6 ib` (45_m_n_o.md R381). -/
def execOutImm8Al (b : Byte) (s : State) : Host.Outcome State Fault Refusal :=
  perform s false (outPort .b8 (b.setWidth 16))

/-- OUT imm8,AX | imm8,EAX, `E7 ib` (45_m_n_o.md R381). -/
def execOutImm8Acc (os : Sz) (b : Byte) (s : State) : Host.Outcome State Fault Refusal :=
  perform s false (outPort os.width (b.setWidth 16))

/-- OUT DX,AL, `EE` (45_m_n_o.md R381). -/
def execOutDxAl (s : State) : Host.Outcome State Fault Refusal := perform s false do
  let port ← readReg .b16 .dx
  outPort .b8 port

/-- OUT DX,AX | DX,EAX, `EF` (45_m_n_o.md R381). -/
def execOutDxAcc (os : Sz) (s : State) : Host.Outcome State Fault Refusal := perform s false do
  let port ← readReg .b16 .dx
  outPort os.width port

end Sys2Proof.Machine
end

