-- ==== Sys2Proof/Machine/Segment.lean ====
section
/-! DEFINITION. Segment and descriptor-table registers, and the instructions that inspect selectors (40_a_b.md R207, 44_l.md,
45_m_n_o.md R361, R362, 48_s.md, 49_t_v_w_x.md R481, R482). -/

namespace Sys2Proof.Machine

/-! ## Shared operations -/

/-- The segment register a reg field names; 6 and 7 name none (30_encoding.md R142). -/
def sregOfField (f : BitVec 3) : Option Sreg :=
  match f.toNat with
  | 0 => some .es
  | 1 => some .cs
  | 2 => some .ss
  | 3 => some .ds
  | 4 => some .fs
  | 5 => some .gs
  | _ => none

/-- MOV r/m16,Sreg: a register destination takes 16 bits, and with OS = 32 its upper half is unspecified
(45_m_n_o.md R361, U5). -/
def storeSreg (os : Sz) (rm : Rm) (f : BitVec 3) : M Unit := do
  let s ← get
  match sregOfField f with
  | none => raise excUD
  | some r =>
    match rm with
    | .reg d => do
      let v ← padSel os (s.seg r).sel
      writeRegSz os d v
    | .mem _ => writeRm .b16 rm (s.seg r).sel

/-- MOV Sreg,r/m16; a load of SS inhibits interrupts for one instruction (45_m_n_o.md R362, 70_reset_and_hazards.md
R570). -/
def moveSreg (f : BitVec 3) (rm : Rm) : M Unit :=
  match sregOfField f with
  | none => raise excUD
  | some r => do
    require (r ≠ .cs) excUD
    let sel ← readRm .b16 rm
    segLoad r sel
    if r = .ss then modify fun s => { s with inhibit := .all }

/-- LDS, LES, LFS, LGS, LSS: the offset is read, then the selector (44_l.md R331). -/
def loadFarPointer (s : State) (os : Sz) (sr : Sreg) (r : Reg) (rm : Rm) : Host.Outcome State Fault Refusal :=
  perform s false do
    let m ← requireMem rm
    let (off, sel) ← readPair m os.bytes 2
    segLoad sr (sel.setWidth 16)
    writeRegSz os r off

/-- The operand of LGDT and LIDT: six bytes, the limit read before the base; 24 bits of base with OS = 16 (44_l.md
R324). -/
def readTable (os : Sz) (rm : Rm) : M TableReg := do
  let m ← requireMem rm
  requireCpl0
  let (lim, base) ← readPair m 2 4
  return { base := if os = .s16 then base &&& 0x00FFFFFF#32 else base, limit := lim.setWidth 16 }

/-- The six bytes SGDT and SIDT store: with OS = 16 the last is 0 (48_s.md R448). -/
def tableBytes (os : Sz) (t : TableReg) : List Byte :=
  leBytes 2 t.limit ++ (if os = .s16 then leBytes 3 t.base ++ [0#8] else leBytes 4 t.base)

/-- SGDT and SIDT (48_s.md R448, R449). -/
def storeTable (os : Sz) (rm : Rm) (t : TableReg) : M Unit := do
  let m ← requireMem rm
  let (seg, off) ← resolve m
  memStore seg off (tableBytes os t)

/-- The descriptor of a selector that is not null and within its table; no fault otherwise (44_l.md R321). -/
def lookup (sel : Word) : M (Option Desc) := do
  let s ← get
  if !selNull sel ∧ s.selInTable sel then return some (← readDesc sel) else return none

/-- "visible at the CPL (modified by the selector's RPL)": conforming code always (44_l.md R321). -/
def visible (s : State) (sel : Word) (d : Desc) : Bool :=
  d.conforming || (decide (s.cpl ≤ d.dpl) && decide (selRpl sel ≤ d.dpl))

/-- The descriptors LAR accepts: code, data, and every special type but 0, 8, A, D (44_l.md R321). -/
def larValid (d : Desc) : Bool := d.s || !(d.typ = 0#4 || d.typ = 8#4 || d.typ = 10#4 || d.typ = 13#4)

/-- The descriptors LSL accepts: code, data, and types 1, 2, 3, 9, B (44_l.md R345). -/
def lslValid (d : Desc) : Bool :=
  d.s || d.typ = 1#4 || d.typ = 2#4 || d.typ = 3#4 || d.typ = 9#4 || d.typ = 11#4

/-- Set ZF and leave the other flags. -/
def setZero (b : Bool) : M Unit := modifyFlags fun f => { f with zf := b }

/-- LAR and LSL: when the selector passes, ZF is 1 and the value goes to the register; else ZF is 0 and the register is
unchanged (44_l.md R321, R345). -/
def inspect (s : State) (os : Sz) (r : Reg) (rm : Rm) (valid : Desc → Bool) (value : Desc → M Dword) : Host.Outcome State Fault Refusal :=
  perform s false do
    requireProt
    let sel ← readSelector os rm
    let s ← get
    match ← lookup sel with
    | none => setZero false
    | some d =>
      if valid d && visible s sel d then
        let v ← value d
        writeRegSz os r v
        setZero true
      else setZero false

/-- The value LAR loads: the high doubleword masked by 00FxFF00, the x unspecified (44_l.md R321). -/
def accessRights (d : Desc) : M Dword := do
  let u ← draw 4
  return (d.hi &&& 0x00F0FF00#32) ||| (u.setWidth 32 <<< 16)

/-- VERR and VERW: ZF tells whether the segment may be accessed (49_t_v_w_x.md R481, R482). -/
def verify (s : State) (rm : Rm) (valid : Desc → Bool) : Host.Outcome State Fault Refusal :=
  perform s false do
    requireProt
    let sel ← readRm .b16 rm
    let s ← get
    match ← lookup sel with
    | none => setZero false
    | some d => setZero (valid d && visible s sel d)

/-- LLDT (44_l.md R332). -/
def loadLdt (sel : Word) : M Unit := do
  if selNull sel then modify fun s => { s with ldtr := { s.ldtr with sel := sel, valid := false } }
  else
    require (!selTI sel) (excGP (selCode sel))
    let d ← fetchDesc sel (excGP (selCode sel))
    require (d.isSys 2#4) (excGP (selCode sel))
    require d.p (excNP (selCode sel))
    modify fun s => { s with ldtr := d.toSeg sel }

/-- LTR: the TSS is marked busy; no task switch occurs (44_l.md R346). -/
def loadTask (sel : Word) : M Unit := do
  require (!selNull sel) (excGP 0#16)
  require (!selTI sel) (excGP (selCode sel))
  let d ← fetchDesc sel (excGP (selCode sel))
  require d.availTss (excGP (selCode sel))
  require d.p (excNP (selCode sel))
  setBusy sel true
  modify fun s => { s with tr := { d.toSeg sel with typ := d.typ ||| 2#4 } }

/-- ARPL (40_a_b.md R207). Whether the write check is made when nothing changes is `Config.arplChecksWrite`; where it is,
the operand is opened for writing, so the page-level write check is made and the page's dirty bit is set too. Where it is not,
the RPL that decides is read first, so the read checks precede the write checks of an adjustment too (20_memory.md R90 puts the
write checks first); DESIGN CHOICE, log entry 25. -/
def adjustRpl (rm : Rm) (src : Word) : M Unit := fun s =>
  let lower := fun (d : Word) => decide (selRpl d < selRpl src)
  let change : M Unit := do
    let p ← openRm .b16 rm true
    let d ← readPlace .b16 p
    if lower d then writePlace .b16 p (withRpl d (selRpl src))
    setZero (lower d)
  if isMem rm = true ∧ Config.arplChecksWrite = false then
    match readRm .b16 rm s with
    | .ok (d, t) => if lower d then change s else setZero false t
    | .error e => .error e
  else change s

/-! ## The rows -/

/-- MOV r/m16,Sreg, `8C /r` (45_m_n_o.md R361). -/
def execMovRmSreg (os : Sz) (rm : Rm) (f : BitVec 3) (s : State) : Host.Outcome State Fault Refusal :=
  perform s false (storeSreg os rm f)

/-- MOV Sreg,r/m16, `8E /r` (45_m_n_o.md R362). -/
def execMovSregRm (f : BitVec 3) (rm : Rm) (s : State) : Host.Outcome State Fault Refusal :=
  perform s false (moveSreg f rm)

/-- LDS r16,m16:16 | r32,m16:32, `C5 /r` (44_l.md R326). -/
def execLds (os : Sz) (r : Reg) (rm : Rm) (s : State) : Host.Outcome State Fault Refusal :=
  loadFarPointer s os .ds r rm

/-- LES r16,m16:16 | r32,m16:32, `C4 /r` (44_l.md R327). -/
def execLes (os : Sz) (r : Reg) (rm : Rm) (s : State) : Host.Outcome State Fault Refusal :=
  loadFarPointer s os .es r rm

/-- LFS r16,m16:16 | r32,m16:32, `0F B4 /r` (44_l.md R328). -/
def execLfs (os : Sz) (r : Reg) (rm : Rm) (s : State) : Host.Outcome State Fault Refusal :=
  loadFarPointer s os .fs r rm

/-- LGS r16,m16:16 | r32,m16:32, `0F B5 /r` (44_l.md R329). -/
def execLgs (os : Sz) (r : Reg) (rm : Rm) (s : State) : Host.Outcome State Fault Refusal :=
  loadFarPointer s os .gs r rm

/-- LSS r16,m16:16 | r32,m16:32, `0F B2 /r` (44_l.md R330). -/
def execLss (os : Sz) (r : Reg) (rm : Rm) (s : State) : Host.Outcome State Fault Refusal :=
  loadFarPointer s os .ss r rm

/-- LGDT m16&32, `0F 01 /2` (44_l.md R324). -/
def execLgdt (os : Sz) (rm : Rm) (s : State) : Host.Outcome State Fault Refusal := perform s false do
  let t ← readTable os rm
  modify fun s => { s with gdtr := t }

/-- LIDT m16&32, `0F 01 /3` (44_l.md R325). -/
def execLidt (os : Sz) (rm : Rm) (s : State) : Host.Outcome State Fault Refusal := perform s false do
  let t ← readTable os rm
  modify fun s => { s with idtr := t }

/-- SGDT m, `0F 01 /0` (48_s.md R448). -/
def execSgdt (os : Sz) (rm : Rm) (s : State) : Host.Outcome State Fault Refusal := perform s false do
  let s ← get
  storeTable os rm s.gdtr

/-- SIDT m, `0F 01 /1` (48_s.md R449). -/
def execSidt (os : Sz) (rm : Rm) (s : State) : Host.Outcome State Fault Refusal := perform s false do
  let s ← get
  storeTable os rm s.idtr

/-- LLDT r/m16, `0F 00 /2` (44_l.md R332). -/
def execLldt (rm : Rm) (s : State) : Host.Outcome State Fault Refusal := perform s false do
  requireProt
  requireCpl0
  let sel ← readRm .b16 rm
  loadLdt sel

/-- LTR r/m16, `0F 00 /3` (44_l.md R346). -/
def execLtr (rm : Rm) (s : State) : Host.Outcome State Fault Refusal := perform s false do
  requireProt
  requireCpl0
  let sel ← readRm .b16 rm
  loadTask sel

/-- SLDT r/m16, `0F 00 /0` (48_s.md R452). -/
def execSldt (rm : Rm) (s : State) : Host.Outcome State Fault Refusal := perform s false do
  requireProt
  let s ← get
  writeRm .b16 rm s.ldtr.sel

/-- STR r/m16, `0F 00 /1` (48_s.md R468). -/
def execStr (rm : Rm) (s : State) : Host.Outcome State Fault Refusal := perform s false do
  requireProt
  let s ← get
  writeRm .b16 rm s.tr.sel

/-- LAR r16,r/m16 | r32,r/m32, `0F 02 /r` (44_l.md R321). -/
def execLarRRm (os : Sz) (r : Reg) (rm : Rm) (s : State) : Host.Outcome State Fault Refusal :=
  inspect s os r rm larValid accessRights

/-- LSL r16,r/m16 | r32,r/m32, `0F 03 /r` (44_l.md R345). -/
def execLslRRm (os : Sz) (r : Reg) (rm : Rm) (s : State) : Host.Outcome State Fault Refusal :=
  inspect s os r rm lslValid fun d => pure d.limit

/-- VERR r/m16, `0F 00 /4` (49_t_v_w_x.md R481). -/
def execVerr (rm : Rm) (s : State) : Host.Outcome State Fault Refusal := verify s rm Desc.readable

/-- VERW r/m16, `0F 00 /5` (49_t_v_w_x.md R482). -/
def execVerw (rm : Rm) (s : State) : Host.Outcome State Fault Refusal := verify s rm Desc.writable

/-- ARPL r/m16,r16, `63 /r` (40_a_b.md R207). -/
def execArplRmR (rm : Rm) (r : Reg) (s : State) : Host.Outcome State Fault Refusal := perform s false do
  requireProt
  let src ← readReg .b16 r
  adjustRpl rm src

end Sys2Proof.Machine
end

