-- ==== Sys2Proof/Machine/Shift.lean ====
section
/-! DEFINITION. Rotates, shifts and double shifts (47_r.md R410 to R414, 48_s.md R441 to R444, R450, R451). -/

namespace Sys2Proof.Machine

/-! ## Rotates and shifts -/

/-- The seven operations of the shift group, in the order of their digits (30_encoding.md R150). -/
inductive ShiftOp where
  | rol | ror | rcl | rcr | sal | shr | sar
  deriving DecidableEq, Repr

/-- `c <- count AND 1FH` (47_r.md R410, 48_s.md R441). -/
def shiftCount (count : Byte) : Nat := (count &&& 0x1F#8).toNat

/-- A rotate writes only CF and OF (47_r.md R410). -/
def isRotate : ShiftOp → Bool
  | .rol | .ror | .rcl | .rcr => true
  | _ => false

/-- ROL: `c` times the top bit moves round to the bottom (47_r.md R413). -/
def rolLoop {n : Nat} : Nat → BitVec n → BitVec n
  | 0, x => x
  | c + 1, x => rolLoop c (x <<< 1 ||| (BitVec.ofBool x.msb).setWidth n)

/-- ROR: `c` times the bottom bit moves round to the top (47_r.md R414). -/
def rorLoop {n : Nat} : Nat → BitVec n → BitVec n
  | 0, x => x
  | c + 1, x => rorLoop c (x >>> 1 ||| (BitVec.ofBool (x.getLsbD 0)).setWidth n <<< (n - 1))

/-- RCL: `c` times CF moves into the bottom and the top bit into CF (47_r.md R411). -/
def rclLoop {n : Nat} : Nat → BitVec n → Bool → BitVec n × Bool
  | 0, x, cf => (x, cf)
  | c + 1, x, cf => rclLoop c (x <<< 1 ||| (BitVec.ofBool cf).setWidth n) x.msb

/-- RCR: `c` times CF moves into the top and the bottom bit into CF (47_r.md R412). -/
def rcrLoop {n : Nat} : Nat → BitVec n → Bool → BitVec n × Bool
  | 0, x, cf => (x, cf)
  | c + 1, x, cf => rcrLoop c (x >>> 1 ||| (BitVec.ofBool cf).setWidth n <<< (n - 1)) (x.getLsbD 0)

/-- The result of a rotate or shift by `c` (47_r.md R411 to R414, 48_s.md R442 to R444). -/
def shiftResult {n : Nat} (op : ShiftOp) (c : Nat) (a : BitVec n) (cf : Bool) : BitVec n :=
  match op with
  | .rol => rolLoop c a
  | .ror => rorLoop c a
  | .rcl => (rclLoop c a cf).1
  | .rcr => (rcrLoop c a cf).1
  | .sal => a <<< c
  | .shr => a >>> c
  | .sar => a.sshiftRight c

/-- CF of a rotate or shift by `c` > 0: the last bit moved out (47_r.md R411 to R414, 48_s.md R442 to R444). -/
def shiftCarry {n : Nat} (op : ShiftOp) (c : Nat) (a : BitVec n) (cf : Bool) : Bool :=
  match op with
  | .rol => (rolLoop c a).getLsbD 0
  | .ror => (rorLoop c a).msb
  | .rcl => (rclLoop c a cf).2
  | .rcr => (rcrLoop c a cf).2
  | .sal => if c ≤ n then a.getLsbD (n - c) else false
  | .shr => if c ≤ n then a.getLsbD (c - 1) else false
  | .sar => if c ≤ n then a.getLsbD (c - 1) else a.msb

/-- OF of a rotate or shift by 1, from the operand, the result and the new CF (47_r.md R410, 48_s.md R442 to R444). -/
def shiftOverflow {n : Nat} (op : ShiftOp) (a r : BitVec n) (cf : Bool) : Bool :=
  match op with
  | .rol | .rcl | .sal => r.msb ^^ cf
  | .ror | .rcr => r.msb ^^ r.getLsbD (n - 2)
  | .shr => a.msb
  | .sar => false

/-- The flags of a rotate or shift by `c`; `uo` and `ua` are the unspecified OF and AF (47_r.md R410, 48_s.md R441). -/
def shiftFlags {n : Nat} (op : ShiftOp) (c : Nat) (a : BitVec n) (uo ua : Bool) (f : Flags) : Flags :=
  let r := shiftResult op c a f.cf
  let cf := shiftCarry op c a f.cf
  let g := { f with ov := if c = 1 then shiftOverflow op a r cf else uo }
  if c = 0 then g
  else if isRotate op then { g with cf := cf }
  else { szpFlags r g with cf := cf, af := ua }

/-- A rotate or shift of the operand `a`. -/
def shiftBits {n : Nat} (op : ShiftOp) (c : Nat) (a : BitVec n) : M (BitVec n) := do
  let f ← getFlags
  let u ← draw 2
  modifyFlags (shiftFlags op c a (u.getLsbD 0) (u.getLsbD 1))
  return shiftResult op c a f.cf

/-- The forms with a constant count; memory is checked for writing whatever the count is (47_r.md R410). -/
def shiftRm (s : State) (w : Width) (op : ShiftOp) (rm : Rm) (count : Byte) : Host.Outcome State Fault Refusal :=
  perform s false (updateRm w rm (shiftBits op (shiftCount count)))

/-- The forms with the count in CL. -/
def shiftRmCl (s : State) (w : Width) (op : ShiftOp) (rm : Rm) : Host.Outcome State Fault Refusal :=
  perform s false do
    let count ← readReg .b8 .cx
    updateRm w rm (shiftBits op (shiftCount count))

/-! ## Double shifts (48_s.md R450, R451) -/

/-- The result of SHLD (`left`) or SHRD by 0 < `c` < N: the bits of `b` move in. -/
def doubleResult {n : Nat} (left : Bool) (c : Nat) (a b : BitVec n) : BitVec n :=
  if left then a <<< c ||| b >>> (n - c) else a >>> c ||| b <<< (n - c)

/-- CF of a double shift: the last bit moved out. -/
def doubleCarry {n : Nat} (left : Bool) (c : Nat) (a : BitVec n) : Bool :=
  if left then a.getLsbD (n - c) else a.getLsbD (c - 1)

/-- SHLD and SHRD: by 0 nothing happens; by N or more the result and all six flags are unspecified. -/
def doubleShift {n : Nat} (left : Bool) (c : Nat) (b a : BitVec n) : M (BitVec n) := do
  if c = 0 then return a
  else if n ≤ c then
    let u ← draw n
    undefStatus UndefMask.all
    return u
  else
    let r := doubleResult left c a b
    modifyFlags fun f => { szpFlags r f with cf := doubleCarry left c a }
    undefStatus { ov := true, af := true }
    return r

/-- The forms with an immediate count. -/
def doubleRm (s : State) (w : Width) (left : Bool) (rm : Rm) (r : Reg) (count : Byte) : Host.Outcome State Fault Refusal :=
  perform s false do
    let b ← readReg w r
    updateRm w rm (doubleShift left (shiftCount count) b)

/-- The forms with the count in CL. -/
def doubleRmCl (s : State) (w : Width) (left : Bool) (rm : Rm) (r : Reg) : Host.Outcome State Fault Refusal :=
  perform s false do
    let count ← readReg .b8 .cx
    let b ← readReg w r
    updateRm w rm (doubleShift left (shiftCount count) b)

/-! ## The rows -/

/-- ROL r/m8,1, `D0 /0` (47_r.md R413). -/
def execRolRm8One (rm : Rm) (s : State) : Host.Outcome State Fault Refusal := shiftRm s .b8 .rol rm 1#8

/-- ROL r/m8,CL, `D2 /0` (47_r.md R413). -/
def execRolRm8Cl (rm : Rm) (s : State) : Host.Outcome State Fault Refusal := shiftRmCl s .b8 .rol rm

/-- ROL r/m8,imm8, `C0 /0 ib` (47_r.md R413). -/
def execRolRm8Imm8 (rm : Rm) (b : Byte) (s : State) : Host.Outcome State Fault Refusal := shiftRm s .b8 .rol rm b

/-- ROL r/m16,1 | r/m32,1, `D1 /0` (47_r.md R413). -/
def execRolRmOne (os : Sz) (rm : Rm) (s : State) : Host.Outcome State Fault Refusal := shiftRm s os.width .rol rm 1#8

/-- ROL r/m16,CL | r/m32,CL, `D3 /0` (47_r.md R413). -/
def execRolRmCl (os : Sz) (rm : Rm) (s : State) : Host.Outcome State Fault Refusal := shiftRmCl s os.width .rol rm

/-- ROL r/m16,imm8 | r/m32,imm8, `C1 /0 ib` (47_r.md R413). -/
def execRolRmImm8 (os : Sz) (rm : Rm) (b : Byte) (s : State) : Host.Outcome State Fault Refusal :=
  shiftRm s os.width .rol rm b

/-- ROR r/m8,1, `D0 /1` (47_r.md R414). -/
def execRorRm8One (rm : Rm) (s : State) : Host.Outcome State Fault Refusal := shiftRm s .b8 .ror rm 1#8

/-- ROR r/m8,CL, `D2 /1` (47_r.md R414). -/
def execRorRm8Cl (rm : Rm) (s : State) : Host.Outcome State Fault Refusal := shiftRmCl s .b8 .ror rm

/-- ROR r/m8,imm8, `C0 /1 ib` (47_r.md R414). -/
def execRorRm8Imm8 (rm : Rm) (b : Byte) (s : State) : Host.Outcome State Fault Refusal := shiftRm s .b8 .ror rm b

/-- ROR r/m16,1 | r/m32,1, `D1 /1` (47_r.md R414). -/
def execRorRmOne (os : Sz) (rm : Rm) (s : State) : Host.Outcome State Fault Refusal := shiftRm s os.width .ror rm 1#8

/-- ROR r/m16,CL | r/m32,CL, `D3 /1` (47_r.md R414). -/
def execRorRmCl (os : Sz) (rm : Rm) (s : State) : Host.Outcome State Fault Refusal := shiftRmCl s os.width .ror rm

/-- ROR r/m16,imm8 | r/m32,imm8, `C1 /1 ib` (47_r.md R414). -/
def execRorRmImm8 (os : Sz) (rm : Rm) (b : Byte) (s : State) : Host.Outcome State Fault Refusal :=
  shiftRm s os.width .ror rm b

/-- RCL r/m8,1, `D0 /2` (47_r.md R411). -/
def execRclRm8One (rm : Rm) (s : State) : Host.Outcome State Fault Refusal := shiftRm s .b8 .rcl rm 1#8

/-- RCL r/m8,CL, `D2 /2` (47_r.md R411). -/
def execRclRm8Cl (rm : Rm) (s : State) : Host.Outcome State Fault Refusal := shiftRmCl s .b8 .rcl rm

/-- RCL r/m8,imm8, `C0 /2 ib` (47_r.md R411). -/
def execRclRm8Imm8 (rm : Rm) (b : Byte) (s : State) : Host.Outcome State Fault Refusal := shiftRm s .b8 .rcl rm b

/-- RCL r/m16,1 | r/m32,1, `D1 /2` (47_r.md R411). -/
def execRclRmOne (os : Sz) (rm : Rm) (s : State) : Host.Outcome State Fault Refusal := shiftRm s os.width .rcl rm 1#8

/-- RCL r/m16,CL | r/m32,CL, `D3 /2` (47_r.md R411). -/
def execRclRmCl (os : Sz) (rm : Rm) (s : State) : Host.Outcome State Fault Refusal := shiftRmCl s os.width .rcl rm

/-- RCL r/m16,imm8 | r/m32,imm8, `C1 /2 ib` (47_r.md R411). -/
def execRclRmImm8 (os : Sz) (rm : Rm) (b : Byte) (s : State) : Host.Outcome State Fault Refusal :=
  shiftRm s os.width .rcl rm b

/-- RCR r/m8,1, `D0 /3` (47_r.md R412). -/
def execRcrRm8One (rm : Rm) (s : State) : Host.Outcome State Fault Refusal := shiftRm s .b8 .rcr rm 1#8

/-- RCR r/m8,CL, `D2 /3` (47_r.md R412). -/
def execRcrRm8Cl (rm : Rm) (s : State) : Host.Outcome State Fault Refusal := shiftRmCl s .b8 .rcr rm

/-- RCR r/m8,imm8, `C0 /3 ib` (47_r.md R412). -/
def execRcrRm8Imm8 (rm : Rm) (b : Byte) (s : State) : Host.Outcome State Fault Refusal := shiftRm s .b8 .rcr rm b

/-- RCR r/m16,1 | r/m32,1, `D1 /3` (47_r.md R412). -/
def execRcrRmOne (os : Sz) (rm : Rm) (s : State) : Host.Outcome State Fault Refusal := shiftRm s os.width .rcr rm 1#8

/-- RCR r/m16,CL | r/m32,CL, `D3 /3` (47_r.md R412). -/
def execRcrRmCl (os : Sz) (rm : Rm) (s : State) : Host.Outcome State Fault Refusal := shiftRmCl s os.width .rcr rm

/-- RCR r/m16,imm8 | r/m32,imm8, `C1 /3 ib` (47_r.md R412). -/
def execRcrRmImm8 (os : Sz) (rm : Rm) (b : Byte) (s : State) : Host.Outcome State Fault Refusal :=
  shiftRm s os.width .rcr rm b

/-- SAL_SHL r/m8,1, `D0 /4` (48_s.md R442). -/
def execSalRm8One (rm : Rm) (s : State) : Host.Outcome State Fault Refusal := shiftRm s .b8 .sal rm 1#8

/-- SAL_SHL r/m8,CL, `D2 /4` (48_s.md R442). -/
def execSalRm8Cl (rm : Rm) (s : State) : Host.Outcome State Fault Refusal := shiftRmCl s .b8 .sal rm

/-- SAL_SHL r/m8,imm8, `C0 /4 ib` (48_s.md R442). -/
def execSalRm8Imm8 (rm : Rm) (b : Byte) (s : State) : Host.Outcome State Fault Refusal := shiftRm s .b8 .sal rm b

/-- SAL_SHL r/m16,1 | r/m32,1, `D1 /4` (48_s.md R442). -/
def execSalRmOne (os : Sz) (rm : Rm) (s : State) : Host.Outcome State Fault Refusal := shiftRm s os.width .sal rm 1#8

/-- SAL_SHL r/m16,CL | r/m32,CL, `D3 /4` (48_s.md R442). -/
def execSalRmCl (os : Sz) (rm : Rm) (s : State) : Host.Outcome State Fault Refusal := shiftRmCl s os.width .sal rm

/-- SAL_SHL r/m16,imm8 | r/m32,imm8, `C1 /4 ib` (48_s.md R442). -/
def execSalRmImm8 (os : Sz) (rm : Rm) (b : Byte) (s : State) : Host.Outcome State Fault Refusal :=
  shiftRm s os.width .sal rm b

/-- SHR r/m8,1, `D0 /5` (48_s.md R444). -/
def execShrRm8One (rm : Rm) (s : State) : Host.Outcome State Fault Refusal := shiftRm s .b8 .shr rm 1#8

/-- SHR r/m8,CL, `D2 /5` (48_s.md R444). -/
def execShrRm8Cl (rm : Rm) (s : State) : Host.Outcome State Fault Refusal := shiftRmCl s .b8 .shr rm

/-- SHR r/m8,imm8, `C0 /5 ib` (48_s.md R444). -/
def execShrRm8Imm8 (rm : Rm) (b : Byte) (s : State) : Host.Outcome State Fault Refusal := shiftRm s .b8 .shr rm b

/-- SHR r/m16,1 | r/m32,1, `D1 /5` (48_s.md R444). -/
def execShrRmOne (os : Sz) (rm : Rm) (s : State) : Host.Outcome State Fault Refusal := shiftRm s os.width .shr rm 1#8

/-- SHR r/m16,CL | r/m32,CL, `D3 /5` (48_s.md R444). -/
def execShrRmCl (os : Sz) (rm : Rm) (s : State) : Host.Outcome State Fault Refusal := shiftRmCl s os.width .shr rm

/-- SHR r/m16,imm8 | r/m32,imm8, `C1 /5 ib` (48_s.md R444). -/
def execShrRmImm8 (os : Sz) (rm : Rm) (b : Byte) (s : State) : Host.Outcome State Fault Refusal :=
  shiftRm s os.width .shr rm b

/-- SAR r/m8,1, `D0 /7` (48_s.md R443). -/
def execSarRm8One (rm : Rm) (s : State) : Host.Outcome State Fault Refusal := shiftRm s .b8 .sar rm 1#8

/-- SAR r/m8,CL, `D2 /7` (48_s.md R443). -/
def execSarRm8Cl (rm : Rm) (s : State) : Host.Outcome State Fault Refusal := shiftRmCl s .b8 .sar rm

/-- SAR r/m8,imm8, `C0 /7 ib` (48_s.md R443). -/
def execSarRm8Imm8 (rm : Rm) (b : Byte) (s : State) : Host.Outcome State Fault Refusal := shiftRm s .b8 .sar rm b

/-- SAR r/m16,1 | r/m32,1, `D1 /7` (48_s.md R443). -/
def execSarRmOne (os : Sz) (rm : Rm) (s : State) : Host.Outcome State Fault Refusal := shiftRm s os.width .sar rm 1#8

/-- SAR r/m16,CL | r/m32,CL, `D3 /7` (48_s.md R443). -/
def execSarRmCl (os : Sz) (rm : Rm) (s : State) : Host.Outcome State Fault Refusal := shiftRmCl s os.width .sar rm

/-- SAR r/m16,imm8 | r/m32,imm8, `C1 /7 ib` (48_s.md R443). -/
def execSarRmImm8 (os : Sz) (rm : Rm) (b : Byte) (s : State) : Host.Outcome State Fault Refusal :=
  shiftRm s os.width .sar rm b

/-- SHLD r/m16,r16,imm8 | r/m32,r32,imm8, `0F A4 /r ib` (48_s.md R450). -/
def execShldRmRImm8 (os : Sz) (rm : Rm) (r : Reg) (b : Byte) (s : State) : Host.Outcome State Fault Refusal :=
  doubleRm s os.width true rm r b

/-- SHLD r/m16,r16,CL | r/m32,r32,CL, `0F A5 /r` (48_s.md R450). -/
def execShldRmRCl (os : Sz) (rm : Rm) (r : Reg) (s : State) : Host.Outcome State Fault Refusal :=
  doubleRmCl s os.width true rm r

/-- SHRD r/m16,r16,imm8 | r/m32,r32,imm8, `0F AC /r ib` (48_s.md R451). -/
def execShrdRmRImm8 (os : Sz) (rm : Rm) (r : Reg) (b : Byte) (s : State) : Host.Outcome State Fault Refusal :=
  doubleRm s os.width false rm r b

/-- SHRD r/m16,r16,CL | r/m32,r32,CL, `0F AD /r` (48_s.md R451). -/
def execShrdRmRCl (os : Sz) (rm : Rm) (r : Reg) (s : State) : Host.Outcome State Fault Refusal :=
  doubleRmCl s os.width false rm r

end Sys2Proof.Machine
end

