-- ==== Sys2Proof/Machine/Stack.lean ====
section
/-! DEFINITION. The stack: PUSH, POP and their variants, ENTER, LEAVE (46_p.md, 41_c_d_e_h.md R247, 44_l.md R323). -/

namespace Sys2Proof.Machine

/-! ## Shared operations -/

/-- PUSH of a segment register: the selector; the upper half of a 32-bit element is unspecified (46_p.md R400, U6). -/
def pushSreg (s : State) (os : Sz) (r : Sreg) : Host.Outcome State Fault Refusal :=
  perform s false do
    let s ← get
    let v ← padSel os (s.seg r).sel
    push os v

/-- POP of a segment register (46_p.md R394): the stack pointer moves after the load, at the size of the SS then
current. -/
def popSegment (os : Sz) (r : Sreg) : M Unit := do
  let s ← get
  let v ← stackRead os 0
  segLoad r (v.setWidth 16)
  setStackPtr (s.sp + BitVec.ofNat 32 os.bytes)

/-- POP of DS, ES, FS or GS. -/
def popSreg (s : State) (os : Sz) (r : Sreg) : Host.Outcome State Fault Refusal := perform s false (popSegment os r)

/-- PUSHF and POPF in V86 mode need IOPL = 3 (46_p.md R396, R402). -/
def requireIopl : M Unit := do
  let s ← get
  require (!(s.flags.vm && s.flags.iopl != 3#2)) (excGP 0#16)

/-- The offset of the `k`-th element of `sz` bits below the top of the stack; each push wraps by itself (46_p.md R391). -/
def State.elementBelow (s : State) (sz : Sz) (k : Nat) : Dword := truncSz s.ssSize (s.sp - BitVec.ofNat 32 (sz.bytes * k))

/-- Open for writing the `n` elements that follow the first `k` below the top, in the order of their pushes. -/
def openBelow (sz : Sz) : Nat → Nat → M (List (List Nat))
  | 0, _ => pure []
  | n + 1, k => do
    let s ← get
    let as ← openMem .ss (s.elementBelow sz (k + 1)) sz.bytes true
    let rest ← openBelow sz n (k + 1)
    return as :: rest

/-- Store the values of some elements, in order, each at its addresses. -/
def State.setElements (s : State) (sz : Sz) (places : List (List Nat)) (vs : List Dword) : State :=
  (places.zip vs).foldl (fun t p => t.setBytes p.1 (leBytes sz.bytes p.2)) s

/-- PUSHA: the eight registers, SP as it was before, all eight writes checked before any is made (46_p.md R401). -/
def pushAllRegs (os : Sz) : M Unit := do
  let s ← get
  let g := s.regs
  let places ← openBelow os 8 0
  modify fun t => t.setElements os places [g.eax, g.ecx, g.edx, g.ebx, g.esp, g.ebp, g.esi, g.edi]
  setStackPtr (s.elementBelow os 8)

/-- POPA: the eight elements, checked together without wrap, the one of SP discarded (46_p.md R395). -/
def popAllRegs (os : Sz) : M Unit := do
  let s ← get
  let bs ← memBytes .ss s.sp (8 * os.bytes)
  addStackPtr (8 * os.bytes)
  writeRegSz os .di (frameElem os bs 0)
  writeRegSz os .si (frameElem os bs 1)
  writeRegSz os .bp (frameElem os bs 2)
  writeRegSz os .bx (frameElem os bs 4)
  writeRegSz os .dx (frameElem os bs 5)
  writeRegSz os .cx (frameElem os bs 6)
  writeRegSz os .ax (frameElem os bs 7)

/-- The display entries ENTER copies: `k` times FP <- FP - W, then push the element at SS:FP (41_c_d_e_h.md R247). -/
def copyDisplay (os : Sz) : Nat → M Unit
  | 0 => pure ()
  | k + 1 => do
    let fp ← readRegSz os .bp
    writeRegSz os .bp (fp - BitVec.ofNat 32 os.bytes)
    let s ← get
    let fp ← readRegSz os .bp
    let v ← memBytes .ss (truncSz s.ssSize fp) os.bytes
    push os (leValue 32 v)
    copyDisplay os k

/-- ENTER (41_c_d_e_h.md R247). With a 32-bit operand on a 16-bit stack the frame pointer is SP zero-extended, as `Push` reads it
(46_p.md R391): R247 does not say what bits 31:16 of the pushed element and of EBP hold; DEDUCED, log entry 57. -/
def enterFrame (os : Sz) (locals : Word) (level : Byte) : M Unit := do
  let fp ← readRegSz os .bp
  push os fp
  let s ← get
  let frame := s.sp
  let n := level.toNat % 32
  if 0 < n then
    copyDisplay os (n - 1)
    push os frame
  writeRegSz os .bp frame
  modify fun s => s.setSp (s.sp - locals.setWidth 32)

/-- LEAVE: the stack pointer from BP or EBP by the stack size, then the pop at the operand size (44_l.md R323). -/
def leaveFrame (os : Sz) : M Unit := do
  let s ← get
  let t ← readRegSz s.ssSize .bp
  let v ← memBytes .ss t os.bytes
  setStackPtr (t + BitVec.ofNat 32 os.bytes)
  writeRegSz os .bp (leValue 32 v)

/-! ## The rows -/

/-- PUSH m16 | m32, `FF /6` (46_p.md R397). -/
def execPushMem (os : Sz) (m : Mem) (s : State) : Host.Outcome State Fault Refusal := perform s false do
  let (seg, off) ← resolve m
  let v ← memBytes seg off os.bytes
  push os (leValue 32 v)

/-- PUSH r16 | r32, `50+r` (46_p.md R398). PUSH SP pushes the value before the push. -/
def execPushR (os : Sz) (r : Reg) (s : State) : Host.Outcome State Fault Refusal := perform s false do
  let v ← readRegSz os r
  push os v

/-- PUSH imm8, `6A ib` (46_p.md R399). -/
def execPushImm8 (os : Sz) (b : Byte) (s : State) : Host.Outcome State Fault Refusal :=
  perform s false (push os (b.signExtend 32))

/-- PUSH imm16 | imm32, `68 iw/id` (46_p.md R399). -/
def execPushImm (v : Imm) (s : State) : Host.Outcome State Fault Refusal :=
  perform s false (push (immSize v) (immValue v))

/-- PUSH CS, `0E` (46_p.md R400). -/
def execPushCs (os : Sz) (s : State) : Host.Outcome State Fault Refusal := pushSreg s os .cs

/-- PUSH SS, `16` (46_p.md R400). -/
def execPushSs (os : Sz) (s : State) : Host.Outcome State Fault Refusal := pushSreg s os .ss

/-- PUSH DS, `1E` (46_p.md R400). -/
def execPushDs (os : Sz) (s : State) : Host.Outcome State Fault Refusal := pushSreg s os .ds

/-- PUSH ES, `06` (46_p.md R400). -/
def execPushEs (os : Sz) (s : State) : Host.Outcome State Fault Refusal := pushSreg s os .es

/-- PUSH FS, `0F A0` (46_p.md R400). -/
def execPushFs (os : Sz) (s : State) : Host.Outcome State Fault Refusal := pushSreg s os .fs

/-- PUSH GS, `0F A8` (46_p.md R400). -/
def execPushGs (os : Sz) (s : State) : Host.Outcome State Fault Refusal := pushSreg s os .gs

/-- PUSHA_PUSHAD, `60` (46_p.md R401). -/
def execPusha (os : Sz) (s : State) : Host.Outcome State Fault Refusal := perform s false (pushAllRegs os)

/-- PUSHF_PUSHFD, `9C` (46_p.md R402). -/
def execPushf (os : Sz) (s : State) : Host.Outcome State Fault Refusal := perform s false do
  requireIopl
  let f ← getFlags
  push os (eflags f)

/-- POP m16 | m32, `8F /0` (46_p.md R392). The address is computed after the increment (46_p.md R390 b). -/
def execPopMem (os : Sz) (m : Mem) (s : State) : Host.Outcome State Fault Refusal := perform s false do
  let v ← pop os
  let (seg, off) ← resolve m
  memStore seg off (leBytes os.bytes v)

/-- POP r16 | r32, `58+r` (46_p.md R393). POP SP keeps the popped value (46_p.md R390 a). With OS = 16 on a 32-bit stack the
increment comes first, so its carry out of SP stays in ESP[31:16]; DEDUCED, log entry 51. -/
def execPopR (os : Sz) (r : Reg) (s : State) : Host.Outcome State Fault Refusal := perform s false do
  let v ← pop os
  writeRegSz os r v

/-- POP DS, `1F` (46_p.md R394). -/
def execPopDs (os : Sz) (s : State) : Host.Outcome State Fault Refusal := popSreg s os .ds

/-- POP ES, `07` (46_p.md R394). -/
def execPopEs (os : Sz) (s : State) : Host.Outcome State Fault Refusal := popSreg s os .es

/-- POP FS, `0F A1` (46_p.md R394). -/
def execPopFs (os : Sz) (s : State) : Host.Outcome State Fault Refusal := popSreg s os .fs

/-- POP GS, `0F A9` (46_p.md R394). -/
def execPopGs (os : Sz) (s : State) : Host.Outcome State Fault Refusal := popSreg s os .gs

/-- POP SS, `17` (46_p.md R394). Interrupts are inhibited for one instruction (70_reset_and_hazards.md R570). -/
def execPopSs (os : Sz) (s : State) : Host.Outcome State Fault Refusal := perform s false do
  popSegment os .ss
  modify fun s => { s with inhibit := .all }

/-- POPA_POPAD, `61` (46_p.md R395). -/
def execPopa (os : Sz) (s : State) : Host.Outcome State Fault Refusal := perform s false (popAllRegs os)

/-- POPF_POPFD, `9D` (46_p.md R396). RF and VM keep their values. -/
def execPopf (os : Sz) (s : State) : Host.Outcome State Fault Refusal := performKeepingRF s do
  requireIopl
  let v ← pop os
  modify fun s => { s with flags := loadFlags s v .s16 false }

/-- ENTER imm16,imm8, `C8 iw` (41_c_d_e_h.md R247). -/
def execEnter (os : Sz) (w : Word) (b : Byte) (s : State) : Host.Outcome State Fault Refusal :=
  perform s false (enterFrame os w b)

/-- LEAVE, `C9` (44_l.md R323). -/
def execLeave (os : Sz) (s : State) : Host.Outcome State Fault Refusal := perform s false (leaveFrame os)

end Sys2Proof.Machine
end

