-- ==== Sys2Proof/Machine/Strings.lean ====
section
/-! DEFINITION. The string instructions and their repetition (47_r.md R420). -/

namespace Sys2Proof.Machine

/-! ## Repetition (47_r.md R420) -/

/-- One iteration of a repeated string instruction: with a count of 0 nothing happens; else the operation is performed
and the count drops; the instruction is over when the count is 0 or, for CMPS and SCAS (`scan`), when the repeat
condition fails; else EIP goes back to the instruction. -/
def repeatOnce (pc : Dword) (rep : Rep) (scan : Bool) (as : Sz) (body : M Unit) : M Unit := do
  let c ← readRegSz as .cx
  if c = 0#32 then pure ()
  else
    body
    writeRegSz as .cx (c - 1#32)
    let f ← getFlags
    if (scan ∧ f.zf ≠ (rep == .repe)) ∨ c = 1#32 then pure ()
    else modify fun s => { s with eip := pc }

/-- Run a string instruction, repeated if it has a repeat prefix: F3 for every one, F2 for CMPS and SCAS only; LOCK and
the other uses of F2 raise #UD (47_r.md R420, 44_l.md R340). -/
def performString (s : State) (scan : Bool) (as : Sz) (body : M Unit) : Host.Outcome State Fault Refusal :=
  runM s do
    require (!s.pfx.lock) excUD
    match s.pfx.rep with
    | none => body
    | some rep => do
      require (scan || rep == .repe) excUD
      repeatOnce s.eip rep scan as body
    clearRF

/-! ## One operation of each -/

/-- MOVS (45_m_n_o.md R369). -/
def moveString (as : Sz) (w : Width) : M Unit := do
  let src ← openSource as w
  let v ← readPlace w src
  let dst ← openDest as w true
  writePlace w dst v
  stepIndex as w .si
  stepIndex as w .di

/-- CMPS: source minus destination (41_c_d_e_h.md R241). -/
def compareString (as : Sz) (w : Width) : M Unit := do
  let src ← openSource as w
  let a ← readPlace w src
  let dst ← openDest as w false
  let b ← readPlace w dst
  modifyFlags (subFlags a b false)
  stepIndex as w .si
  stepIndex as w .di

/-- SCAS: accumulator minus destination (48_s.md R446). -/
def scanString (as : Sz) (w : Width) : M Unit := do
  let dst ← openDest as w false
  let b ← readPlace w dst
  let a ← readReg w .ax
  modifyFlags (subFlags a b false)
  stepIndex as w .di

/-- LODS (44_l.md R341). -/
def loadString (as : Sz) (w : Width) : M Unit := do
  let src ← openSource as w
  let v ← readPlace w src
  writeReg w .ax v
  stepIndex as w .si

/-- STOS (48_s.md R467). -/
def storeString (as : Sz) (w : Width) : M Unit := do
  let dst ← openDest as w true
  let v ← readReg w .ax
  writePlace w dst v
  stepIndex as w .di

/-- INS: permission, then the checks of the destination, then the port, then the store (42_i.md R274). -/
def inputString (as : Sz) (w : Width) : M Unit := do
  let port ← readReg .b16 .dx
  checkPort port w
  let dst ← openDest as w true
  let v ← portIn w port
  writePlace w dst v
  stepIndex as w .di

/-- OUTS: permission, then the memory read, then the port (45_m_n_o.md R382). -/
def outputString (as : Sz) (w : Width) : M Unit := do
  let port ← readReg .b16 .dx
  checkPort port w
  let src ← openSource as w
  let v ← readPlace w src
  portOut w port v
  stepIndex as w .si

/-! ## The rows -/

/-- MOVS_MOVSB m8,m8, `A4` (45_m_n_o.md R369). -/
def execMovsb (as : Sz) (s : State) : Host.Outcome State Fault Refusal := performString s false as (moveString as .b8)

/-- MOVS_MOVSW_MOVSD m16,m16 | m32,m32, `A5` (45_m_n_o.md R369). -/
def execMovsw (os : Sz) (as : Sz) (s : State) : Host.Outcome State Fault Refusal :=
  performString s false as (moveString as os.width)

/-- CMPS_CMPSB m8,m8, `A6` (41_c_d_e_h.md R241). -/
def execCmpsb (as : Sz) (s : State) : Host.Outcome State Fault Refusal :=
  performString s true as (compareString as .b8)

/-- CMPS_CMPSW_CMPSD m16,m16 | m32,m32, `A7` (41_c_d_e_h.md R241). -/
def execCmpsw (os : Sz) (as : Sz) (s : State) : Host.Outcome State Fault Refusal :=
  performString s true as (compareString as os.width)

/-- SCAS_SCASB m8, `AE` (48_s.md R446). -/
def execScasb (as : Sz) (s : State) : Host.Outcome State Fault Refusal := performString s true as (scanString as .b8)

/-- SCAS_SCASW_SCASD m16 | m32, `AF` (48_s.md R446). -/
def execScasw (os : Sz) (as : Sz) (s : State) : Host.Outcome State Fault Refusal :=
  performString s true as (scanString as os.width)

/-- LODS_LODSB m8, `AC` (44_l.md R341). -/
def execLodsb (as : Sz) (s : State) : Host.Outcome State Fault Refusal := performString s false as (loadString as .b8)

/-- LODS_LODSW_LODSD m16 | m32, `AD` (44_l.md R341). -/
def execLodsw (os : Sz) (as : Sz) (s : State) : Host.Outcome State Fault Refusal :=
  performString s false as (loadString as os.width)

/-- STOS_STOSB m8, `AA` (48_s.md R467). -/
def execStosb (as : Sz) (s : State) : Host.Outcome State Fault Refusal :=
  performString s false as (storeString as .b8)

/-- STOS_STOSW_STOSD m16 | m32, `AB` (48_s.md R467). -/
def execStosw (os : Sz) (as : Sz) (s : State) : Host.Outcome State Fault Refusal :=
  performString s false as (storeString as os.width)

/-- INS_INSB r/m8,DX, `6C` (42_i.md R274). -/
def execInsb (as : Sz) (s : State) : Host.Outcome State Fault Refusal := performString s false as (inputString as .b8)

/-- INS_INSW_INSD r/m16,DX | r/m32,DX, `6D` (42_i.md R274). -/
def execInsw (os : Sz) (as : Sz) (s : State) : Host.Outcome State Fault Refusal :=
  performString s false as (inputString as os.width)

/-- OUTS_OUTSB DX,r/m8, `6E` (45_m_n_o.md R382). -/
def execOutsb (as : Sz) (s : State) : Host.Outcome State Fault Refusal :=
  performString s false as (outputString as .b8)

/-- OUTS_OUTSW_OUTSD DX,r/m16 | DX,r/m32, `6F` (45_m_n_o.md R382). -/
def execOutsw (os : Sz) (as : Sz) (s : State) : Host.Outcome State Fault Refusal :=
  performString s false as (outputString as os.width)

end Sys2Proof.Machine
end

