-- ==== Sys2Proof/Machine/System.lean ====
section
/-! DEFINITION. Prefixes, processor control, special registers, WAIT, ESC and the unassigned rows (30_encoding.md R121, R122, R170,
41_c_d_e_h.md, 44_l.md R337, 45_m_n_o.md R366 to R368, 48_s.md, 49_t_v_w_x.md R483). -/

namespace Sys2Proof.Machine

/-! ## Prefixes (30_encoding.md R121, R122) -/

/-- A segment-override prefix; two different ones in one instruction are refused (30_encoding.md R122 e). -/
def addOverride (r : Sreg) (s : State) : Host.Outcome State Fault Refusal :=
  if s.pfx.seg = none ∨ s.pfx.seg = some r then .next { s with pfx := { s.pfx with seg := some r } }
  else .refused .conflictingPrefixes

/-- A repeat prefix; F2 with F3 in one instruction is refused (30_encoding.md R122 e). -/
def addRepeat (r : Rep) (s : State) : Host.Outcome State Fault Refusal :=
  if s.pfx.rep = none ∨ s.pfx.rep = some r then .next { s with pfx := { s.pfx with rep := some r } }
  else .refused .conflictingPrefixes

/-! ## Flags and processor control -/

/-- The IOPL test of CLI and STI (41_c_d_e_h.md R237, 48_s.md R466). -/
def requireIo : M Unit := do
  let s ← get
  require s.ioAllowed (excGP 0#16)

/-- STI: the shadow is set when IF was 0 and the instruction did not run under a shadow (48_s.md R466,
70_reset_and_hazards.md R570). -/
def enableInterrupts (shadowed : Bool) : M Unit := do
  requireIo
  let f ← getFlags
  modifyFlags fun f => { f with ie := true }
  if !f.ie && !shadowed then modify fun s => { s with inhibit := .sti }

/-! ## Special registers (45_m_n_o.md R366 to R368) -/

/-- Change CR0. A change of PE and a setting of PG ask for a JMP next (70_reset_and_hazards.md R572). -/
def setCr0 (c : Cr0) : M Unit :=
  modify fun s =>
    { s with
      cr0 := c
      queue := { s.queue with
        jumpNeeded := s.queue.jumpNeeded || (c.pe != s.cr0.pe) || (c.pg && !s.cr0.pg) } }

/-- MOV CR0: the reserved bits read back as written or as 0, unspecified which (10_state.md R46, U32, log entry 31); PG
without PE is refused (92_eei_decisions.md D18). -/
def writeCr0 (v : Dword) : M Unit := do
  let c := cr0OfWord v
  if c.pg && !c.pe then refuse .pagingWithoutProtection
  let u ← draw 26
  setCr0 { c with res := c.res &&& u }

/-- MOV CR3: the page directory base; the TLB is flushed (10_state.md R47, 20_memory.md R104). -/
def writeCr3 (v : Dword) : M Unit :=
  modify fun s => { s with cr3 := v &&& 0xFFFFF000#32, tlb := [], tlbUndef := false }

/-- Read a control register. -/
def readCReg (s : State) : CReg → Dword
  | .cr0 => cr0Word s.cr0
  | .cr2 => s.cr2
  | .cr3 => s.cr3

/-- Write a control register. -/
def writeCReg (c : CReg) (v : Dword) : M Unit :=
  match c with
  | .cr0 => writeCr0 v
  | .cr2 => modify fun s => { s with cr2 := v }
  | .cr3 => writeCr3 v

/-- Read a debug register. -/
def readDReg (s : State) : DReg → Dword
  | .dr0 => s.dr0
  | .dr1 => s.dr1
  | .dr2 => s.dr2
  | .dr3 => s.dr3
  | .dr6 => s.dr6
  | .dr7 => s.dr7

/-- DR7 enables a breakpoint or the general detect: bits 7:0 or 13 (60_exceptions.md R546). -/
def breakpointsOn (v : Dword) : Bool := v &&& 0x000020FF#32 != 0#32

/-- Write a debug register; enabling a breakpoint is refused (60_exceptions.md R546). -/
def writeDReg (d : DReg) (v : Dword) : M Unit :=
  match d with
  | .dr0 => modify fun s => { s with dr0 := v }
  | .dr1 => modify fun s => { s with dr1 := v }
  | .dr2 => modify fun s => { s with dr2 := v }
  | .dr3 => modify fun s => { s with dr3 := v }
  | .dr6 => modify fun s => { s with dr6 := v }
  | .dr7 => do
    if breakpointsOn v then refuse .breakpointEnable
    modify fun s => { s with dr7 := v }

/-- Read a test register. -/
def readTReg (s : State) : TReg → Dword
  | .tr6 => s.tr6
  | .tr7 => s.tr7

/-- Write a test register: every translation is unspecified until CR3 is written (10_state.md R49). -/
def writeTReg (t : TReg) (v : Dword) : M Unit :=
  match t with
  | .tr6 => modify fun s => { s with tr6 := v, tlbUndef := true }
  | .tr7 => modify fun s => { s with tr7 := v, tlbUndef := true }

/-- A move from a special register: privileged, and the six status flags are undefined (45_m_n_o.md R366). -/
def moveFromSpecial (s : State) (r : Reg) (read : State → Dword) : Host.Outcome State Fault Refusal :=
  perform s false do
    requireCpl0
    let s ← get
    writeReg .b32 r (read s)
    undefStatus UndefMask.all

/-- A move to a special register. -/
def moveToSpecial (s : State) (r : Reg) (write : Dword → M Unit) : Host.Outcome State Fault Refusal :=
  perform s false do
    requireCpl0
    let v ← readReg .b32 r
    write v
    undefStatus UndefMask.all

/-- LMSW: bits 3:0 of CR0, PE only set (44_l.md R337). -/
def loadMsw (v : Word) : M Unit := do
  let s ← get
  setCr0 { s.cr0 with
    pe := s.cr0.pe || v.getLsbD 0, mp := v.getLsbD 1, em := v.getLsbD 2, ts := v.getLsbD 3 }

/-! ## WAIT -/

/-- WAIT's checks (49_t_v_w_x.md R483). -/
def waitChecks : M Unit := do
  let s ← get
  require (!(s.cr0.mp && s.cr0.ts)) excNM
  require (!s.pins.error) excMF

/-- Whether WAIT waits: it raises nothing and BUSY# is asserted. -/
def State.waits (s : State) : Bool :=
  s.pins.busy && !s.pins.error && !(s.cr0.mp && s.cr0.ts) && !s.pfx.lock && s.pfx.rep.isNone

/-- A step of WAIT that goes on waiting: EIP stays at the instruction, which has not completed. -/
def State.waiting (s : State) : State := { s with pfx := Prefixes.none, inhibit := .none }

/-! ## The rows -/

/-- LOCK, `F0` (44_l.md R340). -/
def execLockPrefix (s : State) : Host.Outcome State Fault Refusal :=
  .next { s with pfx := { s.pfx with lock := true } }

/-- REPNE_REPNZ, `F2` (47_r.md R420). -/
def execRepnePrefix (s : State) : Host.Outcome State Fault Refusal := addRepeat .repne s

/-- REP_REPE_REPZ, `F3` (47_r.md R420). -/
def execRepPrefix (s : State) : Host.Outcome State Fault Refusal := addRepeat .repe s

/-- ES:, `26` (30_encoding.md R121). -/
def execEsPrefix (s : State) : Host.Outcome State Fault Refusal := addOverride .es s

/-- CS:, `2E` (30_encoding.md R121). -/
def execCsPrefix (s : State) : Host.Outcome State Fault Refusal := addOverride .cs s

/-- SS:, `36` (30_encoding.md R121). -/
def execSsPrefix (s : State) : Host.Outcome State Fault Refusal := addOverride .ss s

/-- DS:, `3E` (30_encoding.md R121). -/
def execDsPrefix (s : State) : Host.Outcome State Fault Refusal := addOverride .ds s

/-- FS:, `64` (30_encoding.md R121). -/
def execFsPrefix (s : State) : Host.Outcome State Fault Refusal := addOverride .fs s

/-- GS:, `65` (30_encoding.md R121). -/
def execGsPrefix (s : State) : Host.Outcome State Fault Refusal := addOverride .gs s

/-- operand-size, `66` (30_encoding.md R121). -/
def execOperandSizePrefix (s : State) : Host.Outcome State Fault Refusal :=
  .next { s with pfx := { s.pfx with osz := true } }

/-- address-size, `67` (30_encoding.md R121). -/
def execAddressSizePrefix (s : State) : Host.Outcome State Fault Refusal :=
  .next { s with pfx := { s.pfx with asz := true } }

/-- CLC, `F8` (41_c_d_e_h.md R235). -/
def execClc (s : State) : Host.Outcome State Fault Refusal :=
  perform s false (modifyFlags fun f => { f with cf := false })

/-- STC, `F9` (48_s.md R464). -/
def execStc (s : State) : Host.Outcome State Fault Refusal :=
  perform s false (modifyFlags fun f => { f with cf := true })

/-- CMC, `F5` (41_c_d_e_h.md R239). -/
def execCmc (s : State) : Host.Outcome State Fault Refusal :=
  perform s false (modifyFlags fun f => { f with cf := !f.cf })

/-- CLD, `FC` (41_c_d_e_h.md R236). -/
def execCld (s : State) : Host.Outcome State Fault Refusal :=
  perform s false (modifyFlags fun f => { f with df := false })

/-- STD, `FD` (48_s.md R465). -/
def execStd (s : State) : Host.Outcome State Fault Refusal :=
  perform s false (modifyFlags fun f => { f with df := true })

/-- CLI, `FA` (41_c_d_e_h.md R237). -/
def execCli (s : State) : Host.Outcome State Fault Refusal := perform s false do
  requireIo
  modifyFlags fun f => { f with ie := false }

/-- STI, `FB` (48_s.md R466). -/
def execSti (s : State) : Host.Outcome State Fault Refusal := perform s false (enableInterrupts (s.inhibit ≠ .none))

/-- CLTS, `0F 06` (41_c_d_e_h.md R238). -/
def execClts (s : State) : Host.Outcome State Fault Refusal := perform s false do
  requireCpl0
  modify fun s => { s with cr0 := { s.cr0 with ts := false } }

/-- HLT, `F4` (41_c_d_e_h.md R248). -/
def execHlt (s : State) : Host.Outcome State Fault Refusal := perform s false do
  requireCpl0
  modify fun s => { s with halted := true }

/-- MOV r32,CR0/CR2/CR3, `0F 20 /r` (45_m_n_o.md R366). -/
def execMovRCr (r : Reg) (c : CReg) (s : State) : Host.Outcome State Fault Refusal :=
  moveFromSpecial s r (readCReg · c)

/-- MOV CR0/CR2/CR3,r32, `0F 22 /r` (45_m_n_o.md R366). -/
def execMovCrR (c : CReg) (r : Reg) (s : State) : Host.Outcome State Fault Refusal := moveToSpecial s r (writeCReg c)

/-- MOV r32,DR0-3/DR6/DR7, `0F 21 /r` (45_m_n_o.md R367). -/
def execMovRDr (r : Reg) (d : DReg) (s : State) : Host.Outcome State Fault Refusal :=
  moveFromSpecial s r (readDReg · d)

/-- MOV DR0-3/DR6/DR7,r32, `0F 23 /r` (45_m_n_o.md R367). -/
def execMovDrR (d : DReg) (r : Reg) (s : State) : Host.Outcome State Fault Refusal := moveToSpecial s r (writeDReg d)

/-- MOV r32,TR6/TR7, `0F 24 /r` (45_m_n_o.md R368). -/
def execMovRTr (r : Reg) (t : TReg) (s : State) : Host.Outcome State Fault Refusal :=
  moveFromSpecial s r (readTReg · t)

/-- MOV TR6/TR7,r32, `0F 26 /r` (45_m_n_o.md R368). -/
def execMovTrR (t : TReg) (r : Reg) (s : State) : Host.Outcome State Fault Refusal := moveToSpecial s r (writeTReg t)

/-- LMSW r/m16, `0F 01 /6` (44_l.md R337). -/
def execLmsw (rm : Rm) (s : State) : Host.Outcome State Fault Refusal := perform s false do
  requireCpl0
  let v ← readRm .b16 rm
  loadMsw v

/-- SMSW r/m16, `0F 01 /4` (48_s.md R463). -/
def execSmsw (rm : Rm) (s : State) : Host.Outcome State Fault Refusal := perform s false do
  let s ← get
  writeRm .b16 rm ((cr0Word s.cr0).setWidth 16)

/-- WAIT, `9B` (49_t_v_w_x.md R483). -/
def execWait (s : State) : Host.Outcome State Fault Refusal :=
  if s.waits then .next s.waiting else perform s false waitChecks

/-- ESC, `D8+i` (30_encoding.md R170). #NM when EM or TS is 1, else refused (92_eei_decisions.md D12). -/
def execEsc (_i : BitVec 3) (s : State) : Host.Outcome State Fault Refusal := perform s false do
  let s ← get
  if s.cr0.em || s.cr0.ts then raise excNM else refuse .coprocessor

/-- unassigned, `82` (30_encoding.md R170). -/
def execUnassigned82 (_s : State) : Host.Outcome State Fault Refusal := .refused .unlistedEncoding

/-- unassigned, `D6` (30_encoding.md R170). -/
def execUnassignedD6 (_s : State) : Host.Outcome State Fault Refusal := .refused .unlistedEncoding

/-- unassigned, `F1` (30_encoding.md R170). -/
def execUnassignedF1 (_s : State) : Host.Outcome State Fault Refusal := .refused .unlistedEncoding

end Sys2Proof.Machine
end

