-- ==== Sys2Proof/Machine/Dispatch.lean ====
section
/-! DEFINITION. One meaning per instruction: each arm is one direct call. -/

namespace Sys2Proof.Machine

def exec (i : Instr) (s : State) : Host.Outcome State Fault Refusal :=
  match i with
  | .lockPrefix => Sys2Proof.Machine.execLockPrefix s
  | .repnePrefix => Sys2Proof.Machine.execRepnePrefix s
  | .repPrefix => Sys2Proof.Machine.execRepPrefix s
  | .esPrefix => Sys2Proof.Machine.execEsPrefix s
  | .csPrefix => Sys2Proof.Machine.execCsPrefix s
  | .ssPrefix => Sys2Proof.Machine.execSsPrefix s
  | .dsPrefix => Sys2Proof.Machine.execDsPrefix s
  | .fsPrefix => Sys2Proof.Machine.execFsPrefix s
  | .gsPrefix => Sys2Proof.Machine.execGsPrefix s
  | .operandSizePrefix => Sys2Proof.Machine.execOperandSizePrefix s
  | .addressSizePrefix => Sys2Proof.Machine.execAddressSizePrefix s
  | .addRm8R8 rm r => Sys2Proof.Machine.execAddRm8R8 rm r s
  | .addRmR os rm r => Sys2Proof.Machine.execAddRmR os rm r s
  | .addR8Rm8 r rm => Sys2Proof.Machine.execAddR8Rm8 r rm s
  | .addRRm os r rm => Sys2Proof.Machine.execAddRRm os r rm s
  | .addAlImm8 b => Sys2Proof.Machine.execAddAlImm8 b s
  | .addAccImm v => Sys2Proof.Machine.execAddAccImm v s
  | .addRm8Imm8 rm b => Sys2Proof.Machine.execAddRm8Imm8 rm b s
  | .addRmImm rm v => Sys2Proof.Machine.execAddRmImm rm v s
  | .addRmImm8 os rm b => Sys2Proof.Machine.execAddRmImm8 os rm b s
  | .orRm8R8 rm r => Sys2Proof.Machine.execOrRm8R8 rm r s
  | .orRmR os rm r => Sys2Proof.Machine.execOrRmR os rm r s
  | .orR8Rm8 r rm => Sys2Proof.Machine.execOrR8Rm8 r rm s
  | .orRRm os r rm => Sys2Proof.Machine.execOrRRm os r rm s
  | .orAlImm8 b => Sys2Proof.Machine.execOrAlImm8 b s
  | .orAccImm v => Sys2Proof.Machine.execOrAccImm v s
  | .orRm8Imm8 rm b => Sys2Proof.Machine.execOrRm8Imm8 rm b s
  | .orRmImm rm v => Sys2Proof.Machine.execOrRmImm rm v s
  | .orRmImm8 os rm b => Sys2Proof.Machine.execOrRmImm8 os rm b s
  | .adcRm8R8 rm r => Sys2Proof.Machine.execAdcRm8R8 rm r s
  | .adcRmR os rm r => Sys2Proof.Machine.execAdcRmR os rm r s
  | .adcR8Rm8 r rm => Sys2Proof.Machine.execAdcR8Rm8 r rm s
  | .adcRRm os r rm => Sys2Proof.Machine.execAdcRRm os r rm s
  | .adcAlImm8 b => Sys2Proof.Machine.execAdcAlImm8 b s
  | .adcAccImm v => Sys2Proof.Machine.execAdcAccImm v s
  | .adcRm8Imm8 rm b => Sys2Proof.Machine.execAdcRm8Imm8 rm b s
  | .adcRmImm rm v => Sys2Proof.Machine.execAdcRmImm rm v s
  | .adcRmImm8 os rm b => Sys2Proof.Machine.execAdcRmImm8 os rm b s
  | .sbbRm8R8 rm r => Sys2Proof.Machine.execSbbRm8R8 rm r s
  | .sbbRmR os rm r => Sys2Proof.Machine.execSbbRmR os rm r s
  | .sbbR8Rm8 r rm => Sys2Proof.Machine.execSbbR8Rm8 r rm s
  | .sbbRRm os r rm => Sys2Proof.Machine.execSbbRRm os r rm s
  | .sbbAlImm8 b => Sys2Proof.Machine.execSbbAlImm8 b s
  | .sbbAccImm v => Sys2Proof.Machine.execSbbAccImm v s
  | .sbbRm8Imm8 rm b => Sys2Proof.Machine.execSbbRm8Imm8 rm b s
  | .sbbRmImm rm v => Sys2Proof.Machine.execSbbRmImm rm v s
  | .sbbRmImm8 os rm b => Sys2Proof.Machine.execSbbRmImm8 os rm b s
  | .andRm8R8 rm r => Sys2Proof.Machine.execAndRm8R8 rm r s
  | .andRmR os rm r => Sys2Proof.Machine.execAndRmR os rm r s
  | .andR8Rm8 r rm => Sys2Proof.Machine.execAndR8Rm8 r rm s
  | .andRRm os r rm => Sys2Proof.Machine.execAndRRm os r rm s
  | .andAlImm8 b => Sys2Proof.Machine.execAndAlImm8 b s
  | .andAccImm v => Sys2Proof.Machine.execAndAccImm v s
  | .andRm8Imm8 rm b => Sys2Proof.Machine.execAndRm8Imm8 rm b s
  | .andRmImm rm v => Sys2Proof.Machine.execAndRmImm rm v s
  | .andRmImm8 os rm b => Sys2Proof.Machine.execAndRmImm8 os rm b s
  | .subRm8R8 rm r => Sys2Proof.Machine.execSubRm8R8 rm r s
  | .subRmR os rm r => Sys2Proof.Machine.execSubRmR os rm r s
  | .subR8Rm8 r rm => Sys2Proof.Machine.execSubR8Rm8 r rm s
  | .subRRm os r rm => Sys2Proof.Machine.execSubRRm os r rm s
  | .subAlImm8 b => Sys2Proof.Machine.execSubAlImm8 b s
  | .subAccImm v => Sys2Proof.Machine.execSubAccImm v s
  | .subRm8Imm8 rm b => Sys2Proof.Machine.execSubRm8Imm8 rm b s
  | .subRmImm rm v => Sys2Proof.Machine.execSubRmImm rm v s
  | .subRmImm8 os rm b => Sys2Proof.Machine.execSubRmImm8 os rm b s
  | .xorRm8R8 rm r => Sys2Proof.Machine.execXorRm8R8 rm r s
  | .xorRmR os rm r => Sys2Proof.Machine.execXorRmR os rm r s
  | .xorR8Rm8 r rm => Sys2Proof.Machine.execXorR8Rm8 r rm s
  | .xorRRm os r rm => Sys2Proof.Machine.execXorRRm os r rm s
  | .xorAlImm8 b => Sys2Proof.Machine.execXorAlImm8 b s
  | .xorAccImm v => Sys2Proof.Machine.execXorAccImm v s
  | .xorRm8Imm8 rm b => Sys2Proof.Machine.execXorRm8Imm8 rm b s
  | .xorRmImm rm v => Sys2Proof.Machine.execXorRmImm rm v s
  | .xorRmImm8 os rm b => Sys2Proof.Machine.execXorRmImm8 os rm b s
  | .cmpRm8R8 rm r => Sys2Proof.Machine.execCmpRm8R8 rm r s
  | .cmpRmR os rm r => Sys2Proof.Machine.execCmpRmR os rm r s
  | .cmpR8Rm8 r rm => Sys2Proof.Machine.execCmpR8Rm8 r rm s
  | .cmpRRm os r rm => Sys2Proof.Machine.execCmpRRm os r rm s
  | .cmpAlImm8 b => Sys2Proof.Machine.execCmpAlImm8 b s
  | .cmpAccImm v => Sys2Proof.Machine.execCmpAccImm v s
  | .cmpRm8Imm8 rm b => Sys2Proof.Machine.execCmpRm8Imm8 rm b s
  | .cmpRmImm rm v => Sys2Proof.Machine.execCmpRmImm rm v s
  | .cmpRmImm8 os rm b => Sys2Proof.Machine.execCmpRmImm8 os rm b s
  | .aaa => Sys2Proof.Machine.execAaa s
  | .aas => Sys2Proof.Machine.execAas s
  | .aad => Sys2Proof.Machine.execAad s
  | .aam => Sys2Proof.Machine.execAam s
  | .daa => Sys2Proof.Machine.execDaa s
  | .das => Sys2Proof.Machine.execDas s
  | .arplRmR rm r => Sys2Proof.Machine.execArplRmR rm r s
  | .bound os r rm => Sys2Proof.Machine.execBound os r rm s
  | .bsfRRm os r rm => Sys2Proof.Machine.execBsfRRm os r rm s
  | .bsrRRm os r rm => Sys2Proof.Machine.execBsrRRm os r rm s
  | .btRmR os rm r => Sys2Proof.Machine.execBtRmR os rm r s
  | .btRmImm8 os rm b => Sys2Proof.Machine.execBtRmImm8 os rm b s
  | .btcRmR os rm r => Sys2Proof.Machine.execBtcRmR os rm r s
  | .btcRmImm8 os rm b => Sys2Proof.Machine.execBtcRmImm8 os rm b s
  | .btrRmR os rm r => Sys2Proof.Machine.execBtrRmR os rm r s
  | .btrRmImm8 os rm b => Sys2Proof.Machine.execBtrRmImm8 os rm b s
  | .btsRmR os rm r => Sys2Proof.Machine.execBtsRmR os rm r s
  | .btsRmImm8 os rm b => Sys2Proof.Machine.execBtsRmImm8 os rm b s
  | .callRel v => Sys2Proof.Machine.execCallRel v s
  | .callRm os rm => Sys2Proof.Machine.execCallRm os rm s
  | .callFarPtr p => Sys2Proof.Machine.execCallFarPtr p s
  | .callFarMem os rm => Sys2Proof.Machine.execCallFarMem os rm s
  | .cbw os => Sys2Proof.Machine.execCbw os s
  | .clc => Sys2Proof.Machine.execClc s
  | .cld => Sys2Proof.Machine.execCld s
  | .cli => Sys2Proof.Machine.execCli s
  | .clts => Sys2Proof.Machine.execClts s
  | .cmc => Sys2Proof.Machine.execCmc s
  | .cmpsb as => Sys2Proof.Machine.execCmpsb as s
  | .cmpsw os as => Sys2Proof.Machine.execCmpsw os as s
  | .cwd os => Sys2Proof.Machine.execCwd os s
  | .decRm8 rm => Sys2Proof.Machine.execDecRm8 rm s
  | .decRm os rm => Sys2Proof.Machine.execDecRm os rm s
  | .decR os r => Sys2Proof.Machine.execDecR os r s
  | .divRm8 rm => Sys2Proof.Machine.execDivRm8 rm s
  | .divRm os rm => Sys2Proof.Machine.execDivRm os rm s
  | .enter os w b => Sys2Proof.Machine.execEnter os w b s
  | .hlt => Sys2Proof.Machine.execHlt s
  | .idivRm8 rm => Sys2Proof.Machine.execIdivRm8 rm s
  | .idivRm os rm => Sys2Proof.Machine.execIdivRm os rm s
  | .imulRm8 rm => Sys2Proof.Machine.execImulRm8 rm s
  | .imulRm os rm => Sys2Proof.Machine.execImulRm os rm s
  | .imulRRm os r rm => Sys2Proof.Machine.execImulRRm os r rm s
  | .imulRRmImm8 os r rm b => Sys2Proof.Machine.execImulRRmImm8 os r rm b s
  | .imulRRmImm r rm v => Sys2Proof.Machine.execImulRRmImm r rm v s
  | .inAlImm8 b => Sys2Proof.Machine.execInAlImm8 b s
  | .inAccImm8 os b => Sys2Proof.Machine.execInAccImm8 os b s
  | .inAlDx => Sys2Proof.Machine.execInAlDx s
  | .inAccDx os => Sys2Proof.Machine.execInAccDx os s
  | .incRm8 rm => Sys2Proof.Machine.execIncRm8 rm s
  | .incRm os rm => Sys2Proof.Machine.execIncRm os rm s
  | .incR os r => Sys2Proof.Machine.execIncR os r s
  | .insb as => Sys2Proof.Machine.execInsb as s
  | .insw os as => Sys2Proof.Machine.execInsw os as s
  | .int3 => Sys2Proof.Machine.execInt3 s
  | .intImm8 b => Sys2Proof.Machine.execIntImm8 b s
  | .into => Sys2Proof.Machine.execInto s
  | .iret os => Sys2Proof.Machine.execIret os s
  | .joRel8 os b => Sys2Proof.Machine.execJoRel8 os b s
  | .jnoRel8 os b => Sys2Proof.Machine.execJnoRel8 os b s
  | .jbRel8 os b => Sys2Proof.Machine.execJbRel8 os b s
  | .jaeRel8 os b => Sys2Proof.Machine.execJaeRel8 os b s
  | .jeRel8 os b => Sys2Proof.Machine.execJeRel8 os b s
  | .jneRel8 os b => Sys2Proof.Machine.execJneRel8 os b s
  | .jbeRel8 os b => Sys2Proof.Machine.execJbeRel8 os b s
  | .jaRel8 os b => Sys2Proof.Machine.execJaRel8 os b s
  | .jsRel8 os b => Sys2Proof.Machine.execJsRel8 os b s
  | .jnsRel8 os b => Sys2Proof.Machine.execJnsRel8 os b s
  | .jpRel8 os b => Sys2Proof.Machine.execJpRel8 os b s
  | .jnpRel8 os b => Sys2Proof.Machine.execJnpRel8 os b s
  | .jlRel8 os b => Sys2Proof.Machine.execJlRel8 os b s
  | .jgeRel8 os b => Sys2Proof.Machine.execJgeRel8 os b s
  | .jleRel8 os b => Sys2Proof.Machine.execJleRel8 os b s
  | .jgRel8 os b => Sys2Proof.Machine.execJgRel8 os b s
  | .joRel v => Sys2Proof.Machine.execJoRel v s
  | .jnoRel v => Sys2Proof.Machine.execJnoRel v s
  | .jbRel v => Sys2Proof.Machine.execJbRel v s
  | .jaeRel v => Sys2Proof.Machine.execJaeRel v s
  | .jeRel v => Sys2Proof.Machine.execJeRel v s
  | .jneRel v => Sys2Proof.Machine.execJneRel v s
  | .jbeRel v => Sys2Proof.Machine.execJbeRel v s
  | .jaRel v => Sys2Proof.Machine.execJaRel v s
  | .jsRel v => Sys2Proof.Machine.execJsRel v s
  | .jnsRel v => Sys2Proof.Machine.execJnsRel v s
  | .jpRel v => Sys2Proof.Machine.execJpRel v s
  | .jnpRel v => Sys2Proof.Machine.execJnpRel v s
  | .jlRel v => Sys2Proof.Machine.execJlRel v s
  | .jgeRel v => Sys2Proof.Machine.execJgeRel v s
  | .jleRel v => Sys2Proof.Machine.execJleRel v s
  | .jgRel v => Sys2Proof.Machine.execJgRel v s
  | .jcxz os as b => Sys2Proof.Machine.execJcxz os as b s
  | .jmpRel8 os b => Sys2Proof.Machine.execJmpRel8 os b s
  | .jmpRel v => Sys2Proof.Machine.execJmpRel v s
  | .jmpRm os rm => Sys2Proof.Machine.execJmpRm os rm s
  | .jmpFarPtr p => Sys2Proof.Machine.execJmpFarPtr p s
  | .jmpFarMem os rm => Sys2Proof.Machine.execJmpFarMem os rm s
  | .lahf => Sys2Proof.Machine.execLahf s
  | .larRRm os r rm => Sys2Proof.Machine.execLarRRm os r rm s
  | .lea os r rm => Sys2Proof.Machine.execLea os r rm s
  | .leave os => Sys2Proof.Machine.execLeave os s
  | .lgdt os rm => Sys2Proof.Machine.execLgdt os rm s
  | .lidt os rm => Sys2Proof.Machine.execLidt os rm s
  | .lds os r rm => Sys2Proof.Machine.execLds os r rm s
  | .les os r rm => Sys2Proof.Machine.execLes os r rm s
  | .lfs os r rm => Sys2Proof.Machine.execLfs os r rm s
  | .lgs os r rm => Sys2Proof.Machine.execLgs os r rm s
  | .lss os r rm => Sys2Proof.Machine.execLss os r rm s
  | .lldt rm => Sys2Proof.Machine.execLldt rm s
  | .lmsw rm => Sys2Proof.Machine.execLmsw rm s
  | .lodsb as => Sys2Proof.Machine.execLodsb as s
  | .lodsw os as => Sys2Proof.Machine.execLodsw os as s
  | .loop os as b => Sys2Proof.Machine.execLoop os as b s
  | .loope os as b => Sys2Proof.Machine.execLoope os as b s
  | .loopne os as b => Sys2Proof.Machine.execLoopne os as b s
  | .lslRRm os r rm => Sys2Proof.Machine.execLslRRm os r rm s
  | .ltr rm => Sys2Proof.Machine.execLtr rm s
  | .movRm8R8 rm r => Sys2Proof.Machine.execMovRm8R8 rm r s
  | .movRmR os rm r => Sys2Proof.Machine.execMovRmR os rm r s
  | .movR8Rm8 r rm => Sys2Proof.Machine.execMovR8Rm8 r rm s
  | .movRRm os r rm => Sys2Proof.Machine.execMovRRm os r rm s
  | .movRmSreg os rm f => Sys2Proof.Machine.execMovRmSreg os rm f s
  | .movSregRm f rm => Sys2Proof.Machine.execMovSregRm f rm s
  | .movAlMoffs o => Sys2Proof.Machine.execMovAlMoffs o s
  | .movAccMoffs os o => Sys2Proof.Machine.execMovAccMoffs os o s
  | .movMoffsAl o => Sys2Proof.Machine.execMovMoffsAl o s
  | .movMoffsAcc os o => Sys2Proof.Machine.execMovMoffsAcc os o s
  | .movR8Imm8 r b => Sys2Proof.Machine.execMovR8Imm8 r b s
  | .movRImm r v => Sys2Proof.Machine.execMovRImm r v s
  | .movRm8Imm8 rm b => Sys2Proof.Machine.execMovRm8Imm8 rm b s
  | .movRmImm rm v => Sys2Proof.Machine.execMovRmImm rm v s
  | .movRCr r c => Sys2Proof.Machine.execMovRCr r c s
  | .movCrR c r => Sys2Proof.Machine.execMovCrR c r s
  | .movRDr r d => Sys2Proof.Machine.execMovRDr r d s
  | .movDrR d r => Sys2Proof.Machine.execMovDrR d r s
  | .movRTr r t => Sys2Proof.Machine.execMovRTr r t s
  | .movTrR t r => Sys2Proof.Machine.execMovTrR t r s
  | .movsb as => Sys2Proof.Machine.execMovsb as s
  | .movsw os as => Sys2Proof.Machine.execMovsw os as s
  | .movsxRRm8 os r rm => Sys2Proof.Machine.execMovsxRRm8 os r rm s
  | .movsxR32Rm16 r rm => Sys2Proof.Machine.execMovsxR32Rm16 r rm s
  | .movzxRRm8 os r rm => Sys2Proof.Machine.execMovzxRRm8 os r rm s
  | .movzxR32Rm16 r rm => Sys2Proof.Machine.execMovzxR32Rm16 r rm s
  | .mulRm8 rm => Sys2Proof.Machine.execMulRm8 rm s
  | .mulRm os rm => Sys2Proof.Machine.execMulRm os rm s
  | .negRm8 rm => Sys2Proof.Machine.execNegRm8 rm s
  | .negRm os rm => Sys2Proof.Machine.execNegRm os rm s
  | .nop => Sys2Proof.Machine.execNop s
  | .notRm8 rm => Sys2Proof.Machine.execNotRm8 rm s
  | .notRm os rm => Sys2Proof.Machine.execNotRm os rm s
  | .outImm8Al b => Sys2Proof.Machine.execOutImm8Al b s
  | .outImm8Acc os b => Sys2Proof.Machine.execOutImm8Acc os b s
  | .outDxAl => Sys2Proof.Machine.execOutDxAl s
  | .outDxAcc os => Sys2Proof.Machine.execOutDxAcc os s
  | .outsb as => Sys2Proof.Machine.execOutsb as s
  | .outsw os as => Sys2Proof.Machine.execOutsw os as s
  | .popMem os m => Sys2Proof.Machine.execPopMem os m s
  | .popR os r => Sys2Proof.Machine.execPopR os r s
  | .popDs os => Sys2Proof.Machine.execPopDs os s
  | .popEs os => Sys2Proof.Machine.execPopEs os s
  | .popSs os => Sys2Proof.Machine.execPopSs os s
  | .popFs os => Sys2Proof.Machine.execPopFs os s
  | .popGs os => Sys2Proof.Machine.execPopGs os s
  | .popa os => Sys2Proof.Machine.execPopa os s
  | .popf os => Sys2Proof.Machine.execPopf os s
  | .pushMem os m => Sys2Proof.Machine.execPushMem os m s
  | .pushR os r => Sys2Proof.Machine.execPushR os r s
  | .pushImm8 os b => Sys2Proof.Machine.execPushImm8 os b s
  | .pushImm v => Sys2Proof.Machine.execPushImm v s
  | .pushCs os => Sys2Proof.Machine.execPushCs os s
  | .pushSs os => Sys2Proof.Machine.execPushSs os s
  | .pushDs os => Sys2Proof.Machine.execPushDs os s
  | .pushEs os => Sys2Proof.Machine.execPushEs os s
  | .pushFs os => Sys2Proof.Machine.execPushFs os s
  | .pushGs os => Sys2Proof.Machine.execPushGs os s
  | .pusha os => Sys2Proof.Machine.execPusha os s
  | .pushf os => Sys2Proof.Machine.execPushf os s
  | .rolRm8One rm => Sys2Proof.Machine.execRolRm8One rm s
  | .rolRm8Cl rm => Sys2Proof.Machine.execRolRm8Cl rm s
  | .rolRm8Imm8 rm b => Sys2Proof.Machine.execRolRm8Imm8 rm b s
  | .rolRmOne os rm => Sys2Proof.Machine.execRolRmOne os rm s
  | .rolRmCl os rm => Sys2Proof.Machine.execRolRmCl os rm s
  | .rolRmImm8 os rm b => Sys2Proof.Machine.execRolRmImm8 os rm b s
  | .rorRm8One rm => Sys2Proof.Machine.execRorRm8One rm s
  | .rorRm8Cl rm => Sys2Proof.Machine.execRorRm8Cl rm s
  | .rorRm8Imm8 rm b => Sys2Proof.Machine.execRorRm8Imm8 rm b s
  | .rorRmOne os rm => Sys2Proof.Machine.execRorRmOne os rm s
  | .rorRmCl os rm => Sys2Proof.Machine.execRorRmCl os rm s
  | .rorRmImm8 os rm b => Sys2Proof.Machine.execRorRmImm8 os rm b s
  | .rclRm8One rm => Sys2Proof.Machine.execRclRm8One rm s
  | .rclRm8Cl rm => Sys2Proof.Machine.execRclRm8Cl rm s
  | .rclRm8Imm8 rm b => Sys2Proof.Machine.execRclRm8Imm8 rm b s
  | .rclRmOne os rm => Sys2Proof.Machine.execRclRmOne os rm s
  | .rclRmCl os rm => Sys2Proof.Machine.execRclRmCl os rm s
  | .rclRmImm8 os rm b => Sys2Proof.Machine.execRclRmImm8 os rm b s
  | .rcrRm8One rm => Sys2Proof.Machine.execRcrRm8One rm s
  | .rcrRm8Cl rm => Sys2Proof.Machine.execRcrRm8Cl rm s
  | .rcrRm8Imm8 rm b => Sys2Proof.Machine.execRcrRm8Imm8 rm b s
  | .rcrRmOne os rm => Sys2Proof.Machine.execRcrRmOne os rm s
  | .rcrRmCl os rm => Sys2Proof.Machine.execRcrRmCl os rm s
  | .rcrRmImm8 os rm b => Sys2Proof.Machine.execRcrRmImm8 os rm b s
  | .salRm8One rm => Sys2Proof.Machine.execSalRm8One rm s
  | .salRm8Cl rm => Sys2Proof.Machine.execSalRm8Cl rm s
  | .salRm8Imm8 rm b => Sys2Proof.Machine.execSalRm8Imm8 rm b s
  | .salRmOne os rm => Sys2Proof.Machine.execSalRmOne os rm s
  | .salRmCl os rm => Sys2Proof.Machine.execSalRmCl os rm s
  | .salRmImm8 os rm b => Sys2Proof.Machine.execSalRmImm8 os rm b s
  | .shrRm8One rm => Sys2Proof.Machine.execShrRm8One rm s
  | .shrRm8Cl rm => Sys2Proof.Machine.execShrRm8Cl rm s
  | .shrRm8Imm8 rm b => Sys2Proof.Machine.execShrRm8Imm8 rm b s
  | .shrRmOne os rm => Sys2Proof.Machine.execShrRmOne os rm s
  | .shrRmCl os rm => Sys2Proof.Machine.execShrRmCl os rm s
  | .shrRmImm8 os rm b => Sys2Proof.Machine.execShrRmImm8 os rm b s
  | .sarRm8One rm => Sys2Proof.Machine.execSarRm8One rm s
  | .sarRm8Cl rm => Sys2Proof.Machine.execSarRm8Cl rm s
  | .sarRm8Imm8 rm b => Sys2Proof.Machine.execSarRm8Imm8 rm b s
  | .sarRmOne os rm => Sys2Proof.Machine.execSarRmOne os rm s
  | .sarRmCl os rm => Sys2Proof.Machine.execSarRmCl os rm s
  | .sarRmImm8 os rm b => Sys2Proof.Machine.execSarRmImm8 os rm b s
  | .retNear os => Sys2Proof.Machine.execRetNear os s
  | .retNearImm os w => Sys2Proof.Machine.execRetNearImm os w s
  | .retFar os => Sys2Proof.Machine.execRetFar os s
  | .retFarImm os w => Sys2Proof.Machine.execRetFarImm os w s
  | .sahf => Sys2Proof.Machine.execSahf s
  | .scasb as => Sys2Proof.Machine.execScasb as s
  | .scasw os as => Sys2Proof.Machine.execScasw os as s
  | .seto rm => Sys2Proof.Machine.execSeto rm s
  | .setno rm => Sys2Proof.Machine.execSetno rm s
  | .setb rm => Sys2Proof.Machine.execSetb rm s
  | .setae rm => Sys2Proof.Machine.execSetae rm s
  | .sete rm => Sys2Proof.Machine.execSete rm s
  | .setne rm => Sys2Proof.Machine.execSetne rm s
  | .setbe rm => Sys2Proof.Machine.execSetbe rm s
  | .seta rm => Sys2Proof.Machine.execSeta rm s
  | .sets rm => Sys2Proof.Machine.execSets rm s
  | .setns rm => Sys2Proof.Machine.execSetns rm s
  | .setp rm => Sys2Proof.Machine.execSetp rm s
  | .setnp rm => Sys2Proof.Machine.execSetnp rm s
  | .setl rm => Sys2Proof.Machine.execSetl rm s
  | .setge rm => Sys2Proof.Machine.execSetge rm s
  | .setle rm => Sys2Proof.Machine.execSetle rm s
  | .setg rm => Sys2Proof.Machine.execSetg rm s
  | .sgdt os rm => Sys2Proof.Machine.execSgdt os rm s
  | .sidt os rm => Sys2Proof.Machine.execSidt os rm s
  | .shldRmRImm8 os rm r b => Sys2Proof.Machine.execShldRmRImm8 os rm r b s
  | .shldRmRCl os rm r => Sys2Proof.Machine.execShldRmRCl os rm r s
  | .shrdRmRImm8 os rm r b => Sys2Proof.Machine.execShrdRmRImm8 os rm r b s
  | .shrdRmRCl os rm r => Sys2Proof.Machine.execShrdRmRCl os rm r s
  | .sldt rm => Sys2Proof.Machine.execSldt rm s
  | .smsw rm => Sys2Proof.Machine.execSmsw rm s
  | .stc => Sys2Proof.Machine.execStc s
  | .std => Sys2Proof.Machine.execStd s
  | .sti => Sys2Proof.Machine.execSti s
  | .stosb as => Sys2Proof.Machine.execStosb as s
  | .stosw os as => Sys2Proof.Machine.execStosw os as s
  | .str rm => Sys2Proof.Machine.execStr rm s
  | .testAlImm8 b => Sys2Proof.Machine.execTestAlImm8 b s
  | .testAccImm v => Sys2Proof.Machine.execTestAccImm v s
  | .testRm8Imm8 rm b => Sys2Proof.Machine.execTestRm8Imm8 rm b s
  | .testRmImm rm v => Sys2Proof.Machine.execTestRmImm rm v s
  | .testRm8R8 rm r => Sys2Proof.Machine.execTestRm8R8 rm r s
  | .testRmR os rm r => Sys2Proof.Machine.execTestRmR os rm r s
  | .verr rm => Sys2Proof.Machine.execVerr rm s
  | .verw rm => Sys2Proof.Machine.execVerw rm s
  | .wait => Sys2Proof.Machine.execWait s
  | .xchgAccR os r => Sys2Proof.Machine.execXchgAccR os r s
  | .xchgRm8R8 rm r => Sys2Proof.Machine.execXchgRm8R8 rm r s
  | .xchgRmR os rm r => Sys2Proof.Machine.execXchgRmR os rm r s
  | .xlat as => Sys2Proof.Machine.execXlat as s
  | .esc n => Sys2Proof.Machine.execEsc n s
  | .unassigned82 => Sys2Proof.Machine.execUnassigned82 s
  | .unassignedD6 => Sys2Proof.Machine.execUnassignedD6 s
  | .unassignedF1 => Sys2Proof.Machine.execUnassignedF1 s

end Sys2Proof.Machine
end

