-- ==== Sys2Proof/Machine/Fetch.lean ====
section
/-! DEFINITION. The instruction boundary (60_exceptions.md R520), instruction fetch (20_memory.md R96, R112), and running
one instruction with its prefixes (30_encoding.md R120, R121). -/

namespace Sys2Proof.Machine

/-! ## Instruction bytes -/

/-- The code byte of a linear address, whose translation is `a`: where the prefetch queue may hold an older one, the present
byte or an older one, unspecified which (20_memory.md R112, log entry 9). -/
def queuedByte (lin : Dword) (a : Nat) : M Byte := do
  let s ← get
  let old := (s.queue.stale.filter fun c => c.1 = lin.toNat).map (·.2)
  if old.isEmpty then return s.byte a
  else
    let u ← draw 16
    return (s.byte a :: old).getD (u.toNat % (old.length + 1)) (s.byte a)

/-- Fetch byte `i` of the instruction at EIP: the limit check against CS, then a read at the current privilege
(20_memory.md R96). -/
def fetchByte (i : Nat) : M Byte := do
  let s ← get
  if s.cs.holds (s.eip.toNat + i) 1 then
    let lin := s.linear .cs (s.eip + BitVec.ofNat 32 i)
    let a ← translate lin false s.user
    queuedByte lin a
  else raise (excGP 0#16)

/-- Fetch up to `n` bytes from byte `i` on: each byte with the state its fetch leaves, and how the fetch ends: with a byte's
own fault, or after `n` bytes with the #GP(0) of an instruction that needs more (30_encoding.md R124). The bytes an
instruction does not need cause no fault, since only a decoder that runs out of bytes looks at the end. -/
def fetchBytes : Nat → Nat → State → List (Byte × State) × Stop
  | 0, _, s => ([], .exc (excGP 0#16) s false)
  | n + 1, i, s =>
    match fetchByte i s with
    | .ok (b, t) => ((b, t) :: (fetchBytes n (i + 1) t).1, (fetchBytes n (i + 1) t).2)
    | .error e => ([], e)

/-- The offset of the byte after an instruction of `n` bytes: modulo 2^16 unless the code segment has D = 1
(10_state.md R35). -/
def State.nextOffset (s : State) (n : Nat) : Dword := truncSz s.codeSize (s.eip + BitVec.ofNat 32 n)

/-! ## One instruction -/

/-- A prefix byte: its meaning records it for the instruction that follows (30_encoding.md R121). -/
def isPrefix : Instr → Bool
  | .lockPrefix | .repnePrefix | .repPrefix | .esPrefix | .csPrefix | .ssPrefix | .dsPrefix | .fsPrefix | .gsPrefix
  | .operandSizePrefix | .addressSizePrefix => true
  | _ => false

/-- A JMP, near or far: what must follow a change of PE (70_reset_and_hazards.md R572). -/
def isJump : Instr → Bool
  | .jmpRel8 _ _ | .jmpRel _ | .jmpRm _ _ | .jmpFarPtr _ | .jmpFarMem _ _ => true
  | _ => false

/-- Run the decoded instruction `i`, whose last byte's fetch left the state `t`. -/
def runDecoded (i : Instr) (t : State) : Host.Outcome State Fault Refusal :=
  if t.queue.jumpNeeded && !isJump i then .refused .noJumpAfterModeSwitch else exec i t

/-- What happens when the bytes end inside the instruction: the fetch's fault, or #GP(0) for more than 15 bytes
(20_memory.md R96, 30_encoding.md R124). The free values the fetched bytes drew are spent; the accessed bits that the earlier
bytes set are taken back, DESIGN CHOICE, log entry 62. -/
def fetchFailed (s : State) (stop : Stop) : Host.Outcome State Fault Refusal :=
  match stop with
  | .exc e st c => takeException s e st c
  | .refuse r => .refused r

/-- The state an instruction of `n` bytes runs in: that of its last byte's fetch, with the prefixes and the next offset.
The accessed bits that the fetch set are in it, so they stay when the execution faults: DESIGN CHOICE, log entry 62. -/
def atInstr (s : State) (p : Prefixes) (bs : List (Byte × State)) (used n : Nat) : State :=
  let t := ((bs.drop (used - 1)).head?.map (·.2)).getD s
  { t with pfx := p, next := s.nextOffset n }

noncomputable section

/-- Decode and run the instruction whose bytes are `bs`, `n` prefix bytes having gone before: a prefix is recorded and
the rest decoded under it (30_encoding.md R121, R123). A fetch that fails right after a change of PE or PG is delivered,
since no instruction was read that could be other than a JMP; DEDUCED, log entry 19. A fetch that fails among the SIB and
displacement bytes of an unlisted group slot comes before its refusal; DESIGN CHOICE, log entry 48. The JMP after a change of PE
is decoded with the sizes of the new mode; DESIGN CHOICE, log entry 63. -/
def runFrom (s : State) (stop : Stop) :
    Nat → Prefixes → List (Byte × State) → Nat → Host.Outcome State Fault Refusal
  | 0, _, _, _ => fetchFailed s stop
  | fuel + 1, p, bs, n =>
    let s' := { s with pfx := p }
    match decodeOne s'.os s'.as (bs.map (·.1)) with
    | .error .unlisted => .refused .unlistedEncoding
    | .error .truncated => fetchFailed s stop
    | .ok (i, rest) =>
      let used := bs.length - rest.length
      if isPrefix i then
        match exec i s' with
        | .next t => runFrom s stop fuel t.pfx (bs.drop used) (n + used)
        | r => r
      else runDecoded i (atInstr s p bs used (n + used))

/-- Fetch and run the instruction at CS:EIP (60_exceptions.md R520 step 7). -/
def runInstruction (s : State) : Host.Outcome State Fault Refusal :=
  let f := fetchBytes Config.maxInstrLength 0 s
  runFrom s f.2 (Config.maxInstrLength + 1) Prefixes.none f.1 0

/-! ## The instruction boundary -/

/-- The single-step trap: DR6.BS is set (60_exceptions.md R545). -/
def takeTrap (s : State) : Host.Outcome State Fault Refusal :=
  takeInterrupt 1#8 { s with dr6 := s.dr6 ||| 0x4000#32, trapPending := false }

/-- An NMI is taken (60_exceptions.md R522). -/
def acceptNmi (s : State) : State := { s with nmiPending := false, nmiBlocked := true, halted := false }

/-- In shutdown: an NMI leaves it if its own delivery succeeds (60_exceptions.md R548); a delivery that fails keeps only CR2 and
the free values drawn. Log entry 43. -/
def inShutdown (s : State) : Host.Outcome State Fault Refusal :=
  if s.nmiPending && !s.nmiBlocked then
    let base := acceptNmi s
    let e : Event := { vector := 2#8, code := none, ret := base.eip, software := false, ext := true, rf := .zero }
    match deliver e { base with shutdown := false } with
    | .ok (_, t) => .next (settle t)
    | .error (.exc _ st _) => .next (rollback base st false)
    | .error (.refuse r) => .refused r
  else .next s

/-- One step: the events of the boundary in their order, then the instruction (60_exceptions.md R520). The states that
the spec says do not occur or are refused come after RESET, which leaves them. -/
def stepBoundary (s : State) : Host.Outcome State Fault Refusal :=
  if s.pins.reset then .next (State.afterReset s.mem s.pins s.ioLog s.draws)
  else if s.flags.vm && !s.cr0.pe then .fault .vmWithoutProtection
  else if breakpointsOn s.dr7 then .refused .breakpointEnable
  else if s.cr0.pg && !s.cr0.pe then .refused .pagingWithoutProtection
  else if s.shutdown then inShutdown s
  else if s.trapPending && s.inhibit ≠ .all then takeTrap s
  else if s.nmiPending && !s.nmiBlocked && s.inhibit ≠ .all then takeInterrupt 2#8 (acceptNmi s)
  else
    match s.pins.intr, s.flags.ie && s.inhibit = .none with
    | some vector, true => takeInterrupt vector s
    | _, _ =>
      if s.halted then .next { s with inhibit := .none, trapPending := false }
      else runInstruction { s with trapPending := false }

/-! ## Where the next instruction stands -/

/-- Store bytes where the instruction at EIP is fetched from. -/
def State.putCode (s : State) : Nat → List Byte → State
  | _, [] => s
  | i, b :: bs =>
    match s.fetchAddr (s.eip + BitVec.ofNat 32 i) with
    | some a => (s.setByte a b).putCode (i + 1) bs
    | none => s.putCode (i + 1) bs

/-- The bytes of a table row's word as a program holds them: with an operand-size prefix where the row is an instruction
of the other operand size only (log entry 8). -/
def programBytes (sz : Sz) (nbits w : Nat) : List Byte :=
  match decodeOne sz sz (bytesOfWord nbits w), decodeOne sz.other sz (bytesOfWord nbits w) with
  | .error _, .ok _ => 0x66#8 :: (bytesOfWord nbits w).take (Config.maxInstrLength - 1)
  | _, _ => bytesOfWord nbits w

/-- The state with an instruction's bytes where the next step fetches. -/
def State.withProgram (s : State) (nbits w : Nat) : State :=
  let t := s.putCode 0 (programBytes s.codeSize nbits w)
  { t with queue := { t.queue with stale := [] } }

end

end Sys2Proof.Machine
end

