-- ==== Sys2Proof/Machine/Step.lean ====
section
/-! DEFINITION. The step of the machine (00_scope.md R15), and the placing of one instruction for the host. -/

namespace Sys2Proof.Machine

noncomputable section

/-- One step: one event of the instruction boundary or one instruction (00_scope.md R15, 60_exceptions.md R520). -/
def step (s : State) : Host.Outcome State Fault Refusal := stepBoundary s

/-- `s` with the instruction whose bits are `w` where the next step fetches. Log entry 8. -/
def State.withFetchWord (s : State) (nbits w : Nat) : State := s.withProgram nbits w

end

end Sys2Proof.Machine
end

