-- ==== Sys2Proof/Safety.lean ====
section
/-! DEFINITION. What every state of a run is: the invariant of the machine, and a run of steps that never stops. -/

namespace Sys2Proof.Machine

/-- The invariant of the machine. Memory is in canonical form (20_memory.md R80); in Real Address Mode CPL is 0
(10_state.md R43); V86 mode exists only with PE = 1, and there CPL is 3 (00_scope.md R6, 10_state.md R43), but for a
processor that shut down in a task switch whose LDTR could not be loaded (60_exceptions.md R530, log entry 36); PG = 1 only
with PE = 1 (92_eei_decisions.md D18); CR3 holds a page address (10_state.md R47); no breakpoint is enabled in DR7
(60_exceptions.md R546). -/
structure State.Inv (s : State) : Prop where
  mem : Memory.wf s.mem = true
  real : s.cr0.pe = false → s.cpl = 0#2
  vm : s.flags.vm = true → s.cr0.pe = true ∧ (s.cpl = 3#2 ∨ s.shutdown = true)
  paging : s.cr0.pg = true → s.cr0.pe = true
  cr3 : s.cr3.extractLsb' 0 12 = 0#12
  dr7 : breakpointsOn s.dr7 = false

/-- A safe run of `n` steps: every one gives a next state. -/
def State.Safe : Nat → State → Prop
  | 0, _ => True
  | n + 1, s => ∃ t, step s = .next t ∧ State.Safe n t

end Sys2Proof.Machine
end

