-- ==== Sys2Proof/Certificates/Slice0/Obligations.lean ====
section
/-! DEFINITION. The statements for the provers, one `def Obligations.<Name> : Prop` each, after the vocabulary they share.
Unless a statement says otherwise, `begun s` is the state an instruction works on (EIP at the next instruction, the
interrupt shadow over) and `retire s t` is what it leaves when it completes in `t` (no prefix, the single-step trap
pending if TF was 1, the bytes its stores overtook in the prefetch queue): all else of `retire s t` is `t`. -/

namespace Sys2Proof.Claims

open Sys2Proof.Machine

noncomputable section

/-! ## Vocabulary -/

/-- LOCK is absent, or the form accepts it; no repeat prefix (30_encoding.md R122, 44_l.md R340). -/
def Accepts (s : State) (lockable : Bool) : Prop := (s.pfx.lock = true → lockable = true) ∧ s.pfx.rep = none

/-- The r/m operand passes its checks in the state `b` (for writing when `wr`): it is at `p`, and finding it, page-table
walk included, leaves `u`. For a register, and for memory with paging off, `u` is `b`: `Obligations.OperandPlaces`. -/
def Opens (b : State) (w : Width) (rm : Rm) (wr : Bool) (p : Place) (u : State) : Prop :=
  openRm w rm wr b = .ok (p, u)

/-- The value at a place. -/
def at' (u : State) (w : Width) : Place → BitVec w.bits
  | .reg r => u.reg w r
  | .mem as => leValue _ (as.map u.byte)

/-- The state with the value at a place replaced. -/
def put (u : State) (w : Width) (p : Place) (v : BitVec w.bits) : State :=
  match p with
  | .reg r => u.setReg w r v
  | .mem as => u.setBytes as (leBytes w.bytes v)

/-- The addresses of the bytes of a place: none for a register. -/
def bytesOf : Place → List Nat
  | .reg _ => []
  | .mem as => as

/-- The `n`-th free value of a run from `u` on, as `k` bits. -/
def free (u : State) (n k : Nat) : BitVec k := (Config.freeWord (u.draws + n)).setWidth k

/-- The state with other flags and `n` more free values drawn. -/
def withFlags (u : State) (n : Nat) (f : Flags) : State := { u with flags := f, draws := u.draws + n }

/-- Finding operands changes nothing but memory (accessed and dirty bits) and the count of free values; with paging off
nothing but the count of free values, for an address the spec leaves undefined (30_encoding.md R133). -/
structure Found (b u : State) : Prop where
  same : u = { b with mem := u.mem, draws := u.draws }
  off : b.cr0.pg = false → u = { b with draws := u.draws }

/-- The instruction completes: the next state is `t` with RF cleared, retired; from the state `u` in which its operands were
found to `t` no byte of memory changes but those at the addresses `stored`; and `u` is the state the instruction began
with, but for what finding the operands changed. -/
def Completes (i : Instr) (s u t : State) (stored : List Nat) : Prop :=
  exec i s = .next (retire s { t with flags := { t.flags with rf := false } }) ∧
  (∀ a, a ∉ stored → t.byte a = u.byte a) ∧ Found (begun s) u

/-! ## Arithmetic and logic -/

/-- `op` r/m8,r8. -/
def aluRm8R8 (op : AluOp) (rm : Rm) (r : Reg) : Instr :=
  match op with
  | .add => .addRm8R8 rm r
  | .or => .orRm8R8 rm r
  | .adc => .adcRm8R8 rm r
  | .sbb => .sbbRm8R8 rm r
  | .and => .andRm8R8 rm r
  | .sub => .subRm8R8 rm r
  | .xor => .xorRm8R8 rm r
  | .cmp => .cmpRm8R8 rm r

/-- `op` r/m16,r16 and r/m32,r32. -/
def aluRmR (op : AluOp) (os : Sz) (rm : Rm) (r : Reg) : Instr :=
  match op with
  | .add => .addRmR os rm r
  | .or => .orRmR os rm r
  | .adc => .adcRmR os rm r
  | .sbb => .sbbRmR os rm r
  | .and => .andRmR os rm r
  | .sub => .subRmR os rm r
  | .xor => .xorRmR os rm r
  | .cmp => .cmpRmR os rm r

/-- `op` r8,r/m8. -/
def aluR8Rm8 (op : AluOp) (r : Reg) (rm : Rm) : Instr :=
  match op with
  | .add => .addR8Rm8 r rm
  | .or => .orR8Rm8 r rm
  | .adc => .adcR8Rm8 r rm
  | .sbb => .sbbR8Rm8 r rm
  | .and => .andR8Rm8 r rm
  | .sub => .subR8Rm8 r rm
  | .xor => .xorR8Rm8 r rm
  | .cmp => .cmpR8Rm8 r rm

/-- `op` r16,r/m16 and r32,r/m32. -/
def aluRRm (op : AluOp) (os : Sz) (r : Reg) (rm : Rm) : Instr :=
  match op with
  | .add => .addRRm os r rm
  | .or => .orRRm os r rm
  | .adc => .adcRRm os r rm
  | .sbb => .sbbRRm os r rm
  | .and => .andRRm os r rm
  | .sub => .subRRm os r rm
  | .xor => .xorRRm os r rm
  | .cmp => .cmpRRm os r rm

/-- `op` AL,imm8. -/
def aluAlImm8 (op : AluOp) (b : Byte) : Instr :=
  match op with
  | .add => .addAlImm8 b
  | .or => .orAlImm8 b
  | .adc => .adcAlImm8 b
  | .sbb => .sbbAlImm8 b
  | .and => .andAlImm8 b
  | .sub => .subAlImm8 b
  | .xor => .xorAlImm8 b
  | .cmp => .cmpAlImm8 b

/-- `op` AX,imm16 and EAX,imm32. -/
def aluAccImm (op : AluOp) (v : Imm) : Instr :=
  match op with
  | .add => .addAccImm v
  | .or => .orAccImm v
  | .adc => .adcAccImm v
  | .sbb => .sbbAccImm v
  | .and => .andAccImm v
  | .sub => .subAccImm v
  | .xor => .xorAccImm v
  | .cmp => .cmpAccImm v

/-- `op` r/m8,imm8. -/
def aluRm8Imm8 (op : AluOp) (rm : Rm) (b : Byte) : Instr :=
  match op with
  | .add => .addRm8Imm8 rm b
  | .or => .orRm8Imm8 rm b
  | .adc => .adcRm8Imm8 rm b
  | .sbb => .sbbRm8Imm8 rm b
  | .and => .andRm8Imm8 rm b
  | .sub => .subRm8Imm8 rm b
  | .xor => .xorRm8Imm8 rm b
  | .cmp => .cmpRm8Imm8 rm b

/-- `op` r/m16,imm16 and r/m32,imm32. -/
def aluRmImm (op : AluOp) (rm : Rm) (v : Imm) : Instr :=
  match op with
  | .add => .addRmImm rm v
  | .or => .orRmImm rm v
  | .adc => .adcRmImm rm v
  | .sbb => .sbbRmImm rm v
  | .and => .andRmImm rm v
  | .sub => .subRmImm rm v
  | .xor => .xorRmImm rm v
  | .cmp => .cmpRmImm rm v

/-- `op` r/m16,imm8 and r/m32,imm8. -/
def aluRmImm8 (op : AluOp) (os : Sz) (rm : Rm) (b : Byte) : Instr :=
  match op with
  | .add => .addRmImm8 os rm b
  | .or => .orRmImm8 os rm b
  | .adc => .adcRmImm8 os rm b
  | .sbb => .sbbRmImm8 os rm b
  | .and => .andRmImm8 os rm b
  | .sub => .subRmImm8 os rm b
  | .xor => .xorRmImm8 os rm b
  | .cmp => .cmpRmImm8 os rm b

/-- The result of an operation on DEST = `a` and SRC = `b` with CF = `c`, modulo 2^n. -/
def aluValue {n : Nat} (op : AluOp) (a b : BitVec n) (c : Bool) : BitVec n :=
  match op with
  | .add => a + b
  | .adc => a + b + BitVec.ofNat n c.toNat
  | .sub | .cmp => a - b
  | .sbb => a - b - BitVec.ofNat n c.toNat
  | .and => a &&& b
  | .or => a ||| b
  | .xor => a ^^^ b

/-- What an operation leaves of the flags: those of the sum or the difference (10_state.md R37,
`Obligations.SumAndDifferenceFlags`); for AND, OR, XOR: CF = OF = 0, SF, ZF and PF from the result and AF a free value. -/
def aluState {n : Nat} (op : AluOp) (a b : BitVec n) (u : State) : State :=
  match op with
  | .add => withFlags u 0 (addFlags a b false u.flags)
  | .adc => withFlags u 0 (addFlags a b u.flags.cf u.flags)
  | .sub | .cmp => withFlags u 0 (subFlags a b false u.flags)
  | .sbb => withFlags u 0 (subFlags a b u.flags.cf u.flags)
  | .and | .or | .xor =>
    withFlags u 1
      { u.flags with
        cf := false, ov := false, af := (free u 0 1).getLsbD 0
        zf := decide (aluValue op a b u.flags.cf = 0#n)
        sf := (aluValue op a b u.flags.cf).msb, pf := parity (aluValue op a b u.flags.cf) }

/-- The effect of an operation on the destination `p` with the source `b`: CMP changes flags only. -/
def aluEffect (w : Width) (op : AluOp) (p : Place) (b : BitVec w.bits) (u : State) : State :=
  let a := at' u w p
  if op = .cmp then aluState op a b u else put (aluState op a b u) w p (aluValue op a b u.flags.cf)

/-- Where an operation stores: nowhere for CMP. -/
def aluStored (op : AluOp) (p : Place) : List Nat := if op = .cmp then [] else bytesOf p

/-- A form with an r/m destination, which it opens for writing unless it is CMP, and the source `b`. -/
def AluToRm (i : Instr) (w : Width) (op : AluOp) (rm : Rm) (b : State → BitVec w.bits) : Prop :=
  ∀ s p u, Accepts s (isMem rm && decide (op ≠ .cmp)) → Opens (begun s) w rm (decide (op ≠ .cmp)) p u →
    Completes i s u (aluEffect w op p (b s) u) (aluStored op p)

/-- A form with a general register as destination and an r/m source. -/
def AluFromRm (i : Instr) (w : Width) (op : AluOp) (r : Reg) (rm : Rm) : Prop :=
  ∀ s p u, Accepts s false → Opens (begun s) w rm false p u →
    Completes i s u (aluEffect w op (.reg r) (at' u w p) u) []

/-- A form with the accumulator and an immediate. -/
def AluAcc (i : Instr) (w : Width) (op : AluOp) (b : BitVec w.bits) : Prop :=
  ∀ s, Accepts s false → Completes i s (begun s) (aluEffect w op (.reg .ax) b (begun s)) []

/-! ## One operand -/

/-- INC, DEC, NEG, NOT. -/
inductive UnaryOp where
  | inc | dec | neg | not

/-- `op` r/m8. -/
def unaryRm8 (op : UnaryOp) (rm : Rm) : Instr :=
  match op with
  | .inc => .incRm8 rm
  | .dec => .decRm8 rm
  | .neg => .negRm8 rm
  | .not => .notRm8 rm

/-- `op` r/m16 and r/m32. -/
def unaryRmSz (op : UnaryOp) (os : Sz) (rm : Rm) : Instr :=
  match op with
  | .inc => .incRm os rm
  | .dec => .decRm os rm
  | .neg => .negRm os rm
  | .not => .notRm os rm

/-- The result, modulo 2^n. -/
def unaryValue {n : Nat} (op : UnaryOp) (a : BitVec n) : BitVec n :=
  match op with
  | .inc => a + 1#n
  | .dec => a - 1#n
  | .neg => -a
  | .not => ~~~a

/-- INC and DEC leave CF, NEG subtracts from 0, NOT leaves every flag. -/
def unaryFlags {n : Nat} (op : UnaryOp) (a : BitVec n) (f : Flags) : Flags :=
  match op with
  | .inc => { addFlags a 1#n false f with cf := f.cf }
  | .dec => { subFlags a 1#n false f with cf := f.cf }
  | .neg => subFlags 0#n a false f
  | .not => f

/-- The effect of one of them on the operand at `p`. -/
def unaryEffect (w : Width) (op : UnaryOp) (p : Place) (u : State) : State :=
  put (withFlags u 0 (unaryFlags op (at' u w p) u.flags)) w p (unaryValue op (at' u w p))

/-! ## Multiplication and division -/

/-- The accumulator pair: `lo` to AL, AX or EAX and `hi` to AH, DX or EDX. -/
def putPair (u : State) (w : Width) (hi lo : BitVec w.bits) : State :=
  match w, hi, lo with
  | .b8, hi, lo => (u.setReg .b8 .ax lo).setReg .b8 .sp hi
  | .b16, hi, lo => (u.setReg .b16 .ax lo).setReg .b16 .dx hi
  | .b32, hi, lo => (u.setReg .b32 .ax lo).setReg .b32 .dx hi

/-- The flags of a multiplication: CF and OF tell whether the upper half is significant; SF, ZF, AF and PF are free. -/
def mulState (u : State) (high : Bool) : State :=
  withFlags u 1
    (undefFlags { sf := true, zf := true, af := true, pf := true } (free u 0 6) { u.flags with cf := high, ov := high })

/-- MUL: the unsigned product of the accumulator and `b`. -/
def mulEffect (w : Width) (b : BitVec w.bits) (u : State) : State :=
  let product := (u.reg w .ax).toNat * b.toNat
  mulState (putPair u w (BitVec.ofNat _ (product / 2 ^ w.bits)) (BitVec.ofNat _ product)) (decide (2 ^ w.bits ≤ product))

/-- IMUL with one operand: the signed product of the accumulator and `b`, in the pair. CF and OF are 0 exactly when the
product is the sign extension of its lower half. -/
def imulEffect (w : Width) (b : BitVec w.bits) (u : State) : State :=
  let product := (u.reg w .ax).toInt * b.toInt
  mulState (putPair u w (BitVec.ofInt _ (product / 2 ^ w.bits)) (BitVec.ofInt _ product))
    (decide (product ≠ (BitVec.ofInt w.bits product).toInt))

/-- IMUL into a register: the lower half of the signed product of `a` and `b`. -/
def imulToEffect (w : Width) (r : Reg) (a b : BitVec w.bits) (u : State) : State :=
  let product := a.toInt * b.toInt
  mulState (u.setReg w r (BitVec.ofInt _ product)) (decide (product ≠ (BitVec.ofInt w.bits product).toInt))

/-- AX, DX:AX or EDX:EAX. -/
def dividend (u : State) (w : Width) : BitVec (w.bits + w.bits) :=
  match w with
  | .b8 => u.reg .b16 .ax
  | .b16 => u.reg .b16 .dx ++ u.reg .b16 .ax
  | .b32 => u.reg .b32 .dx ++ u.reg .b32 .ax

/-- DIV can deliver its quotient: the divisor is not 0 and the quotient fits. -/
def divFits (u : State) (w : Width) (b : BitVec w.bits) : Prop :=
  b ≠ 0#w.bits ∧ (dividend u w).toNat / b.toNat < 2 ^ w.bits

/-- IDIV can deliver its quotient: the divisor is not 0 and the quotient, rounded toward 0, fits. -/
def idivFits (u : State) (w : Width) (b : BitVec w.bits) : Prop :=
  b ≠ 0#w.bits ∧ -(2 ^ (w.bits - 1)) ≤ (dividend u w).toInt.tdiv b.toInt ∧
    (dividend u w).toInt.tdiv b.toInt < 2 ^ (w.bits - 1)

/-- DIV: quotient to AL, AX or EAX, remainder to AH, DX or EDX; the six status flags are free. -/
def divEffect (w : Width) (b : BitVec w.bits) (u : State) : State :=
  let v := putPair u w (BitVec.ofNat _ ((dividend u w).toNat % b.toNat)) (BitVec.ofNat _ ((dividend u w).toNat / b.toNat))
  withFlags v 1 (undefFlags UndefMask.all (free u 0 6) u.flags)

/-- IDIV: the same, signed, the quotient rounded toward 0. -/
def idivEffect (w : Width) (b : BitVec w.bits) (u : State) : State :=
  let v := putPair u w (BitVec.ofInt _ ((dividend u w).toInt.tmod b.toInt)) (BitVec.ofInt _ ((dividend u w).toInt.tdiv b.toInt))
  withFlags v 1 (undefFlags UndefMask.all (free u 0 6) u.flags)

/-- A form with one r/m operand that it only reads, and the effect its value has. -/
def ReadsRm (i : Instr) (w : Width) (rm : Rm) (ok : State → BitVec w.bits → Prop)
    (effect : BitVec w.bits → State → State) : Prop :=
  ∀ s p u, Accepts s false → Opens (begun s) w rm false p u → ok u (at' u w p) →
    Completes i s u (effect (at' u w p) u) []

/-! ## Decimal adjustment -/

/-- AAA with `d` = 6, `h` = 1; AAS with `d` = -6, `h` = -1. -/
def asciiEffect (d h : Byte) (u : State) : State :=
  let adjust := decide (9 < (u.reg .b8 .ax).toNat % 16) || u.flags.af
  let v := if adjust
    then (u.setReg .b8 .ax ((u.reg .b8 .ax + d) &&& 0x0F#8)).setReg .b8 .sp (u.reg .b8 .sp + h)
    else u.setReg .b8 .ax (u.reg .b8 .ax &&& 0x0F#8)
  withFlags v 1
    (undefFlags { ov := true, sf := true, zf := true, pf := true } (free u 0 6) { u.flags with af := adjust, cf := adjust })

/-- DAA with `d` = 6, `h` = 60H; DAS with `d` = -6, `h` = -60H: the second test sees what the first step left in AL. -/
def decimalEffect (d h : Byte) (u : State) : State :=
  let low := decide (9 < (u.reg .b8 .ax).toNat % 16) || u.flags.af
  let al := if low then u.reg .b8 .ax + d else u.reg .b8 .ax
  let high := decide (0x9F < al.toNat) || u.flags.cf
  let r := if high then al + h else al
  withFlags (u.setReg .b8 .ax r) 1
    (undefFlags { ov := true } (free u 0 6) { szpFlags r u.flags with af := low, cf := high })

/-- AAD: AL becomes AH * 10 + AL, AH becomes 0. -/
def aadEffect (u : State) : State :=
  let r := u.reg .b8 .sp * 10#8 + u.reg .b8 .ax
  withFlags ((u.setReg .b8 .ax r).setReg .b8 .sp 0#8) 1
    (undefFlags { ov := true, af := true, cf := true } (free u 0 6) (szpFlags r u.flags))

/-- AAM: AL is divided by 10, quotient to AH, remainder to AL. -/
def aamEffect (u : State) : State :=
  let r := u.reg .b8 .ax % 10#8
  withFlags ((u.setReg .b8 .sp (u.reg .b8 .ax / 10#8)).setReg .b8 .ax r) 1
    (undefFlags { ov := true, af := true, cf := true } (free u 0 6) (szpFlags r u.flags))

/-- A form without operands, with its effect. -/
def Plain (i : Instr) (effect : State → State) : Prop :=
  ∀ s, Accepts s false → Completes i s (begun s) (effect (begun s)) []

/-! ## Rotates and shifts -/

/-- `op` r/m8,1. -/
def shiftRm8One (op : ShiftOp) (rm : Rm) : Instr :=
  match op with
  | .rol => .rolRm8One rm
  | .ror => .rorRm8One rm
  | .rcl => .rclRm8One rm
  | .rcr => .rcrRm8One rm
  | .sal => .salRm8One rm
  | .shr => .shrRm8One rm
  | .sar => .sarRm8One rm

/-- `op` r/m8,CL. -/
def shiftRm8ByCl (op : ShiftOp) (rm : Rm) : Instr :=
  match op with
  | .rol => .rolRm8Cl rm
  | .ror => .rorRm8Cl rm
  | .rcl => .rclRm8Cl rm
  | .rcr => .rcrRm8Cl rm
  | .sal => .salRm8Cl rm
  | .shr => .shrRm8Cl rm
  | .sar => .sarRm8Cl rm

/-- `op` r/m8,imm8. -/
def shiftRm8Imm8 (op : ShiftOp) (rm : Rm) (b : Byte) : Instr :=
  match op with
  | .rol => .rolRm8Imm8 rm b
  | .ror => .rorRm8Imm8 rm b
  | .rcl => .rclRm8Imm8 rm b
  | .rcr => .rcrRm8Imm8 rm b
  | .sal => .salRm8Imm8 rm b
  | .shr => .shrRm8Imm8 rm b
  | .sar => .sarRm8Imm8 rm b

/-- `op` r/m16,1 and r/m32,1. -/
def shiftRmOne (op : ShiftOp) (os : Sz) (rm : Rm) : Instr :=
  match op with
  | .rol => .rolRmOne os rm
  | .ror => .rorRmOne os rm
  | .rcl => .rclRmOne os rm
  | .rcr => .rcrRmOne os rm
  | .sal => .salRmOne os rm
  | .shr => .shrRmOne os rm
  | .sar => .sarRmOne os rm

/-- `op` r/m16,CL and r/m32,CL. -/
def shiftRmByCl (op : ShiftOp) (os : Sz) (rm : Rm) : Instr :=
  match op with
  | .rol => .rolRmCl os rm
  | .ror => .rorRmCl os rm
  | .rcl => .rclRmCl os rm
  | .rcr => .rcrRmCl os rm
  | .sal => .salRmCl os rm
  | .shr => .shrRmCl os rm
  | .sar => .sarRmCl os rm

/-- `op` r/m16,imm8 and r/m32,imm8. -/
def shiftRmImm8 (op : ShiftOp) (os : Sz) (rm : Rm) (b : Byte) : Instr :=
  match op with
  | .rol => .rolRmImm8 os rm b
  | .ror => .rorRmImm8 os rm b
  | .rcl => .rclRmImm8 os rm b
  | .rcr => .rcrRmImm8 os rm b
  | .sal => .salRmImm8 os rm b
  | .shr => .shrRmImm8 os rm b
  | .sar => .sarRmImm8 os rm b

/-- CF above an operand of n bits: what RCL and RCR rotate, n + 1 bits. -/
def withCarry {n : Nat} (a : BitVec n) (cf : Bool) : BitVec (n + 1) := BitVec.cons cf a

/-- The operand rotated or shifted by `c` bits (47_r.md R411 to R414, 48_s.md R442 to R444). -/
def shiftValue {n : Nat} (op : ShiftOp) (c : Nat) (a : BitVec n) (cf : Bool) : BitVec n :=
  match op with
  | .rol => a.rotateLeft c
  | .ror => a.rotateRight c
  | .rcl => ((withCarry a cf).rotateLeft c).setWidth n
  | .rcr => ((withCarry a cf).rotateRight c).setWidth n
  | .sal => BitVec.ofNat n (a.toNat * 2 ^ c)
  | .shr => BitVec.ofNat n (a.toNat / 2 ^ c)
  | .sar => BitVec.ofInt n (a.toInt / 2 ^ c)

/-- CF after `c` > 0 single steps: for ROL the new bit 0 and for ROR the new top bit; for RCL and RCR what stands in CF's
place; for SAL the bit of the product just above the operand; for SHR and SAR the bit just below the quotient. -/
def shiftOut {n : Nat} (op : ShiftOp) (c : Nat) (a : BitVec n) (cf : Bool) : Bool :=
  match op with
  | .rol => (shiftValue .rol c a cf).getLsbD 0
  | .ror => (shiftValue .ror c a cf).msb
  | .rcl => ((withCarry a cf).rotateLeft c).msb
  | .rcr => ((withCarry a cf).rotateRight c).msb
  | .sal => (a.toNat * 2 ^ c).testBit n
  | .shr => decide (a.toNat / 2 ^ (c - 1) % 2 = 1)
  | .sar => decide (a.toInt / 2 ^ (c - 1) % 2 = 1)

/-- OF of a rotate or shift by 1, from the operand `a`, the result `r` and the new CF (47_r.md R410, 48_s.md R442 to
R444). -/
def shiftOneOv {n : Nat} (op : ShiftOp) (a r : BitVec n) (cf : Bool) : Bool :=
  match op with
  | .rol | .rcl | .sal => r.msb ^^ cf
  | .ror | .rcr => r.msb ^^ r.getLsbD (n - 2)
  | .shr => a.msb
  | .sar => false

/-- The flags after a rotate or shift of `a` by `c`. OF is defined for a count of 1 only and free for any other, 0 included; a
count of 0 leaves the other flags; a rotate leaves SF, ZF, AF, PF; a shift leaves AF free. -/
def shiftedFlags {n : Nat} (op : ShiftOp) (c : Nat) (a : BitVec n) (uo ua : Bool) (f : Flags) : Flags :=
  let r := shiftValue op c a f.cf
  let cf := shiftOut op c a f.cf
  let g := { f with ov := if c = 1 then shiftOneOv op a r cf else uo }
  if c = 0 then g
  else match op with
    | .rol | .ror | .rcl | .rcr => { g with cf := cf }
    | .sal | .shr | .sar => { szpFlags r g with cf := cf, af := ua }

/-- The effect of a rotate or shift by `c` on the operand at `p`; by 0 it stores the value the operand had. -/
def shiftEffect (w : Width) (op : ShiftOp) (c : Nat) (p : Place) (u : State) : State :=
  let a := at' u w p
  put (withFlags u 1 (shiftedFlags op c a ((free u 0 2).getLsbD 0) ((free u 0 2).getLsbD 1) u.flags)) w p
    (shiftValue op c a u.flags.cf)

/-- A form of a rotate or shift on an r/m operand, opened for writing whatever the count is; the count is the low five bits of
`count`. -/
def Shifts (i : Instr) (w : Width) (op : ShiftOp) (rm : Rm) (count : State → Byte) : Prop :=
  ∀ s p u, Accepts s false → Opens (begun s) w rm true p u →
    Completes i s u (shiftEffect w op ((count s).toNat % 32) p u) (bytesOf p)

/-! ## Double shifts -/

/-- The bits a double shift by 0 < `c` < n leaves in the operand: those of `a` followed by `b` (left), of `b` followed by `a`
(right), as one number of 2n bits. -/
def doubleValue {n : Nat} (left : Bool) (c : Nat) (a b : BitVec n) : BitVec n :=
  if left then ((a ++ b) <<< c).extractLsb' n n else ((b ++ a) >>> c).extractLsb' 0 n

/-- The last bit a double shift moves out of the operand. -/
def doubleOut {n : Nat} (left : Bool) (c : Nat) (a : BitVec n) : Bool :=
  if left then a.getLsbD (n - c) else a.getLsbD (c - 1)

/-- The effect of a double shift by `c` that moves in bits of `b`: nothing for 0; for n or more, which only the 16-bit forms
can have, the operand and the six flags are free; else CF, SF, ZF, PF are defined and OF and AF free. -/
def doubleEffect (w : Width) (left : Bool) (c : Nat) (b : BitVec w.bits) (p : Place) (u : State) : State :=
  let a := at' u w p
  if c = 0 then put u w p a
  else if w.bits ≤ c then
    put (withFlags u 2 (undefFlags UndefMask.all (free u 1 6) u.flags)) w p (free u 0 _)
  else
    let r := doubleValue left c a b
    put
      (withFlags u 1
        (undefFlags { ov := true, af := true } (free u 0 6) { szpFlags r u.flags with cf := doubleOut left c a }))
      w p r

/-- A double shift on an r/m operand: the count is the low five bits of `count`, the other operand register `r`. -/
def DoubleShifts (i : Instr) (os : Sz) (left : Bool) (rm : Rm) (r : Reg) (count : State → Byte) : Prop :=
  ∀ s p u, Accepts s false → Opens (begun s) os.width rm true p u →
    Completes i s u (doubleEffect os.width left ((count s).toNat % 32) (s.reg os.width r) p u) (bytesOf p)

/-! ## Bits -/

/-- `op` r/m,r. -/
def bitRmR (op : BitOp) (os : Sz) (rm : Rm) (r : Reg) : Instr :=
  match op with
  | .test => .btRmR os rm r
  | .complement => .btcRmR os rm r
  | .reset => .btrRmR os rm r
  | .set => .btsRmR os rm r

/-- `op` r/m,imm8. -/
def bitRmImm8 (op : BitOp) (os : Sz) (rm : Rm) (b : Byte) : Instr :=
  match op with
  | .test => .btRmImm8 os rm b
  | .complement => .btcRmImm8 os rm b
  | .reset => .btrRmImm8 os rm b
  | .set => .btsRmImm8 os rm b

/-- The operand with bit `i` left, complemented, cleared or set. -/
def bitValue {n : Nat} (op : BitOp) (a : BitVec n) (i : Nat) : BitVec n :=
  match op with
  | .test => a
  | .complement => a ^^^ 1#n <<< i
  | .reset => a &&& ~~~(1#n <<< i)
  | .set => a ||| 1#n <<< i

/-- The effect on bit `i` of the operand at `p`: CF takes the bit's old value, the other five status flags are free; BT stores
nothing. -/
def bitEffect (w : Width) (op : BitOp) (p : Place) (i : Nat) (u : State) : State :=
  let a := at' u w p
  let v := withFlags u 1
    (undefFlags { ov := true, sf := true, zf := true, af := true, pf := true } (free u 0 6)
      { u.flags with cf := a.getLsbD i })
  if op = .test then v else put v w p (bitValue op a i)

/-- Where a bit instruction stores. -/
def bitStored (op : BitOp) (p : Place) : List Nat := if op = .test then [] else bytesOf p

/-- The memory operand `m` is the offset `off` in the segment of `seg`; finding that leaves `v`
(`Obligations.EffectiveAddresses`). -/
def Addressed (b : State) (m : Mem) (seg : Sreg) (off : Dword) (v : State) : Prop := resolve m b = .ok ((seg, off), v)

/-- The `n` bytes at `off` in the segment of `seg` pass their checks (for writing when `wr`): they are at the physical
addresses `as`, and finding them leaves `u` (`Obligations.OperandPlaces`). -/
def OpensMem (b : State) (seg : Sreg) (off : Dword) (n : Nat) (wr : Bool) (as : List Nat) (u : State) : Prop :=
  openMem seg off n wr b = .ok (as, u)

/-- They fail them with `e`; finding that leaves `u` (`Obligations.OperandPlaces`, `Obligations.PagedTranslation`). -/
def FailsMem (b : State) (seg : Sreg) (off : Dword) (n : Nat) (wr : Bool) (e : Exc) (u : State) : Prop :=
  openMem seg off n wr b = .error (.exc e u false)

/-- The first `k` bytes of the operand at `off` and then the `n` after them pass their checks for reading, one part after the
other: their contents are `lo` and `hi`, and reading them leaves `u` (`Obligations.OperandPlaces`). -/
def ReadsParts (b : State) (seg : Sreg) (off : Dword) (k n : Nat) (lo hi : List Byte) (u : State) : Prop :=
  ∃ as v as', OpensMem b seg off k false as v ∧ openTail seg off k n false v = .ok (as', u) ∧
    lo = as.map v.byte ∧ hi = as'.map u.byte

/-- The effect of a bit scan on `r` when the operand is not 0: the index found. -/
def scanEffect (w : Width) (r : Reg) (i : Nat) (u : State) : State :=
  withFlags (u.setReg w r (BitVec.ofNat _ i)) 1
    (undefFlags { ov := true, sf := true, af := true, pf := true, cf := true } (free u 0 6) { u.flags with zf := false })

/-- The effect of a bit scan on `r` when the operand is 0: ZF is 1 and the register is free. -/
def scanZeroEffect (w : Width) (r : Reg) (u : State) : State :=
  withFlags (u.setReg w r (free u 0 _)) 2
    (undefFlags { ov := true, sf := true, af := true, pf := true, cf := true } (free u 1 6) { u.flags with zf := true })

/-! ## Data movement -/

/-- SETcc. -/
def setcc (c : Cond) (rm : Rm) : Instr :=
  match c with
  | .o => .seto rm
  | .no => .setno rm
  | .b => .setb rm
  | .ae => .setae rm
  | .e => .sete rm
  | .ne => .setne rm
  | .be => .setbe rm
  | .a => .seta rm
  | .s => .sets rm
  | .ns => .setns rm
  | .p => .setp rm
  | .np => .setnp rm
  | .l => .setl rm
  | .ge => .setge rm
  | .le => .setle rm
  | .g => .setg rm

/-- A form that stores the value `v` in an r/m operand. -/
def StoresRm (i : Instr) (w : Width) (rm : Rm) (v : State → BitVec w.bits) : Prop :=
  ∀ s p u, Accepts s false → Opens (begun s) w rm true p u → Completes i s u (put u w p (v s)) (bytesOf p)

/-- A form that exchanges an r/m operand with a register. -/
def Exchanges (i : Instr) (w : Width) (rm : Rm) (r : Reg) : Prop :=
  ∀ s p u, Accepts s (isMem rm) → Opens (begun s) w rm true p u →
    Completes i s u ((put u w p (u.reg w r)).setReg w r (at' u w p)) (bytesOf p)

/-- AH after LAHF: SF ZF 0 AF 0 PF 1 CF. -/
def lahfByte (f : Flags) : Byte :=
  BitVec.ofBool f.sf ++ BitVec.ofBool f.zf ++ 0#1 ++ BitVec.ofBool f.af ++ 0#1 ++ BitVec.ofBool f.pf ++ 1#1
    ++ BitVec.ofBool f.cf

/-- An exception taken from the state before the instruction, but for the free values its operands used. -/
def Takes (i : Instr) (s u : State) (e : Exc) : Prop := exec i s = takeFault e { s with draws := u.draws }

/-- An exception that finding an operand raised in the state `u`: taken from the state before the instruction, but for CR2 and
the free values used. -/
def Raises (i : Instr) (s u : State) (e : Exc) : Prop := exec i s = takeFault e { s with cr2 := u.cr2, draws := u.draws }

/-! ## The stack -/

/-- The physical addresses of `n` consecutive bytes with paging off. -/
def span (lin : Dword) (n : Nat) : List Nat := (List.range n).map fun i => (lin + BitVec.ofNat 32 i).toNat

/-- The offset of the `k`-th element of `sz` bits below the top of the stack. -/
def below (b : State) (sz : Sz) (k : Nat) : Dword := truncSz b.ssSize (b.sp - BitVec.ofNat 32 (sz.bytes * k))

/-- A push of `v`, its bytes at the addresses `as`. -/
def pushed (u : State) (sz : Sz) (as : List Nat) (v : Dword) : State :=
  (u.setBytes as (leBytes sz.bytes v)).setSp (below u sz 1)

/-- The addresses of the `k`-th element below the top, paging off. -/
def slot (b : State) (sz : Sz) (k : Nat) : List Nat := span (b.linear .ss (below b sz k)) sz.bytes

/-- The addresses of the `k` elements below the top, paging off. -/
def slots (b : State) (sz : Sz) (k : Nat) : List Nat := (List.range k).flatMap fun i => slot b sz (i + 1)

/-- Each of `k` pushes passes its checks. -/
def Room (b : State) (sz : Sz) (k : Nat) : Prop :=
  ∀ i, i < k → b.accessExc .ss (below b sz (i + 1)) sz.bytes true = none

/-- The first `k` elements below the top pass their write checks, one after the other and before any is written: `ps` are
their addresses, and checking them leaves `u` (`Obligations.OperandPlaces`, `Obligations.PagedTranslation`). -/
def OpensBelow (b : State) (sz : Sz) : Nat → List (List Nat) → State → Prop
  | 0, ps, u => ps = [] ∧ u = b
  | k + 1, ps, u => ∃ qs v as, OpensBelow b sz k qs v ∧ OpensMem v .ss (below b sz (k + 1)) sz.bytes true as u ∧
      ps = qs ++ [as]

/-- The values stored at those places, in order. -/
def storedBelow (u : State) (sz : Sz) (ps : List (List Nat)) (vs : List Dword) : State :=
  (ps.zip vs).foldl (fun t p => t.setBytes p.1 (leBytes sz.bytes p.2)) u

/-- The state after pushing a list of values, paging off. -/
def pushList (u : State) (sz : Sz) : List Dword → State
  | [] => u
  | v :: vs => pushList (pushed u sz (slot u sz 1) v) sz vs

/-- The registers PUSHA pushes, in order. -/
def pushedRegs (s : State) : List Dword :=
  let g := s.regs
  [g.eax, g.ecx, g.edx, g.ebx, g.esp, g.ebp, g.esi, g.edi]

/-- The same as `Completes`, where the instruction has already changed the state to `b` when it finds its last operand. -/
def CompletesFrom (b : State) (i : Instr) (s u t : State) (stored : List Nat) : Prop :=
  exec i s = .next (retire s { t with flags := { t.flags with rf := false } }) ∧
  (∀ a, a ∉ stored → t.byte a = u.byte a) ∧ Found b u

/-- A form that pushes one value, or raises the exception of the stack access: `n` free values go into it. -/
def PushesOne (i : Instr) (sz : Sz) (ok : State → Prop) (n : Nat) (v : State → Dword) : Prop :=
  ∀ s, Accepts s false → ok s →
    let b := withFlags (begun s) n s.flags
    (∀ as u, OpensMem b .ss (below s sz 1) sz.bytes true as u → CompletesFrom b i s u (pushed u sz as (v s)) as) ∧
    (∀ e u, FailsMem b .ss (below s sz 1) sz.bytes true e u → Raises i s u e)

/-- A segment register's selector as a stack element: the upper half of a 32-bit one is free. -/
def selElement (sz : Sz) (sel : Word) (u : State) (n : Nat) : Dword :=
  match sz with
  | .s16 => sel.setWidth 32
  | .s32 => (free u n 16 : BitVec 16) ++ sel

/-- PUSH of a segment register. -/
def pushSregInstr (os : Sz) : Sreg → Instr
  | .cs => .pushCs os
  | .ss => .pushSs os
  | .ds => .pushDs os
  | .es => .pushEs os
  | .fs => .pushFs os
  | .gs => .pushGs os

/-- PUSHF and POPF may run: not V86 mode, or IOPL = 3. -/
def FlagsAllowed (s : State) : Prop := s.flags.vm = true → s.flags.iopl = 3#2

/-- What POPF, and IRET but for RF and VM, make of the flags: those of the image, but IF only when CPL is at most IOPL or PE is
0, and IOPL only when CPL is 0 outside V86 mode or PE is 0. -/
def poppedFlags (s : State) (v : Dword) : Flags :=
  { s.flags with
    cf := v.getLsbD 0, pf := v.getLsbD 2, af := v.getLsbD 4, zf := v.getLsbD 6, sf := v.getLsbD 7, tf := v.getLsbD 8
    df := v.getLsbD 10, ov := v.getLsbD 11, nt := v.getLsbD 14
    ie := if s.cr0.pe = false ∨ s.cpl ≤ s.flags.iopl then v.getLsbD 9 else s.flags.ie
    iopl := if s.cr0.pe = false ∨ (s.flags.vm = false ∧ s.cpl = 0#2) then v.extractLsb' 12 2 else s.flags.iopl }

/-- The stack pointer moved up by `n` bytes. -/
def raised (u : State) (n : Nat) : State := u.setSp (u.sp + BitVec.ofNat 32 n)

/-- Element `k` of `sz` bits in a list of bytes. -/
def element (sz : Sz) (bs : List Byte) (k : Nat) : BitVec sz.width.bits := leValue _ ((bs.drop (k * sz.bytes)).take sz.bytes)

/-- The display entries ENTER copies: `k` times, BP moves down one element and the element it then points to is pushed. -/
def copied (os : Sz) : Nat → State → State
  | 0, u => u
  | k + 1, u =>
    let v := u.setReg os.width .bp (u.reg os.width .bp - BitVec.ofNat _ os.bytes)
    let source := span (v.linear .ss (truncSz v.ssSize ((v.reg os.width .bp).setWidth 32))) os.bytes
    copied os k (pushed v os (slot v os 1) (leValue 32 (source.map v.byte)))

/-- The reads of those copies pass their checks: the elements below BP. -/
def DisplayReadable (b : State) (os : Sz) (k : Nat) : Prop :=
  ∀ i, i < k →
    b.accessExc .ss
      (truncSz b.ssSize ((b.reg os.width .bp - BitVec.ofNat _ (os.bytes * (i + 1)) : BitVec os.width.bits).setWidth 32))
      os.bytes false = none

/-- ENTER: push BP; above level 0 copy the display and push the frame's offset; BP takes that offset and the stack pointer
moves down by the size of the locals. -/
def enterEffect (os : Sz) (locals : Word) (n : Nat) (b : State) : State :=
  let frame := below b os 1
  let u := pushed b os (slot b os 1) ((b.reg os.width .bp).setWidth 32)
  let v := if n = 0 then u else
    let d := copied os (n - 1) u
    pushed d os (slot d os 1) frame
  let w := v.setReg os.width .bp (frame.setWidth _)
  w.setSp (w.sp - locals.setWidth 32)

/-- LEAVE: the bytes at SS:BP are the new BP and the stack pointer stands above them. -/
def leaveOffset (b : State) : Dword := (b.reg b.ssSize.width .bp).setWidth 32

/-! ## Control transfer -/

/-- Control goes to an offset in the code segment; the prefetch queue is emptied. -/
def jumped (u : State) (t : Dword) : State :=
  { u with eip := t, queue := { stale := [], flushed := true, jumpNeeded := false } }

/-- The offset lies within the limit of the code segment (`Obligations.SegmentChecks`). -/
def InCode (s : State) (t : Dword) : Prop := s.cs.holds t.toNat 1 = true

/-- Jcc with an 8-bit displacement. -/
def jccRel8 (c : Cond) (os : Sz) (b : Byte) : Instr :=
  match c with
  | .o => .joRel8 os b
  | .no => .jnoRel8 os b
  | .b => .jbRel8 os b
  | .ae => .jaeRel8 os b
  | .e => .jeRel8 os b
  | .ne => .jneRel8 os b
  | .be => .jbeRel8 os b
  | .a => .jaRel8 os b
  | .s => .jsRel8 os b
  | .ns => .jnsRel8 os b
  | .p => .jpRel8 os b
  | .np => .jnpRel8 os b
  | .l => .jlRel8 os b
  | .ge => .jgeRel8 os b
  | .le => .jleRel8 os b
  | .g => .jgRel8 os b

/-- Jcc with a 16-bit or 32-bit displacement. -/
def jccRel (c : Cond) (v : Imm) : Instr :=
  match c with
  | .o => .joRel v
  | .no => .jnoRel v
  | .b => .jbRel v
  | .ae => .jaeRel v
  | .e => .jeRel v
  | .ne => .jneRel v
  | .be => .jbeRel v
  | .a => .jaRel v
  | .s => .jsRel v
  | .ns => .jnsRel v
  | .p => .jpRel v
  | .np => .jnpRel v
  | .l => .jlRel v
  | .ge => .jgeRel v
  | .le => .jleRel v
  | .g => .jgRel v

/-- The target of a relative transfer: the offset of the next instruction plus the displacement, cut to the operand size. -/
def target (s : State) (os : Sz) (rel : Dword) : Dword := truncSz os (s.next + rel)

/-- The value of a displacement, sign-extended. -/
def relOf : Imm → Dword
  | .i16 v => BitVec.ofInt 32 v.toInt
  | .i32 v => v

/-- A form that, from the state `effect` makes, jumps by `rel` when `taken`, and goes on otherwise. -/
def JumpsWhen (i : Instr) (os : Sz) (rel : Dword) (effect : State → State) (taken : State → Prop) : Prop :=
  ∀ s, Accepts s false →
    (taken s → InCode s (target s os rel) →
      Completes i s (begun s) (jumped (effect (begun s)) (target s os rel)) []) ∧
    (taken s → ¬ InCode s (target s os rel) → exec i s = takeFault (excGP 0#16) s) ∧
    (¬ taken s → Completes i s (begun s) (effect (begun s)) [])

/-- CX or ECX counted down. -/
def counted (as : Sz) (u : State) : State := u.setReg as.width .cx (u.reg as.width .cx - 1#_)

/-- A segment register as Real Address Mode and V86 mode load it: base 16 times the selector, limit FFFFH. -/
def realSeg (u : State) (r : Sreg) (sel : Word) : State :=
  u.setSeg r
    { sel := sel, base := BitVec.ofNat 32 (sel.toNat * 16), limit := 0xFFFF#32, typ := 3#4, s := true
      dpl := if u.mode = .v86 then 3#2 else 0#2, p := true, db := false, g := false, valid := true }

/-- CS so loaded. -/
def realCs (u : State) (sel : Word) : State := realSeg u .cs sel

/-- The far return address a CALL pushes, from the state `u` on, paging off: CS, then the next offset. -/
def called (u : State) (os : Sz) : State :=
  pushList (withFlags u (if os = .s32 then 1 else 0) u.flags) os [selElement os u.cs.sel u 0, u.next]

/-- The offset `n` bytes above the top of the stack. -/
def above (b : State) (n : Nat) : Dword := truncSz b.ssSize (b.sp + BitVec.ofNat 32 n)

/-- The stack element of `sz` bits there, paging off, zero-extended. -/
def stackElement (b : State) (sz : Sz) (n : Nat) : Dword :=
  leValue 32 ((span (b.linear .ss (above b n)) sz.bytes).map b.byte)

/-- It can be read. -/
def StackReadable (b : State) (sz : Sz) (n : Nat) : Prop := b.accessExc .ss (above b n) sz.bytes false = none

/-- What delivering a vector in real-address mode leaves: FLAGS as `f` gives it, CS and the return offset pushed, IF and TF
cleared and NT as before (log entry 54), no shadow and no halt, and control at the vector's entry in the table at the IDTR base,
as it is after the pushes. -/
def entered (b : State) (f : Flags) (vector : Byte) (ret : Dword) : State :=
  let p := pushList { b with inhibit := .none, halted := false } .s16 [eflags f, b.cs.sel.setWidth 32, ret]
  let entry := b.idtr.base + BitVec.ofNat 32 (4 * vector.toNat)
  let ip : Word := leValue 16 ((span entry 2).map p.byte)
  let cs : Word := leValue 16 ((span (entry + 2#32) 2).map p.byte)
  jumped (realCs { p with flags := { p.flags with ie := false, tf := false } } cs) (ip.setWidth 32)

/-- The vector lies within the interrupt table, and the three words of a delivery can be pushed; real-address mode. -/
def Deliverable (b : State) (vector : Byte) : Prop :=
  b.cr0.pe = false ∧ b.cr0.pg = false ∧ 4 * vector.toNat + 3 ≤ b.idtr.limit.toNat ∧ Room b .s16 3

/-- A software interrupt in real-address mode: the return address is that of the next instruction. -/
def Interrupts (i : Instr) (vector : Byte) (taken : State → Prop) : Prop :=
  ∀ s, Accepts s false → taken s → Deliverable (begun s) vector →
    Completes i s (begun s) (entered (begun s) { s.flags with rf := false } vector s.next) (slots (begun s) .s16 3)

/-! ## Ports and strings -/

/-- The word at a linear address, paging off. -/
def wordAt (b : State) (a : Dword) : Word := leValue 16 ((span a 2).map b.byte)

/-- No permission test is made: Real Address Mode, or CPL at most IOPL outside V86 mode. -/
def PortFree (b : State) : Prop := b.cr0.pe = false ∨ (b.flags.vm = false ∧ b.cpl ≤ b.flags.iopl)

/-- The I/O permission bitmap of the task, an 80386 TSS, has 0 in the bits of the `n` ports from `port` on, both bytes that
hold them within the TSS limit. -/
def Mapped (b : State) (port : Word) (n : Nat) : Prop :=
  let at0 := (wordAt b (b.tr.base + 0x66#32)).toNat + port.toNat / 8
  (b.tr.typ = 9#4 ∨ b.tr.typ = 11#4) ∧ at0 + 1 ≤ b.tr.limit.toNat ∧
    ∀ i, i < n → (wordAt b (b.tr.base + BitVec.ofNat 32 at0)).getLsbD (port.toNat % 8 + i) = false

/-- The access to `n` ports is permitted; where the bitmap decides, paging is off. -/
def PortAllowed (b : State) (port : Word) (n : Nat) : Prop := PortFree b ∨ (b.cr0.pg = false ∧ Mapped b port n)

/-- It is not. -/
def PortDenied (b : State) (port : Word) (n : Nat) : Prop := ¬ PortFree b ∧ b.cr0.pg = false ∧ ¬ Mapped b port n

/-- What the platform answers at a port. -/
def portValue (u : State) (w : Width) (port : Word) : BitVec w.bits := (Config.portRead u.draws port w).setWidth _

/-- The state after reading a port. -/
def portRead (u : State) (w : Width) (port : Word) : State :=
  { u with draws := u.draws + 1, ioLog := .read port w ((portValue u w port).setWidth 32) :: u.ioLog }

/-- The state after writing a port. -/
def portWritten (u : State) (w : Width) (port : Word) (v : BitVec w.bits) : State :=
  { u with ioLog := .write port w (v.setWidth 32) :: u.ioLog }

/-- IN from `port`: it reads the port into the accumulator, or raises #GP(0) with nothing done. -/
def Inputs (i : Instr) (w : Width) (port : State → Word) : Prop :=
  ∀ s, Accepts s false →
    (PortAllowed (begun s) (port s) w.bytes →
      Completes i s (begun s)
        ((portRead (begun s) w (port s)).setReg w .ax (portValue (begun s) w (port s))) []) ∧
    (PortDenied (begun s) (port s) w.bytes → exec i s = takeFault (excGP 0#16) s)

/-- OUT to `port`: it writes the accumulator, or raises #GP(0) with nothing done. -/
def Outputs (i : Instr) (w : Width) (port : State → Word) : Prop :=
  ∀ s, Accepts s false →
    (PortAllowed (begun s) (port s) w.bytes →
      Completes i s (begun s) (portWritten (begun s) w (port s) (s.reg w .ax)) []) ∧
    (PortDenied (begun s) (port s) w.bytes → exec i s = takeFault (excGP 0#16) s)

/-- The string operations. -/
inductive StrOp where
  | movs | cmps | scas | lods | stos | ins | outs
  deriving DecidableEq

/-- The byte form. -/
def strByte (op : StrOp) (as : Sz) : Instr :=
  match op with
  | .movs => .movsb as
  | .cmps => .cmpsb as
  | .scas => .scasb as
  | .lods => .lodsb as
  | .stos => .stosb as
  | .ins => .insb as
  | .outs => .outsb as

/-- The word and doubleword forms. -/
def strWord (op : StrOp) (os as : Sz) : Instr :=
  match op with
  | .movs => .movsw os as
  | .cmps => .cmpsw os as
  | .scas => .scasw os as
  | .lods => .lodsw os as
  | .stos => .stosw os as
  | .ins => .insw os as
  | .outs => .outsw os as

/-- CMPS and SCAS: the repeat prefixes test ZF after them. -/
def scans (op : StrOp) : Bool := op = .cmps || op = .scas

/-- The source of a string operation passes its checks: seg:[(E)SI], DS or the override. -/
def Source (as : Sz) (w : Width) (b : State) (at1 : List Nat) (u : State) : Prop :=
  OpensMem b (b.dataSeg .ds) ((b.reg as.width .si).setWidth 32) w.bytes false at1 u

/-- The destination passes its checks: ES:[(E)DI]. -/
def Destination (as : Sz) (w : Width) (wr : Bool) (b : State) (at1 : List Nat) (u : State) : Prop :=
  OpensMem b .es ((b.reg as.width .di).setWidth 32) w.bytes wr at1 u

/-- An index register after one operation: up when DF is 0, down when DF is 1, modulo the address size. -/
def stepped (as : Sz) (w : Width) (r : Reg) (u : State) : State :=
  let i := u.reg as.width r
  u.setReg as.width r (if u.flags.df then i - BitVec.ofNat _ w.bytes else i + BitVec.ofNat _ w.bytes)

/-- One string operation from the state `b`: its checks leave `u`, it stores at `stored`, and it ends in `t`. -/
def Operates (op : StrOp) (as : Sz) (w : Width) (b u t : State) (stored : List Nat) : Prop :=
  let port := b.reg .b16 .dx
  match op with
  | .movs => ∃ src v, Source as w b src v ∧ Destination as w true v stored u ∧
      t = stepped as w .di (stepped as w .si (u.setBytes stored (src.map v.byte)))
  | .cmps => ∃ src v dst, Source as w b src v ∧ Destination as w false v dst u ∧ stored = [] ∧
      t = stepped as w .di (stepped as w .si
        (withFlags u 0 (subFlags (leValue w.bits (src.map v.byte)) (leValue w.bits (dst.map u.byte)) false u.flags)))
  | .scas => ∃ dst, Destination as w false b dst u ∧ stored = [] ∧
      t = stepped as w .di (withFlags u 0 (subFlags (u.reg w .ax) (leValue w.bits (dst.map u.byte)) false u.flags))
  | .lods => ∃ src, Source as w b src u ∧ stored = [] ∧
      t = stepped as w .si (u.setReg w .ax (leValue _ (src.map u.byte)))
  | .stos => Destination as w true b stored u ∧ t = stepped as w .di (u.setBytes stored (leBytes w.bytes (u.reg w .ax)))
  | .ins => PortAllowed b port w.bytes ∧ Destination as w true b stored u ∧
      t = stepped as w .di ((portRead u w port).setBytes stored (leBytes w.bytes (portValue u w port)))
  | .outs => ∃ src, PortAllowed b port w.bytes ∧ Source as w b src u ∧ stored = [] ∧
      t = stepped as w .si (portWritten u w port (leValue _ (src.map u.byte)))

/-! ## Segment and table registers -/

/-- The number of a segment register in a reg field. -/
def sregField : Sreg → BitVec 3
  | .es => 0#3
  | .cs => 1#3
  | .ss => 2#3
  | .ds => 3#3
  | .fs => 4#3
  | .gs => 5#3

/-- A null selector. -/
def NullSel (sel : Word) : Prop := sel.toNat / 4 = 0

/-- The selector's descriptor lies within its table; LDTR must be valid for one in the LDT. -/
def InTable (b : State) (sel : Word) : Prop :=
  if sel.getLsbD 2 then b.ldtr.valid = true ∧ sel.toNat / 8 * 8 + 7 ≤ b.ldtr.limit.toNat
  else sel.toNat / 8 * 8 + 7 ≤ b.gdtr.limit.toNat

/-- The linear address of the selector's descriptor. -/
def descAddress (b : State) (sel : Word) : Dword :=
  (if sel.getLsbD 2 then b.ldtr.base else b.gdtr.base) + BitVec.ofNat 32 (sel.toNat / 8 * 8)

/-- The doubleword at a linear address, paging off. -/
def dwordAt (b : State) (a : Dword) : Dword := leValue 32 ((span a 4).map b.byte)

/-- The selector's descriptor, paging off. -/
def descAt (b : State) (sel : Word) : Desc :=
  { lo := dwordAt b (descAddress b sel), hi := dwordAt b (descAddress b sel + 4#32) }

/-- The RPL of a selector. -/
def rplOf (sel : Word) : BitVec 2 := sel.setWidth 2

/-- A descriptor visible at the CPL and the selector's RPL. -/
def Visible (b : State) (sel : Word) (d : Desc) : Prop := d.conforming = true ∨ (b.cpl ≤ d.dpl ∧ rplOf sel ≤ d.dpl)

/-- The type and privilege tests of a load of a segment register. -/
def Loadable (r : Sreg) (b : State) (sel : Word) (d : Desc) : Prop :=
  if r = .ss then rplOf sel = b.cpl ∧ d.writable = true ∧ d.dpl = b.cpl else d.readable = true ∧ Visible b sel d

/-- The accessed bit's byte of a descriptor, if loading the segment sets it. -/
def accessedByte (b : State) (sel : Word) (d : Desc) : List Nat :=
  if d.typ.getLsbD 0 then [] else span (descAddress b sel + 5#32) 1

/-- A segment register loaded with a descriptor: the hidden part from it, the accessed bit set there and in memory. -/
def segLoaded (u : State) (r : Sreg) (sel : Word) (d : Desc) : State :=
  (u.setBytes (accessedByte u sel d) [d.hi.extractLsb' 8 8 ||| 1#8]).setSeg r
    { sel := sel, base := d.base, limit := d.limit, typ := d.typ ||| 1#4, s := d.s, dpl := d.dpl, p := d.p, db := d.db
      g := d.g, valid := true }

/-- Loading a segment register turns `b` into `t`, storing at `stored`; in protected mode with paging off. -/
def SegLoads (r : Sreg) (sel : Word) (b t : State) (stored : List Nat) : Prop :=
  (b.mode ≠ .prot ∧ stored = [] ∧ t = realSeg b r sel) ∨
  (b.mode = .prot ∧ b.cr0.pg = false ∧ NullSel sel ∧ r ≠ .ss ∧ stored = [] ∧
    t = b.setSeg r { b.seg r with sel := sel, valid := false }) ∨
  (b.mode = .prot ∧ b.cr0.pg = false ∧ ¬ NullSel sel ∧ InTable b sel ∧ Loadable r b sel (descAt b sel) ∧
    (descAt b sel).p = true ∧ stored = accessedByte b sel (descAt b sel) ∧ t = segLoaded b r sel (descAt b sel))

/-- Loading a segment register raises `e`; in protected mode with paging off. -/
def SegFails (r : Sreg) (sel : Word) (b : State) (e : Exc) : Prop :=
  b.mode = .prot ∧ b.cr0.pg = false ∧
    ((NullSel sel ∧ r = .ss ∧ e = excGP 0#16) ∨
     (¬ NullSel sel ∧ ¬ InTable b sel ∧ e = excGP (sel &&& 0xFFFC#16)) ∨
     (¬ NullSel sel ∧ InTable b sel ∧ ¬ Loadable r b sel (descAt b sel) ∧ e = excGP (sel &&& 0xFFFC#16)) ∨
     (¬ NullSel sel ∧ InTable b sel ∧ Loadable r b sel (descAt b sel) ∧ (descAt b sel).p = false ∧
       e = if r = .ss then excSS (sel &&& 0xFFFC#16) else excNP (sel &&& 0xFFFC#16)))

/-- MOV SS and POP SS open the interrupt shadow. -/
def shadowed (r : Sreg) (t : State) : State := if r = .ss then { t with inhibit := .all } else t

/-- POP of a segment register other than CS. -/
def popSregInstr (os : Sz) : Sreg → Option Instr
  | .cs => none
  | .ss => some (.popSs os)
  | .ds => some (.popDs os)
  | .es => some (.popEs os)
  | .fs => some (.popFs os)
  | .gs => some (.popGs os)

/-- LDS, LES, LFS, LGS and LSS. -/
def loadPointer (os : Sz) (r : Reg) (rm : Rm) : Sreg → Option Instr
  | .cs => none
  | .ss => some (.lss os r rm)
  | .ds => some (.lds os r rm)
  | .es => some (.les os r rm)
  | .fs => some (.lfs os r rm)
  | .gs => some (.lgs os r rm)

/-- CPL is 0, or Real Address Mode. -/
def Privileged (s : State) : Prop := s.cr0.pe = false ∨ (s.flags.vm = false ∧ s.cpl = 0#2)

/-- The six bytes of GDTR or IDTR in memory: limit, then base, whose last byte is 0 with OS = 16. -/
def tableImage (os : Sz) (t : TableReg) : List Byte :=
  [t.limit.extractLsb' 0 8, t.limit.extractLsb' 8 8, t.base.extractLsb' 0 8, t.base.extractLsb' 8 8,
    t.base.extractLsb' 16 8, if os = .s16 then 0#8 else t.base.extractLsb' 24 8]

/-- The table register six bytes load: with OS = 16 only 24 bits of base. -/
def tableOf (os : Sz) (bs : List Byte) : TableReg :=
  { limit := leValue 16 (bs.take 2), base := leValue 32 ((bs.drop 2).take (if os = .s16 then 3 else 4)) }

/-- A form that loads a selector from a register or memory word into LDTR or TR. -/
def LoadsSystem (i : Rm → Instr) (loads : State → Word → State → List Nat → Prop) (fails : State → Word → Exc → Prop) : Prop :=
  ∀ rm s p u, Accepts s false → s.mode = .prot → s.cpl = 0#2 → s.cr0.pg = false → Opens (begun s) .b16 rm false p u →
    (∀ t stored, loads u (at' u .b16 p) t stored → Completes (i rm) s u t stored) ∧
    (∀ e, fails u (at' u .b16 p) e → Takes (i rm) s u e)

/-- A descriptor in the GDT. -/
def InGdt (b : State) (sel : Word) : Prop := sel.getLsbD 2 = false ∧ InTable b sel

/-- What LLDT does. -/
def ldtLoads (b : State) (sel : Word) (t : State) (stored : List Nat) : Prop :=
  stored = [] ∧
  ((NullSel sel ∧ t = { b with ldtr := { b.ldtr with sel := sel, valid := false } }) ∨
   (¬ NullSel sel ∧ InGdt b sel ∧ (descAt b sel).s = false ∧ (descAt b sel).typ = 2#4 ∧ (descAt b sel).p = true ∧
     t = { b with ldtr := (descAt b sel).toSeg sel }))

/-- When LLDT raises an exception. -/
def ldtFails (b : State) (sel : Word) (e : Exc) : Prop :=
  ¬ NullSel sel ∧
  ((¬ (InGdt b sel ∧ (descAt b sel).s = false ∧ (descAt b sel).typ = 2#4) ∧ e = excGP (sel &&& 0xFFFC#16)) ∨
   (InGdt b sel ∧ (descAt b sel).s = false ∧ (descAt b sel).typ = 2#4 ∧ (descAt b sel).p = false ∧
     e = excNP (sel &&& 0xFFFC#16)))

/-- An available TSS descriptor. -/
def Available (d : Desc) : Prop := d.s = false ∧ (d.typ = 1#4 ∨ d.typ = 9#4)

/-- What LTR does: the descriptor is marked busy in memory, its second doubleword read and written. -/
def trLoads (b : State) (sel : Word) (t : State) (stored : List Nat) : Prop :=
  let d := descAt b sel
  ¬ NullSel sel ∧ InGdt b sel ∧ Available d ∧ d.p = true ∧ stored = span (descAddress b sel + 4#32) 4 ∧
    t = { b.setBytes stored (leBytes 4 (d.hi ||| 0x200#32)) with tr := { d.toSeg sel with typ := d.typ ||| 2#4 } }

/-- When LTR raises an exception. -/
def trFails (b : State) (sel : Word) (e : Exc) : Prop :=
  (NullSel sel ∧ e = excGP 0#16) ∨
  (¬ NullSel sel ∧ ¬ (InGdt b sel ∧ Available (descAt b sel)) ∧ e = excGP (sel &&& 0xFFFC#16)) ∨
  (¬ NullSel sel ∧ InGdt b sel ∧ Available (descAt b sel) ∧ (descAt b sel).p = false ∧ e = excNP (sel &&& 0xFFFC#16))

/-- ZF set to `b`, every other flag as before. -/
def zeroFlag (u : State) (b : Bool) : State := { u with flags := { u.flags with zf := b } }

/-- A selector that LAR, LSL, VERR and VERW accept: not null, in its table, visible, and its descriptor of a kind `ok`. -/
def Inspects (ok : Desc → Prop) (b : State) (sel : Word) : Prop :=
  ¬ NullSel sel ∧ InTable b sel ∧ ok (descAt b sel) ∧ Visible b sel (descAt b sel)

/-- A form that inspects a selector: `effect` when it is accepted, else ZF is 0 and nothing else changes. -/
def InspectForm (i : Instr) (w : Width) (rm : Rm) (ok : Desc → Prop) (effect : Desc → State → State) : Prop :=
  ∀ s p u, Accepts s false → s.mode = .prot → s.cr0.pg = false → Opens (begun s) w rm false p u →
    let sel : Word := (at' u w p).setWidth 16
    (Inspects ok u sel → Completes i s u (effect (descAt u sel) u) []) ∧
    (¬ Inspects ok u sel → Completes i s u (zeroFlag u false) [])

/-! ## Processor control -/

/-- CPL is at most IOPL, or Real Address Mode. -/
def IoAllowed (s : State) : Prop := s.cr0.pe = false ∨ s.cpl ≤ s.flags.iopl

/-- A form without operands that completes where `ok` holds and raises #GP(0) where it does not. -/
def Guarded (i : Instr) (ok : State → Prop) (effect : State → State) : Prop :=
  ∀ s, Accepts s false →
    (ok s → Completes i s (begun s) (effect (begun s)) []) ∧ (¬ ok s → exec i s = takeFault (excGP 0#16) s)

/-- The six status flags made free values. -/
def statusFree (u : State) : State := withFlags u 1 (undefFlags UndefMask.all (free u 0 6) u.flags)

/-- A move from a special register to `r`: the six status flags are free after it. -/
def FromSpecial (i : Instr) (r : Reg) (value : State → Dword) : Prop :=
  Guarded i Privileged (fun u => statusFree (u.setReg .b32 r (value u)))

/-- A move of `r` to a special register: the six status flags are free after it. -/
def ToSpecial (i : Instr) (r : Reg) (effect : Dword → State → State) : Prop :=
  Guarded i Privileged (fun u => statusFree (effect (u.reg .b32 r) u))

/-- CR0 as a word: PE, MP, EM, TS, ET in bits 0 to 4, the reserved bits, PG in bit 31. -/
def cr0Image (c : Cr0) : Dword :=
  BitVec.ofNat 32 (c.pe.toNat + 2 * c.mp.toNat + 4 * c.em.toNat + 8 * c.ts.toNat + 16 * c.et.toNat
    + 32 * c.res.toNat + 2 ^ 31 * c.pg.toNat)

/-- A change of CR0: a change of PE, or a setting of PG, asks for a JMP next. -/
def cr0Set (u : State) (c : Cr0) : State :=
  { u with
    cr0 := c
    queue := { u.queue with
      jumpNeeded := u.queue.jumpNeeded || decide (c.pe ≠ u.cr0.pe) || (c.pg && !u.cr0.pg) } }

/-- MOV CR0: the reserved bits that are written as 1 read as free bits. -/
def cr0Written (v : Dword) (u : State) : State :=
  { cr0Set u
      { pe := v.getLsbD 0, mp := v.getLsbD 1, em := v.getLsbD 2, ts := v.getLsbD 3, et := v.getLsbD 4
        res := v.extractLsb' 5 26 &&& free u 0 26, pg := v.getLsbD 31 } with draws := u.draws + 1 }

/-- A debug register. -/
def debugReg (s : State) : DReg → Dword
  | .dr0 => s.dr0
  | .dr1 => s.dr1
  | .dr2 => s.dr2
  | .dr3 => s.dr3
  | .dr6 => s.dr6
  | .dr7 => s.dr7

/-- A debug register replaced. -/
def debugSet (d : DReg) (v : Dword) (u : State) : State :=
  match d with
  | .dr0 => { u with dr0 := v }
  | .dr1 => { u with dr1 := v }
  | .dr2 => { u with dr2 := v }
  | .dr3 => { u with dr3 := v }
  | .dr6 => { u with dr6 := v }
  | .dr7 => { u with dr7 := v }

/-- DR7 would enable a breakpoint or the general detect. -/
def Enables (v : Dword) : Prop := v.getLsbD 13 = true ∨ ∃ i, i < 8 ∧ v.getLsbD i = true

/-- CR0 after LMSW: MP, EM and TS from the operand, PE only ever set. -/
def mswLoaded (v : Word) (u : State) : State :=
  cr0Set u { u.cr0 with pe := u.cr0.pe || v.getLsbD 0, mp := v.getLsbD 1, em := v.getLsbD 2, ts := v.getLsbD 3 }

/-- The instructions that LOCK may precede when their operand is in memory (44_l.md R340). -/
def lockable : Instr → Bool
  | .btRmR _ rm _ | .btRmImm8 _ rm _ | .btsRmR _ rm _ | .btsRmImm8 _ rm _ | .btrRmR _ rm _ | .btrRmImm8 _ rm _
  | .btcRmR _ rm _ | .btcRmImm8 _ rm _ | .xchgRm8R8 rm _ | .xchgRmR _ rm _
  | .addRm8R8 rm _ | .addRmR _ rm _ | .addRm8Imm8 rm _ | .addRmImm rm _ | .addRmImm8 _ rm _
  | .orRm8R8 rm _ | .orRmR _ rm _ | .orRm8Imm8 rm _ | .orRmImm rm _ | .orRmImm8 _ rm _
  | .adcRm8R8 rm _ | .adcRmR _ rm _ | .adcRm8Imm8 rm _ | .adcRmImm rm _ | .adcRmImm8 _ rm _
  | .sbbRm8R8 rm _ | .sbbRmR _ rm _ | .sbbRm8Imm8 rm _ | .sbbRmImm rm _ | .sbbRmImm8 _ rm _
  | .andRm8R8 rm _ | .andRmR _ rm _ | .andRm8Imm8 rm _ | .andRmImm rm _ | .andRmImm8 _ rm _
  | .subRm8R8 rm _ | .subRmR _ rm _ | .subRm8Imm8 rm _ | .subRmImm rm _ | .subRmImm8 _ rm _
  | .xorRm8R8 rm _ | .xorRmR _ rm _ | .xorRm8Imm8 rm _ | .xorRmImm rm _ | .xorRmImm8 _ rm _
  | .notRm8 rm | .notRm _ rm | .negRm8 rm | .negRm _ rm | .incRm8 rm | .incRm _ rm | .decRm8 rm | .decRm _ rm => isMem rm
  | _ => false

/-- The string instructions: the ones that accept a repeat prefix. -/
def isString : Instr → Bool
  | .movsb _ | .movsw _ _ | .cmpsb _ | .cmpsw _ _ | .scasb _ | .scasw _ _ | .lodsb _ | .lodsw _ _ | .stosb _ | .stosw _ _
  | .insb _ | .insw _ _ | .outsb _ | .outsw _ _ => true
  | _ => false

/-- CMPS and SCAS. -/
def isScan : Instr → Bool
  | .cmpsb _ | .cmpsw _ _ | .scasb _ | .scasw _ _ => true
  | _ => false

/-- The rows no page describes, whose effect is refused whatever precedes them. -/
def isUnassigned : Instr → Bool
  | .unassigned82 | .unassignedD6 | .unassignedF1 => true
  | _ => false

/-- The prefixes before an instruction are not what it accepts: LOCK before one that LOCK may not precede, a repeat prefix
before one that is no string instruction, F2 before one that is not CMPS or SCAS. -/
def BadPrefix (s : State) (i : Instr) : Prop :=
  (s.pfx.lock = true ∧ lockable i = false) ∨ (s.pfx.rep ≠ none ∧ isString i = false) ∨
  (s.pfx.rep = some .repne ∧ isScan i = false)

/-! ## Registers and memory -/

/-- The 32-bit register that holds a register operand: AH, CH, DH, BH have the numbers 4 to 7 of a byte operand. -/
def homeOf (w : Width) (r : Reg) : Reg :=
  match w, r with
  | .b8, .sp => .ax
  | .b8, .bp => .cx
  | .b8, .si => .dx
  | .b8, .di => .bx
  | _, r => r

/-- The lowest bit of a register operand in that register. -/
def startOf (w : Width) (r : Reg) : Nat :=
  match w, r with
  | .b8, .sp | .b8, .bp | .b8, .si | .b8, .di => 8
  | _, _ => 0

/-- A valid offset of a segment: above the limit in an expand-down data segment, up to FFFFH or FFFFFFFFH as its B bit says;
else at most the limit. -/
def ValidOffset (g : SegReg) (k : Nat) : Prop :=
  if g.s = true ∧ g.typ.getLsbD 3 = false ∧ g.typ.getLsbD 2 = true then
    g.limit.toNat < k ∧ k < (if g.db then 2 ^ 32 else 2 ^ 16)
  else k ≤ g.limit.toNat

/-- The access fits the segment's type: writable data for a write, data or readable code for a read. -/
def FitsType (g : SegReg) (wr : Bool) : Prop :=
  g.s = true ∧
    if wr then g.typ.getLsbD 3 = false ∧ g.typ.getLsbD 1 = true else g.typ.getLsbD 3 = false ∨ g.typ.getLsbD 1 = true

/-! ## Effective addresses -/

/-- The registers of a 16-bit address form. -/
def baseRegs : Base16 → List Reg
  | .bxsi => [.bx, .si]
  | .bxdi => [.bx, .di]
  | .bpsi => [.bp, .si]
  | .bpdi => [.bp, .di]
  | .si => [.si]
  | .di => [.di]
  | .bp => [.bp]
  | .bx => [.bx]

/-- A displacement as a signed number. -/
def disp16 : Disp16 → Int
  | .none => 0
  | .d8 d => d.toInt
  | .d16 d => d.toInt

/-- A displacement as a signed number. -/
def disp32 : Disp32 → Int
  | .none => 0
  | .d8 d => d.toInt
  | .d32 d => d.toInt

/-- The index of a SIB byte times its scale: number 4 means no index. -/
def scaled (b : State) (scale : BitVec 2) (index : Reg) : Int :=
  if index = .sp then 0 else ((b.reg .b32 index).toNat : Int) * 2 ^ scale.toNat

/-- The sum of an address form's parts, before it is cut to the address size. -/
def offsetSum (b : State) : Mem → Int
  | .direct16 d => d.toNat
  | .based16 r d => ((baseRegs r).map fun q => ((b.reg .b16 q).toNat : Int)).sum + disp16 d
  | .direct32 d => d.toNat
  | .based32 r d => (b.reg .b32 r).toNat + disp32 d
  | .sib scale index r d => (b.reg .b32 r).toNat + scaled b scale index + disp32 d
  | .sibNoBase scale index d => scaled b scale index + d.toNat

/-- A form whose effective address the spec leaves undefined: no index, yet a scale. -/
def Unscaled : Mem → Prop
  | .sib scale index _ _ | .sibNoBase scale index _ => index = .sp ∧ scale ≠ 0#2
  | _ => False

/-- The segment of a memory operand: the override, else SS for a base of BP, EBP or ESP, else DS. -/
def segmentOf (b : State) (m : Mem) : Sreg :=
  b.pfx.seg.getD <|
    match m with
    | .based16 .bpsi _ | .based16 .bpdi _ | .based16 .bp _ | .based32 .bp _ | .sib _ _ .bp _ | .sib _ _ .sp _ => .ss
    | _ => .ds

/-! ## Paging -/

/-- The address of the page-directory entry of a linear address. -/
def pdeAt (b : State) (lin : Dword) : Dword := BitVec.ofNat 32 (b.cr3.toNat / 4096 * 4096 + lin.toNat / 2 ^ 22 * 4)

/-- The address of the page-table entry, from the directory entry. -/
def pteAt (pde lin : Dword) : Dword := BitVec.ofNat 32 (pde.toNat / 4096 * 4096 + lin.toNat / 4096 % 1024 * 4)

/-- The directory entry, with paging's tables at physical addresses. -/
def pdeOf (b : State) (lin : Dword) : Dword := dwordAt b (pdeAt b lin)

/-- The table entry. -/
def pteOf (b : State) (lin : Dword) : Dword := dwordAt b (pteAt (pdeOf b lin) lin)

/-- Both entries are present. -/
def Present (b : State) (lin : Dword) : Prop := (pdeOf b lin).getLsbD 0 = true ∧ (pteOf b lin).getLsbD 0 = true

/-- The access is permitted by both entries: always for a supervisor; for a user U/S is 1, and R/W is 1 for a write. -/
def PermittedBy (pde pte : Dword) (wr user : Bool) : Prop :=
  user = true → ∀ e, (e = pde ∨ e = pte) → e.getLsbD 2 = true ∧ (wr = true → e.getLsbD 1 = true)

/-- Software has changed neither entry of this page since the TLB was last flushed (20_memory.md R104). -/
def TlbAgrees (b : State) (lin : Dword) : Prop :=
  b.tlbUndef = false ∧ ∀ c, c ∈ b.tlb → c.addr ≠ pdeAt b lin ∧ c.addr ≠ pteAt (pdeOf b lin) lin

/-- The one change since then is that of this page's directory entry or table entry: before it both entries, `pde` and `pte`,
were present, and not what they are now. -/
def Changed (b : State) (lin pde pte : Dword) : Prop :=
  b.tlbUndef = false ∧ (pde, pte) ≠ (pdeOf b lin, pteOf b lin) ∧ pde.getLsbD 0 = true ∧ pte.getLsbD 0 = true ∧
  pteAt pde lin ≠ pdeAt b lin ∧
  ((b.tlb = [{ addr := pteAt pde lin, value := pte }] ∧ pde = pdeOf b lin) ∨
   (b.tlb = [{ addr := pdeAt b lin, value := pde }] ∧ pte = dwordAt b (pteAt pde lin)))

/-- The address in the frame of a table entry. -/
def inFrame (pte lin : Dword) : Nat := pte.toNat / 4096 * 4096 + lin.toNat % 4096

/-- The error code of a page fault: bit 0 for a protection violation, bit 1 for a write, bit 2 for a user; bits 15 to 3 are
free. -/
def faultCode (b : State) (present wr user : Bool) : Word :=
  BitVec.ofNat 16 ((free b 0 13).toNat * 8 + user.toNat * 4 + wr.toNat * 2 + present.toNat)

/-- The accessed bits set in both entries, and the dirty bit in the table entry for a write. -/
def touched (b : State) (lin : Dword) (wr : Bool) : State :=
  let u := b.putBytes (span (pdeAt b lin) 4) (leBytes 4 (pdeOf b lin ||| 0x20#32))
  u.putBytes (span (pteAt (pdeOf b lin) lin) 4) (leBytes 4 (pteOf b lin ||| (if wr then 0x60#32 else 0x20#32)))

/-- A page fault: CR2 takes the address. -/
def pageFaulted (b : State) (lin : Dword) (present wr user : Bool) : Except Stop (Nat × State) :=
  .error (.exc (excPF (faultCode b present wr user)) { withFlags b 1 b.flags with cr2 := lin } false)

/-- The tables give the translation `r`: the address, with accessed and dirty bits set and nothing else changed, or a page fault
where an entry is not present or does not permit the access. -/
def ByTables (b : State) (lin : Dword) (wr user : Bool) (r : Except Stop (Nat × State)) : Prop :=
  let ok := PermittedBy (pdeOf b lin) (pteOf b lin) wr user
  (Present b lin → ok → r = .ok (inFrame (pteOf b lin) lin, touched b lin wr)) ∧
  (Present b lin → ¬ ok → r = pageFaulted b lin true wr user) ∧
  (¬ Present b lin → r = pageFaulted b lin false wr user)

/-- The entries `pde` and `pte`, as the TLB holds them, give it: they set no accessed and no dirty bit. -/
def ByEntries (b : State) (lin pde pte : Dword) (wr user : Bool) (r : Except Stop (Nat × State)) : Prop :=
  (PermittedBy pde pte wr user → r = .ok (inFrame pte lin, b)) ∧
  (¬ PermittedBy pde pte wr user → r = pageFaulted b lin true wr user)

/-! ## Transfers in protected mode -/

/-- The selector part of an error code. -/
def selErr (sel : Word) : Word := sel &&& 0xFFFC#16

/-- A selector passes the checks before a load: it is not null, within its table, and its descriptor `d` is of the kind `ok`
and present; paging off. -/
def Named (b : State) (sel : Word) (ok : Desc → Prop) (d : Desc) : Prop :=
  ¬ NullSel sel ∧ InTable b sel ∧ d = descAt b sel ∧ ok d ∧ d.p = true

/-- The first of those checks that fails raises `e`: the exception of a null selector, of a bad one, or of an absent segment. -/
def NameFails (b : State) (sel : Word) (ok : Desc → Prop) (null bad absent e : Exc) : Prop :=
  (NullSel sel ∧ e = null) ∨ (¬ NullSel sel ∧ ¬ (InTable b sel ∧ ok (descAt b sel)) ∧ e = bad) ∨
  (¬ NullSel sel ∧ InTable b sel ∧ ok (descAt b sel) ∧ (descAt b sel).p = false ∧ e = absent)

/-- A code segment to run at a level: its DPL is that level, or, if it is conforming, at most that level. -/
def AtLevel (level : BitVec 2) (c : Desc) : Prop :=
  c.isCode = true ∧ if c.conforming then c.dpl ≤ level else c.dpl = level

/-- A stack segment for a level. -/
def StackAt (sel : Word) (level : BitVec 2) (d : Desc) : Prop := rplOf sel = level ∧ d.dpl = level ∧ d.writable = true

/-- An offset within the limit of a code segment. -/
def Within (c : Desc) (off : Dword) : Prop := off.toNat ≤ c.limit.toNat

/-- The `k` elements below the top lie within the limits of the stack segment. -/
def HasRoom (b : State) (sz : Sz) (k : Nat) : Prop :=
  ∀ i, i < k → b.ss.holds (below b sz (i + 1)).toNat sz.bytes = true

/-- So do the `n` bytes from `k` bytes above the top on. -/
def Held (b : State) (k n : Nat) : Prop := b.ss.holds (above b k).toNat n = true

/-- CS is loaded with a descriptor, the level in its RPL, and control goes to an offset in it. -/
def codeEntered (p : State) (sel : Word) (level : BitVec 2) (c : Desc) (off : Dword) : State :=
  jumped (segLoaded p .cs (sel.extractLsb' 2 14 ++ level) c) off

/-- A TSS of the 80286 layout. -/
def oldTask (b : State) : Bool := decide (b.tr.typ = 1#4 ∨ b.tr.typ = 3#4)

/-- TR holds a TSS of one of the two layouts. -/
def IsTask (b : State) : Prop := oldTask b = true ∨ b.tr.typ = 9#4 ∨ b.tr.typ = 11#4

/-- The stack segment of an inner level in the current TSS. -/
def innerSel (b : State) (level : BitVec 2) : Word :=
  wordAt b (b.tr.base + BitVec.ofNat 32 (if oldTask b then 4 + 4 * level.toNat else 8 + 8 * level.toNat))

/-- The stack pointer there: 16 bits, zero-extended, in an 80286 TSS. -/
def innerPtr (b : State) (level : BitVec 2) : Dword :=
  if oldTask b then (wordAt b (b.tr.base + BitVec.ofNat 32 (2 + 4 * level.toNat))).setWidth 32
  else dwordAt b (b.tr.base + BitVec.ofNat 32 (4 + 8 * level.toNat))

/-- Both lie within the TSS limit. -/
def InnerListed (b : State) (level : BitVec 2) : Prop :=
  (if oldTask b then 5 + 4 * level.toNat else 9 + 8 * level.toNat) ≤ b.tr.limit.toNat

/-- The current TSS gives an inner level the stack segment `d`. -/
def InnerStack (b : State) (level : BitVec 2) (d : Desc) : Prop :=
  IsTask b ∧ InnerListed b level ∧ Named b (innerSel b level) (StackAt (innerSel b level) level) d

/-- It gives none: `e` is raised; `null` is the exception of a null selector. -/
def InnerFails (b : State) (level : BitVec 2) (null e : Exc) : Prop :=
  IsTask b ∧
  ((¬ InnerListed b level ∧ e = excTS (selErr b.tr.sel)) ∨
   (InnerListed b level ∧ NameFails b (innerSel b level) (StackAt (innerSel b level) level) null
      (excTS (selErr (innerSel b level))) (excSS (selErr (innerSel b level))) e))

/-- The state on the stack of an inner level. -/
def onInnerStack (b : State) (level : BitVec 2) (d : Desc) : State :=
  { (segLoaded b .ss (innerSel b level) d).setSp (innerPtr b level) with cpl := level }

/-- The far JMP or CALL `i` to the pointer `sel`:`off`, given or read from memory; finding it leaves `u`. -/
def FarForm (s : State) (call : Bool) (os : Sz) (off : Dword) (sel : Word) (u : State) (i : Instr) : Prop :=
  (∃ q, i = (if call then .callFarPtr q else .jmpFarPtr q) ∧ os = farSize q ∧ off = (farParts q).1 ∧ sel = (farParts q).2 ∧
    u = begun s) ∨
  (∃ m seg a v as, i = (if call then .callFarMem os (.mem m) else .jmpFarMem os (.mem m)) ∧
    Addressed (begun s) m seg a v ∧ OpensMem v seg a (os.bytes + 2) false as u ∧
    off = leValue 32 ((as.map u.byte).take os.bytes) ∧ sel = leValue 16 ((as.map u.byte).drop os.bytes))

/-- A code segment that a far JMP or CALL may name: for a nonconforming one the RPL is at most CPL. -/
def DirectTarget (b : State) (sel : Word) (c : Desc) : Prop :=
  AtLevel b.cpl c ∧ (c.conforming = false → rplOf sel ≤ b.cpl)

/-- A call gate that CPL and the RPL may use. -/
def OpenGate (b : State) (sel : Word) (g : Desc) : Prop :=
  g.s = false ∧ (g.typ = 4#4 ∨ g.typ = 12#4) ∧ b.cpl ≤ g.dpl ∧ rplOf sel ≤ g.dpl

/-- The selector names a task gate or a TSS. -/
def HasTask (b : State) (sel : Word) : Prop :=
  ¬ NullSel sel ∧ InTable b sel ∧ (descAt b sel).s = false ∧
    ((descAt b sel).typ = 1#4 ∨ (descAt b sel).typ = 3#4 ∨ (descAt b sel).typ = 5#4 ∨ (descAt b sel).typ = 9#4 ∨
      (descAt b sel).typ = 11#4)

/-- The target code segment of a call gate: JMP stays at its level, CALL may also go inward. -/
def GateTarget (b : State) (call : Bool) (c : Desc) : Prop :=
  if call then c.isCode = true ∧ c.dpl ≤ b.cpl else AtLevel b.cpl c

/-- The end of a transfer at the same level; a CALL pushes CS and the next offset, `sz` bits each. -/
def SameTransfer (call : Bool) (sz : Sz) (off : Dword) (sel : Word) (c : Desc) (b t : State) (stored : List Nat) : Prop :=
  (call = true → Room b sz 2) ∧ Within c off ∧
  t = codeEntered (if call then called b sz else b) sel b.cpl c off ∧
  stored = (if call then slots b sz 2 else []) ++ accessedByte b sel c

/-- Its failures. -/
def SameTransferFails (call : Bool) (sz : Sz) (off : Dword) (c : Desc) (b : State) (e : Exc) : Prop :=
  (call = true ∧ ¬ HasRoom b sz 2 ∧ e = excSS 0#16) ∨
  ((call = true → HasRoom b sz 2) ∧ ¬ Within c off ∧ e = excGP 0#16)

/-- A CALL through a gate goes to a nonconforming segment of an inner level. -/
def Inward (b : State) (call : Bool) (c : Desc) : Prop := call = true ∧ c.conforming = false ∧ c.dpl < b.cpl

/-- The state on the inner level's stack before anything is pushed there. -/
def inwardStack (b : State) (g c d : Desc) : State :=
  onInnerStack (withFlags b (if g.gateSize = .s32 then 2 else 0) b.flags) c.dpl d

/-- The parameters, the last one first. -/
def parameters (b : State) (g : Desc) : List Dword :=
  ((List.range g.gateCount).map fun i => stackElement b g.gateSize (i * g.gateSize.bytes)).reverse

/-- A CALL through a gate to an inner level: on that level's stack the old SS and ESP, the parameters, CS and the next offset. -/
def CallsInward (g c d : Desc) (b t : State) (stored : List Nat) : Prop :=
  let sz := g.gateSize
  let v := inwardStack b g c d
  Within c g.gateOff ∧ (∀ i, i < g.gateCount → StackReadable b sz (i * sz.bytes)) ∧ Room v sz (g.gateCount + 4) ∧
  t = codeEntered (pushList v sz ([selElement sz b.ss.sel b 0, b.regs.esp] ++ parameters b g ++
        [selElement sz b.cs.sel b 1, b.next])) g.gateSel c.dpl c g.gateOff ∧
  stored = accessedByte b (innerSel b c.dpl) d ++ slots v sz (g.gateCount + 4) ++ accessedByte b g.gateSel c

/-- A far JMP or CALL to code turns `b` into `t`; protected mode, paging off. -/
def FarEnters (call : Bool) (os : Sz) (off : Dword) (sel : Word) (b t : State) (stored : List Nat) : Prop :=
  (∃ c, Named b sel (DirectTarget b sel) c ∧ SameTransfer call os off sel c b t stored) ∨
  ∃ g c, Named b sel (OpenGate b sel) g ∧ Named b g.gateSel (GateTarget b call) c ∧
    ((¬ Inward b call c ∧ SameTransfer call g.gateSize g.gateOff g.gateSel c b t stored) ∨
     (Inward b call c ∧ ∃ d, InnerStack b c.dpl d ∧ CallsInward g c d b t stored))

/-- It raises `e`. -/
def FarFails (call : Bool) (os : Sz) (off : Dword) (sel : Word) (b : State) (e : Exc) : Prop :=
  (¬ HasTask b sel ∧ NameFails b sel (fun d => DirectTarget b sel d ∨ OpenGate b sel d)
    (excGP 0#16) (excGP (selErr sel)) (excNP (selErr sel)) e) ∨
  (∃ c, Named b sel (DirectTarget b sel) c ∧ SameTransferFails call os off c b e) ∨
  ∃ g, Named b sel (OpenGate b sel) g ∧
    (NameFails b g.gateSel (GateTarget b call) (excGP 0#16) (excGP (selErr g.gateSel)) (excNP (selErr g.gateSel)) e ∨
     ∃ c, Named b g.gateSel (GateTarget b call) c ∧
      ((¬ Inward b call c ∧ SameTransferFails call g.gateSize g.gateOff c b e) ∨
       (Inward b call c ∧ (InnerFails b c.dpl (excTS 0#16) e ∨ ∃ d, InnerStack b c.dpl d ∧
         ((¬ HasRoom (inwardStack b g c d) g.gateSize (g.gateCount + 4) ∧ e = excSS 0#16) ∨
          (HasRoom (inwardStack b g c d) g.gateSize (g.gateCount + 4) ∧ ¬ Within c g.gateOff ∧ e = excGP 0#16))))))

/-- The stack pointer after a return to an outer level: 16 bits of it leave the upper half of a 32-bit one free. -/
def outerSp (sz : Sz) (sp : Dword) (u : State) : State :=
  match sz, u.ssSize with
  | .s16, .s32 => (withFlags u 1 u.flags).setSp ((free u 0 16 : BitVec 16) ++ sp.setWidth 16)
  | _, _ => u.setSp sp

open Classical in
/-- The data segment registers of which `bad` holds, made null by `zero`. -/
def dropped (bad : SegReg → Prop) (zero : SegReg → SegReg) (u : State) : State :=
  let keep := fun g => if bad g then zero g else g
  { u with es := keep u.es, fs := keep u.fs, gs := keep u.gs, ds := keep u.ds }

/-- A segment register that holds conforming code. -/
def IsConforming (g : SegReg) : Prop := g.s = true ∧ g.typ.getLsbD 3 = true ∧ g.typ.getLsbD 2 = true

/-- After a RET: out of its table, not readable, or too privileged for the new level. -/
def retDrops (u : State) (g : SegReg) : Prop :=
  ¬ NullSel g.sel ∧ (¬ InTable u g.sel ∨ ¬ FitsType g false ∨ (¬ IsConforming g ∧ g.dpl < u.cpl))

/-- RET clears the selector and the attributes. -/
def retZero (g : SegReg) : SegReg :=
  { g with sel := 0#16, typ := 0#4, s := false, dpl := 0#2, p := false, db := false, g := false, valid := false }

/-- After an IRET: data or nonconforming code too privileged for the new level. -/
def iretDrops (u : State) (g : SegReg) : Prop := ¬ NullSel g.sel ∧ g.s = true ∧ ¬ IsConforming g ∧ g.dpl < u.cpl

/-- IRET makes the register null. -/
def iretZero (g : SegReg) : SegReg := { g with sel := 0#16, valid := false }

/-- The return selector of a far RET: a word, `sz` bits above the top. -/
def retSel (b : State) (sz : Sz) : Word := wordAt b (b.linear .ss (above b sz.bytes))

/-- A far RET that releases `n` bytes turns `b` into `t`; protected mode, paging off. -/
def RetEnters (os : Sz) (n : Nat) (b t : State) (stored : List Nat) : Prop :=
  let w := os.bytes
  let sel := retSel b os
  let ip := stackElement b os 0
  b.accessExc .ss (above b w) 2 false = none ∧ StackReadable b os 0 ∧ ∃ c, Named b sel (AtLevel (rplOf sel)) c ∧ Within c ip ∧
  ((rplOf sel = b.cpl ∧ t = jumped (raised (segLoaded b .cs sel c) (2 * w + n)) ip ∧ stored = accessedByte b sel c) ∨
   (b.cpl < rplOf sel ∧ Held b 0 (4 * w + n) ∧ StackReadable b os (3 * w + n) ∧ StackReadable b os (2 * w + n) ∧
     let ss : Word := (stackElement b os (3 * w + n)).setWidth 16
     ∃ d, Named b ss (StackAt ss (rplOf sel)) d ∧
     let v := outerSp os (stackElement b os (2 * w + n))
       (segLoaded (segLoaded { b with cpl := rplOf sel } .cs sel c) .ss ss d)
     t = jumped (dropped (retDrops v) retZero v) ip ∧ stored = accessedByte b sel c ++ accessedByte b ss d))

/-- It raises `e`. -/
def RetFails (os : Sz) (n : Nat) (b : State) (e : Exc) : Prop :=
  let w := os.bytes
  let sel := retSel b os
  let code := fun (level : BitVec 2) =>
    NameFails b sel (AtLevel level) (excGP 0#16) (excGP (selErr sel)) (excNP (selErr sel)) e
  (¬ Held b w 2 ∧ e = excSS 0#16) ∨
  (b.accessExc .ss (above b w) 2 false = none ∧
   ((rplOf sel < b.cpl ∧ e = excGP (selErr sel)) ∨
    (rplOf sel = b.cpl ∧ (code b.cpl ∨ ∃ c, Named b sel (AtLevel b.cpl) c ∧
      ((¬ Held b 0 w ∧ e = excSS 0#16) ∨
       (StackReadable b os 0 ∧ ¬ Within c (stackElement b os 0) ∧ e = excGP 0#16)))) ∨
    (b.cpl < rplOf sel ∧
     ((¬ Held b 0 (4 * w + n) ∧ e = excSS 0#16) ∨
      (Held b 0 (4 * w + n) ∧ (code (rplOf sel) ∨
       ∃ c, Named b sel (AtLevel (rplOf sel)) c ∧ StackReadable b os (3 * w + n) ∧
        let ss : Word := (stackElement b os (3 * w + n)).setWidth 16
        (NameFails b ss (StackAt ss (rplOf sel)) (excGP 0#16) (excGP (selErr ss)) (excNP (selErr ss)) e ∨
         ∃ d, Named b ss (StackAt ss (rplOf sel)) d ∧ StackReadable b os 0 ∧ ¬ Within c (stackElement b os 0) ∧
           e = excGP 0#16)))))))

/-! ## Interrupt return -/

/-- The flags IRET leaves: POPF's, and RF from a 32-bit image. -/
def returnedFlags (s : State) (os : Sz) (image : Dword) : Flags :=
  { poppedFlags s image with rf := if os = .s32 then image.getLsbD 16 else s.flags.rf }

/-- Every flag from an image. -/
def allFlags (v : Dword) : Flags :=
  { cf := v.getLsbD 0, pf := v.getLsbD 2, af := v.getLsbD 4, zf := v.getLsbD 6, sf := v.getLsbD 7, tf := v.getLsbD 8
    ie := v.getLsbD 9, df := v.getLsbD 10, ov := v.getLsbD 11, iopl := v.extractLsb' 12 2, nt := v.getLsbD 14
    rf := v.getLsbD 16, vm := v.getLsbD 17 }

/-- Element `k` of the frame on the stack, paging off. -/
def frameAt (b : State) (sz : Sz) (k : Nat) : Dword := stackElement b sz (k * sz.bytes)

/-- Its low word, a selector. -/
def frameSel (b : State) (sz : Sz) (k : Nat) : Word := (frameAt b sz k).setWidth 16

/-- The frame's first `k` elements lie within the stack segment and can be read. -/
def FrameHeld (b : State) (sz : Sz) (k : Nat) : Prop :=
  Held b 0 (k * sz.bytes) ∧ ∀ i, i < k → StackReadable b sz (i * sz.bytes)

/-- The IRET is not one that goes to V86 mode: an IRETD at CPL 0 with VM in the image. -/
def StaysProtected (b : State) (os : Sz) : Prop :=
  os = .s32 → b.cpl = 0#2 → StackReadable b .s32 8 ∧ (stackElement b .s32 8).getLsbD 17 = false

/-- IRET without a task switch turns `b` into `t`; protected mode, paging off. -/
def IretEnters (os : Sz) (b t : State) (stored : List Nat) : Prop :=
  let sel := frameSel b os 1
  let ip := frameAt b os 0
  let flags := returnedFlags b os (frameAt b os 2)
  StaysProtected b os ∧ ∃ c, Named b sel (AtLevel (rplOf sel)) c ∧ Within c ip ∧
  ((rplOf sel = b.cpl ∧ FrameHeld b os 3 ∧
     t = jumped (raised { segLoaded b .cs sel c with flags := flags } (3 * os.bytes)) ip ∧
     stored = accessedByte b sel c) ∨
   (b.cpl < rplOf sel ∧ FrameHeld b os 5 ∧
     let ss := frameSel b os 4
     ∃ d, Named b ss (StackAt ss (rplOf sel)) d ∧
     let v := { outerSp os (frameAt b os 3) (segLoaded { segLoaded b .cs sel c with flags := flags } .ss ss d) with
       cpl := rplOf sel }
     t = jumped (dropped (iretDrops v) iretZero v) ip ∧ stored = accessedByte b sel c ++ accessedByte b ss d))

/-- It raises `e`. -/
def IretFails (os : Sz) (b : State) (e : Exc) : Prop :=
  let sel := frameSel b os 1
  let code := NameFails b sel (AtLevel (rplOf sel)) (excGP 0#16) (excGP (selErr sel)) (excNP (selErr sel)) e
  let beyond := fun c => ¬ Within c (frameAt b os 0) ∧ e = excGP 0#16
  StaysProtected b os ∧
  ((¬ Held b os.bytes os.bytes ∧ e = excSS 0#16) ∨
   (StackReadable b os os.bytes ∧
    ((rplOf sel < b.cpl ∧ e = excGP (selErr sel)) ∨
     (rplOf sel = b.cpl ∧ ((¬ Held b 0 (3 * os.bytes) ∧ e = excSS 0#16) ∨
       (FrameHeld b os 3 ∧ (code ∨ ∃ c, Named b sel (AtLevel (rplOf sel)) c ∧ beyond c)))) ∨
     (b.cpl < rplOf sel ∧ ((¬ Held b 0 (5 * os.bytes) ∧ e = excSS 0#16) ∨
       (FrameHeld b os 5 ∧ (code ∨ ∃ c, Named b sel (AtLevel (rplOf sel)) c ∧
         let ss := frameSel b os 4
         (NameFails b ss (StackAt ss (rplOf sel)) (excGP 0#16) (excGP (selErr ss)) (excNP (selErr ss)) e ∨
          ∃ d, Named b ss (StackAt ss (rplOf sel)) d ∧ beyond c))))))))

/-- IRETD to V86 mode: nine doublewords give EIP, CS, EFLAGS, ESP, SS, ES, DS, FS and GS. -/
def IretToV86 (b t : State) : Prop :=
  b.cpl = 0#2 ∧ (frameAt b .s32 2).getLsbD 17 = true ∧ FrameHeld b .s32 9 ∧ (frameAt b .s32 0).toNat ≤ 0xFFFF ∧
  let u := { b with flags := allFlags (frameAt b .s32 2), cpl := 3#2, regs := { b.regs with esp := frameAt b .s32 3 } }
  let cs := realSeg (realSeg u .cs (frameSel b .s32 1)) .ss (frameSel b .s32 4)
  let ds := realSeg (realSeg cs .es (frameSel b .s32 5)) .ds (frameSel b .s32 6)
  t = jumped (realSeg (realSeg ds .fs (frameSel b .s32 7)) .gs (frameSel b .s32 8)) (frameAt b .s32 0)

/-! ## Task switches -/

/-- Fields stored one after the other: the bytes of each, its address, its value. -/
def stores : List (Nat × Dword × Dword) → State → State
  | [], u => u
  | (n, a, v) :: l, u => stores l (u.setBytes (span a n) (leBytes n v))

/-- Their addresses. -/
def storedAt (l : List (Nat × Dword × Dword)) : List Nat := l.flatMap fun f => span f.2.1 f.1

/-- The fields of the outgoing task's TSS in the order they are saved, with its flags and its return offset. -/
def taskFields (b : State) (f : Flags) (ret : Dword) : List (Nat × Dword × Dword) :=
  let at1 := fun (n : Nat) => b.tr.base + BitVec.ofNat 32 n
  let sel := fun (g : SegReg) => g.sel.setWidth 32
  if oldTask b then
    [(2, at1 0x12, b.regs.eax), (2, at1 0x14, b.regs.ecx),
     (2, at1 0x16, b.regs.edx), (2, at1 0x18, b.regs.ebx), (2, at1 0x1A, b.regs.esp), (2, at1 0x1C, b.regs.ebp),
     (2, at1 0x1E, b.regs.esi), (2, at1 0x20, b.regs.edi), (2, at1 0x22, sel b.es), (2, at1 0x24, sel b.cs),
     (2, at1 0x26, sel b.ss), (2, at1 0x28, sel b.ds), (2, at1 0x10, eflags f), (2, at1 0x0E, ret)]
  else
    [(4, at1 0x28, b.regs.eax), (4, at1 0x2C, b.regs.ecx),
     (4, at1 0x30, b.regs.edx), (4, at1 0x34, b.regs.ebx), (4, at1 0x38, b.regs.esp), (4, at1 0x3C, b.regs.ebp),
     (4, at1 0x40, b.regs.esi), (4, at1 0x44, b.regs.edi), (2, at1 0x48, sel b.es), (2, at1 0x4C, sel b.cs),
     (2, at1 0x50, sel b.ss), (2, at1 0x54, sel b.ds), (2, at1 0x58, sel b.fs), (2, at1 0x5C, sel b.gs),
     (4, at1 0x24, eflags f), (4, at1 0x20, ret)]

/-- The second doubleword of a TSS descriptor in the GDT with its busy bit set or cleared. -/
def busyField (b : State) (sel : Word) (busy : Bool) : List (Nat × Dword × Dword) :=
  let a := b.gdtr.base + BitVec.ofNat 32 (sel.toNat / 8 * 8) + 4#32
  [(4, a, if busy then dwordAt b a ||| 0x200#32 else dwordAt b a &&& 0xFFFFFDFF#32)]

/-- The old task's descriptor is marked not busy by JMP and IRET. -/
def taskReleased (k : SwitchKind) (b : State) : State :=
  if k = .jmp ∨ k = .iret then stores (busyField b b.tr.sel false) b else b

/-- The old task is saved, with NT = 0 by IRET. -/
def taskSaved (k : SwitchKind) (ret : Dword) (b : State) : State :=
  stores (taskFields b (if k = .iret then { b.flags with nt := false } else b.flags) ret) (taskReleased k b)

/-- CALL and an interrupt write the back link. -/
def taskLinked (k : SwitchKind) (td : Desc) (ret : Dword) (b : State) : State :=
  if k = .call ∨ k = .int then stores [(2, td.base, b.tr.sel.setWidth 32)] (taskSaved k ret b) else taskSaved k ret b

/-- All but IRET mark the new task busy. -/
def taskMarked (k : SwitchKind) (sel : Word) (td : Desc) (ret : Dword) (b : State) : State :=
  let u := taskLinked k td ret b
  if k = .iret then u else stores (busyField u sel true) u

/-- The addresses all this stores to. -/
def taskStored (k : SwitchKind) (sel : Word) (td : Desc) (b : State) : List Nat :=
  (if k = .jmp ∨ k = .iret then storedAt (busyField b b.tr.sel false) else []) ++ storedAt (taskFields b b.flags 0#32) ++
  (if k = .call ∨ k = .int then span td.base 2 else []) ++ (if k = .iret then [] else storedAt (busyField b sel true))

/-- The commit point: TR names the new task, busy, and CR0.TS is 1. -/
def taskCommitted (k : SwitchKind) (sel : Word) (td : Desc) (ret : Dword) (b : State) : State :=
  let u := taskMarked k sel td ret b
  { u with tr := { td.toSeg sel with typ := td.typ ||| 2#4 }, cr0 := { u.cr0 with ts := true } }

/-- The incoming task as its TSS holds it: 16-bit fields, zero-extended, in an 80286 TSS, FS and GS null. -/
def incoming (u : State) (td : Desc) : TaskImage :=
  let d := fun (n : Nat) => dwordAt u (td.base + BitVec.ofNat 32 n)
  let w := fun (n : Nat) => wordAt u (td.base + BitVec.ofNat 32 n)
  let x := fun (n : Nat) => (w n).setWidth 32
  if td.typ = 9#4 ∨ td.typ = 11#4 then
    { cr3 := d 0x1C, eip := d 0x20, eflags := d 0x24
      regs := { eax := d 0x28, ecx := d 0x2C, edx := d 0x30, ebx := d 0x34, esp := d 0x38, ebp := d 0x3C, esi := d 0x40
                edi := d 0x44 }
      es := w 0x48, cs := w 0x4C, ss := w 0x50, ds := w 0x54, fs := w 0x58, gs := w 0x5C, ldt := w 0x60
      trap := (w 0x64).getLsbD 0 }
  else
    { cr3 := 0#32, eip := x 0x0E, eflags := x 0x10
      regs := { eax := x 0x12, ecx := x 0x14, edx := x 0x16, ebx := x 0x18, esp := x 0x1A, ebp := x 0x1C, esi := x 0x1E
                edi := x 0x20 }
      es := w 0x22, cs := w 0x24, ss := w 0x26, ds := w 0x28, fs := 0#16, gs := 0#16, ldt := w 0x2A, trap := false }

/-- The new task before any of its descriptors is loaded, at the old task's CPL: its registers, NT set by CALL and an interrupt,
every segment register and LDTR not valid, the local breakpoint enables off (paging is off, so CR3 stays). -/
def taskBegun (k : SwitchKind) (i : TaskImage) (v : State) : State :=
  let f := allFlags i.eflags
  let unloaded := fun (g : SegReg) sel => { g with sel := sel, valid := false }
  jumped { v with
    regs := i.regs
    flags := { f with nt := f.nt || decide (k = .call ∨ k = .int) }
    es := unloaded v.es i.es, cs := unloaded v.cs i.cs, ss := unloaded v.ss i.ss, ds := unloaded v.ds i.ds
    fs := unloaded v.fs i.fs, gs := unloaded v.gs i.gs, ldtr := unloaded v.ldtr i.ldt
    dr7 := v.dr7 &&& 0xFFFFFFAA#32 } i.eip

/-- One load of a new task: what it does, or the exception it raises. -/
structure Loader where
  loads : State → State → List Nat → Prop
  fails : State → Exc → Prop

/-- LDTR. -/
def ldtLoader (sel : Word) : Loader :=
  let ok := fun (d : Desc) => sel.getLsbD 2 = false ∧ d.s = false ∧ d.typ = 2#4
  { loads := fun b t stored => stored = [] ∧
      ((NullSel sel ∧ t = b) ∨ ∃ d, Named b sel ok d ∧ t = { b with ldtr := d.toSeg sel })
    fails := fun b e => ¬ NullSel sel ∧
      NameFails b sel ok (excTS (selErr sel)) (excTS (selErr sel)) (excTS (selErr sel)) e }

/-- CPL: 3 for a V86 task, else the RPL of CS. -/
def levelLoader (i : TaskImage) : Loader :=
  { loads := fun b t stored => t = { b with cpl := if i.eflags.getLsbD 17 then 3#2 else rplOf i.cs } ∧ stored = []
    fails := fun _ _ => False }

/-- CS and SS. -/
def segLoader (r : Sreg) (sel : Word) (ok : State → Desc → Prop) (absent : Exc) : Loader :=
  { loads := fun b t stored => ∃ d, Named b sel (ok b) d ∧ stored = accessedByte b sel d ∧ t = segLoaded b r sel d
    fails := fun b e => NameFails b sel (ok b) (excTS (selErr sel)) (excTS (selErr sel)) absent e }

/-- DS, ES, FS and GS, which may be null. -/
def dataLoader (r : Sreg) (sel : Word) : Loader :=
  let l := segLoader r sel (fun b d => d.readable = true ∧ Visible b sel d) (excNP (selErr sel))
  { loads := fun b t stored => (NullSel sel ∧ t = b ∧ stored = []) ∨ l.loads b t stored
    fails := fun b e => ¬ NullSel sel ∧ l.fails b e }

/-- A segment register of a V86 task. -/
def realLoader (r : Sreg) (sel : Word) : Loader :=
  { loads := fun b t stored => t = realSeg b r sel ∧ stored = []
    fails := fun _ _ => False }

/-- The loads of a new task, in their order. -/
def taskLoaders (i : TaskImage) : List Loader :=
  ldtLoader i.ldt :: levelLoader i ::
  if i.eflags.getLsbD 17 then
    [realLoader .cs i.cs, realLoader .ss i.ss, realLoader .ds i.ds, realLoader .es i.es, realLoader .fs i.fs,
     realLoader .gs i.gs]
  else
    [segLoader .cs i.cs (fun _ => AtLevel (rplOf i.cs)) (excNP (selErr i.cs)),
     segLoader .ss i.ss (fun b => StackAt i.ss b.cpl) (excSS (selErr i.ss)),
     dataLoader .ds i.ds, dataLoader .es i.es, dataLoader .fs i.fs, dataLoader .gs i.gs]

/-- All of them succeed. -/
def LoadsAll : List Loader → State → State → List Nat → Prop
  | [], b, t, stored => t = b ∧ stored = []
  | l :: ls, b, t, stored => ∃ v s1 s2, l.loads b v s1 ∧ LoadsAll ls v t s2 ∧ stored = s1 ++ s2

/-- One of them, in the state `u`, raises `e`. -/
def LoadsFail : List Loader → State → Exc → State → Prop
  | [], _, _, _ => False
  | l :: ls, b, e, u => (l.fails b e ∧ u = b) ∨ ∃ v s1, l.loads b v s1 ∧ LoadsFail ls v e u

/-- The new task's TSS is long enough. -/
def TaskHolds (td : Desc) : Prop := (if td.typ = 9#4 ∨ td.typ = 11#4 then 0x67 else 0x2B) ≤ td.limit.toNat

/-- A task switch turns `b` into `t`; paging off. -/
def TaskEnters (k : SwitchKind) (sel : Word) (td : Desc) (ret : Dword) (b t : State) (stored : List Nat) : Prop :=
  let v := taskCommitted k sel td ret b
  let i := incoming v td
  IsTask b ∧ TaskHolds td ∧ i.trap = false ∧
  ∃ s2, LoadsAll (taskLoaders i) (taskBegun k i v) t s2 ∧ stored = taskStored k sel td b ++ s2

/-- After its commit point it raises `e` in the new task's state `u`. -/
def TaskFails (k : SwitchKind) (sel : Word) (td : Desc) (ret : Dword) (b : State) (e : Exc) (u : State) : Prop :=
  let v := taskCommitted k sel td ret b
  let i := incoming v td
  IsTask b ∧ TaskHolds td ∧ i.trap = false ∧ LoadsFail (taskLoaders i) (taskBegun k i v) e u

/-- The new TSS has its T bit set, which the model refuses once the TSS has been read. -/
def TaskTraps (k : SwitchKind) (sel : Word) (td : Desc) (ret : Dword) (b : State) : Prop :=
  IsTask b ∧ TaskHolds td ∧ (incoming (taskCommitted k sel td ret b) td).trap = true

/-- A selector names a TSS of a kind `ok` in the GDT, present. -/
def TssNamed (b : State) (sel : Word) (ok : Desc → Prop) (td : Desc) : Prop :=
  InGdt b sel ∧ td = descAt b sel ∧ ok td ∧ td.p = true

/-- It does not: `bad` makes the exception of all but an absent one. -/
def TssFails (b : State) (sel : Word) (ok : Desc → Prop) (bad : Word → Exc) (e : Exc) : Prop :=
  (¬ (InGdt b sel ∧ ok (descAt b sel)) ∧ e = bad (selErr sel)) ∨
  (InGdt b sel ∧ ok (descAt b sel) ∧ (descAt b sel).p = false ∧ e = excNP (selErr sel))

/-- A busy TSS descriptor. -/
def BusyTask (d : Desc) : Prop := d.s = false ∧ (d.typ = 3#4 ∨ d.typ = 11#4)

/-- A task gate, or an available TSS in the GDT, that CPL and the RPL may use. -/
def OpenTask (b : State) (sel : Word) (d : Desc) : Prop :=
  d.s = false ∧ b.cpl ≤ d.dpl ∧ rplOf sel ≤ d.dpl ∧ (d.typ = 5#4 ∨ (sel.getLsbD 2 = false ∧ Available d))

/-- The selector of a far JMP or CALL leads to the TSS `td` with the selector `t`, itself or by a task gate. -/
def LeadsTo (b : State) (sel t : Word) (td : Desc) : Prop :=
  ∃ d, Named b sel (OpenTask b sel) d ∧
    if d.typ = 5#4 then t = d.gateSel ∧ TssNamed b t Available td else t = sel ∧ td = d

/-- It names a task, yet leads to none: JMP raises #GP where CALL raises #TS. -/
def LeadsNowhere (b : State) (sel : Word) (bad : Word → Exc) (e : Exc) : Prop :=
  HasTask b sel ∧
  (NameFails b sel (OpenTask b sel) (excGP 0#16) (bad (selErr sel)) (excNP (selErr sel)) e ∨
   ∃ d, Named b sel (OpenTask b sel) d ∧ d.typ = 5#4 ∧ TssFails b d.gateSel Available bad e)

/-! ## Delivery in protected mode -/

/-- The gate of a vector, paging off. -/
def gateAt (b : State) (vector : Byte) : Desc :=
  let a := b.idtr.base + BitVec.ofNat 32 (8 * vector.toNat)
  { lo := dwordAt b a, hi := dwordAt b (a + 4#32) }

/-- The vector lies within the IDT. -/
def Vectored (b : State) (vector : Byte) : Prop := 8 * vector.toNat + 7 ≤ b.idtr.limit.toNat

/-- An interrupt or trap gate. -/
def IntGate (g : Desc) : Prop := g.s = false ∧ (g.typ = 6#4 ∨ g.typ = 7#4 ∨ g.typ = 14#4 ∨ g.typ = 15#4)

/-- A task gate. -/
def TaskGate (g : Desc) : Prop := g.s = false ∧ g.typ = 5#4

/-- The elements an error code makes: none or one. -/
def codeElements (code : Option Word) : List Dword := (code.map fun w => w.setWidth 32).toList

/-- No interrupt shadow and not halted. -/
def awake (b : State) : State := { b with inhibit := .none, halted := false }

/-- Control goes to the handler at the level `level`: CS is its segment, the level in the RPL; IF is 0 if the gate is an
interrupt gate, TF and NT are 0. -/
def handled (p : State) (g c : Desc) (level : BitVec 2) : State :=
  let t := codeEntered p g.gateSel level c g.gateOff
  { t with flags := { t.flags with ie := t.flags.ie && g.typ.getLsbD 0, tf := false, nt := false } }

/-- A delivery through a gate whose handler runs at the same level: FLAGS as `f` gives it, CS, the return offset and the error
code are pushed. -/
def SameLevel (b : State) (g c : Desc) (f : Flags) (ret : Dword) (code : Option Word) (t : State) (stored : List Nat) : Prop :=
  let sz := g.gateSize
  let n := 3 + (codeElements code).length
  (c.conforming = true ∨ c.dpl = b.cpl) ∧ Within c g.gateOff ∧ Room b sz n ∧
  t = handled (pushList (withFlags (awake b) (if sz = .s32 then 1 else 0) b.flags) sz
        ([eflags f, selElement sz b.cs.sel b 0, ret] ++ codeElements code)) g c b.cpl ∧
  stored = slots b sz n ++ accessedByte b g.gateSel c

/-- The state on the stack of the handler's inner level. -/
def handlerStack (b : State) (g c d : Desc) : State :=
  onInnerStack (withFlags (awake b) (if g.gateSize = .s32 then 2 else 0) b.flags) c.dpl d

/-- A delivery through a gate whose handler runs at an inner level: the stack of that level comes from the TSS, and the old SS
and ESP are pushed first. -/
def InnerLevel (b : State) (g c : Desc) (f : Flags) (ret : Dword) (code : Option Word) (t : State) (stored : List Nat) : Prop :=
  let sz := g.gateSize
  let n := 5 + (codeElements code).length
  c.conforming = false ∧ c.dpl < b.cpl ∧ Within c g.gateOff ∧ ∃ d, InnerStack b c.dpl d ∧
  let v := handlerStack b g c d
  Room v sz n ∧
  t = handled (pushList v sz ([selElement sz b.ss.sel b 0, b.regs.esp, eflags f, selElement sz b.cs.sel b 1, ret]
        ++ codeElements code)) g c c.dpl ∧
  stored = accessedByte b (innerSel b c.dpl) d ++ slots v sz n ++ accessedByte b g.gateSel c

/-- The state on the stack of level 0, out of V86 mode: ESP is the whole of the TSS's. -/
def monitorStack (b : State) (d : Desc) : State :=
  let u := withFlags (awake b) 6 { b.flags with vm := false }
  let v := segLoaded u .ss (innerSel b 0#2) d
  { v with cpl := 0#2, regs := { v.regs with esp := innerPtr b 0#2 } }

/-- The data segment registers made null. -/
def dataNulled (p : State) : State :=
  let nulled := fun (g : SegReg) => { g with sel := 0#16, valid := false }
  { p with gs := nulled p.gs, fs := nulled p.fs, ds := nulled p.ds, es := nulled p.es }

/-- A delivery from V86 mode, to a handler at level 0 through a 32-bit gate: GS, FS, DS, ES, SS, ESP, EFLAGS, CS and the return
offset are pushed, nine doublewords, and DS, ES, FS and GS become null. -/
def FromV86 (b : State) (g c : Desc) (f : Flags) (ret : Dword) (code : Option Word) (t : State) (stored : List Nat) : Prop :=
  let n := 9 + (codeElements code).length
  let e := fun (r : Sreg) i => selElement .s32 (b.seg r).sel b i
  c.dpl = 0#2 ∧ g.gateSize = .s32 ∧ ∃ d, InnerStack b 0#2 d ∧
  let v := monitorStack b d
  Room v .s32 n ∧
  t = handled (dataNulled (pushList v .s32
        ([e .gs 0, e .fs 1, e .ds 2, e .es 3, e .ss 4, b.regs.esp, eflags f, e .cs 5, ret] ++ codeElements code))) g c 0#2 ∧
  stored = accessedByte b (innerSel b 0#2) d ++ slots v .s32 n ++ accessedByte b g.gateSel c

/-- INT n, INT 3 and INTO where they deliver the vector. -/
def Software (s : State) (vector : Byte) (i : Instr) : Prop :=
  (i = .intImm8 vector ∧ FlagsAllowed s) ∨ (i = .int3 ∧ vector = 3#8) ∨ (i = .into ∧ vector = 4#8 ∧ s.flags.ov = true)

/-- What a kind of delivery from the mode `m` does for faults, for interrupts at the boundary, and for the software interrupts,
whose gate must not be more privileged than CPL (and INT n in V86 mode needs IOPL = 3); paging off. -/
def DeliversThrough (m : Mode)
    (enters : State → Desc → Desc → Flags → Dword → Option Word → State → List Nat → Prop) : Prop :=
  ∀ (s : State) (vector : Byte) c t stored, s.mode = m → s.cr0.pg = false → Vectored s vector →
    IntGate (gateAt s vector) → (gateAt s vector).p = true →
    Named s (gateAt s vector).gateSel (fun d => d.isCode = true) c →
    (∀ code, vector ≠ 8#8 →
      enters s (gateAt s vector) c { s.flags with rf := decide (vector ≠ 1#8) } s.eip code t stored →
      takeFault { vector := vector, code := code } s = .next (settle t) ∧ ∀ a, a ∉ stored → t.byte a = s.byte a) ∧
    (enters s (gateAt s vector) c { s.flags with rf := false } s.eip none t stored →
      takeInterrupt vector s = .next (settle t) ∧ ∀ a, a ∉ stored → t.byte a = s.byte a) ∧
    (Accepts s false → s.cpl ≤ (gateAt s vector).dpl →
      enters (begun s) (gateAt s vector) c { s.flags with rf := false } s.next none t stored →
      ∀ i, Software s vector i → Completes i s (begun s) t stored)

/-- A task switch through the vector's task gate, to the TSS `td` with the selector `t`. -/
def GateTask (b : State) (vector : Byte) (td : Desc) : Prop :=
  Vectored b vector ∧ TaskGate (gateAt b vector) ∧ (gateAt b vector).p = true ∧
    TssNamed b (gateAt b vector).gateSel Available td

/-- The size of the error code on the new task's stack. -/
def taskSize (td : Desc) : Sz := if td.typ = 9#4 then .s32 else .s16

/-- It leads to a TSS whose T bit is set. -/
def GateTraps (b : State) (vector : Byte) (ret : Dword) : Prop :=
  ∃ td, GateTask b vector td ∧ TaskTraps .int (gateAt b vector).gateSel td ret (awake b)

/-- TF cleared in the new task, as in every delivery (60_exceptions.md R513, R545, log entry 55). -/
def unstepped (v : State) : State := { v with flags := { v.flags with tf := false } }

/-- A delivery through a task gate: the switch nests, TF is cleared, and the error code is pushed on the new task's stack. -/
def TaskDelivers (b : State) (vector : Byte) (ret : Dword) (code : Option Word) (t : State) (stored : List Nat) : Prop :=
  ∃ td v s1, GateTask b vector td ∧ TaskEnters .int (gateAt b vector).gateSel td ret (awake b) v s1 ∧
    Room v (taskSize td) (codeElements code).length ∧ InCode v v.eip ∧
    t = pushList (unstepped v) (taskSize td) (codeElements code) ∧
    stored = s1 ++ slots v (taskSize td) (codeElements code).length

/-- After the commit point of its switch it raises `e` in the new task's state `u`. -/
def TaskDeliveryFails (b : State) (vector : Byte) (ret : Dword) (code : Option Word) (e : Exc) (u : State) : Prop :=
  ∃ td, GateTask b vector td ∧
    (TaskFails .int (gateAt b vector).gateSel td ret (awake b) e u ∨
     ∃ v s1, TaskEnters .int (gateAt b vector).gateSel td ret (awake b) v s1 ∧
      ((¬ HasRoom v (taskSize td) (codeElements code).length ∧ e = excSS 0#16 ∧ u = unstepped v) ∨
       (Room v (taskSize td) (codeElements code).length ∧ ¬ InCode v v.eip ∧ e = excGP 0#16 ∧
         u = pushList (unstepped v) (taskSize td) (codeElements code))))

/-- The checks on the handler's stack and offset fail with `e`: `n` elements are the error code. -/
def HandlerFails (b : State) (g c : Desc) (n : Nat) (e : Exc) : Prop :=
  let full := e = excSS 0#16
  let beyond := ¬ Within c g.gateOff ∧ e = excGP 0#16
  if b.flags.vm then
    (c.dpl ≠ 0#2 ∧ e = excGP (selErr g.gateSel)) ∨
    (c.dpl = 0#2 ∧ g.gateSize = .s32 ∧ (InnerFails b 0#2 (excGP 0#16) e ∨
      ∃ d, InnerStack b 0#2 d ∧ ¬ HasRoom (monitorStack b d) .s32 (9 + n) ∧ full))
  else if c.conforming = false ∧ c.dpl < b.cpl then
    InnerFails b c.dpl (excGP 0#16) e ∨ ∃ d, InnerStack b c.dpl d ∧
      ((¬ HasRoom (handlerStack b g c d) g.gateSize (5 + n) ∧ full) ∨
       (HasRoom (handlerStack b g c d) g.gateSize (5 + n) ∧ beyond))
  else if c.conforming = true ∨ c.dpl = b.cpl then
    (¬ HasRoom b g.gateSize (3 + n) ∧ full) ∨ (HasRoom b g.gateSize (3 + n) ∧ beyond)
  else e = excGP (selErr g.gateSel)

/-- The checks of a delivery through the IDT fail with `e` (its EXT bit 0), before anything is changed; paging off. -/
def GateFails (b : State) (vector : Byte) (software : Bool) (code : Option Word) (e : Exc) : Prop :=
  let g := gateAt b vector
  let idt : Word := BitVec.ofNat 16 (8 * vector.toNat + 2)
  let open1 := Vectored b vector ∧ (IntGate g ∨ TaskGate g) ∧ (software = true → b.cpl ≤ g.dpl)
  (¬ open1 ∧ e = excGP idt) ∨ (open1 ∧ g.p = false ∧ e = excNP idt) ∨
  (open1 ∧ g.p = true ∧
   ((TaskGate g ∧ (TssFails b g.gateSel Available excTS e ∨
       ∃ td, TssNamed b g.gateSel Available td ∧ ¬ TaskHolds td ∧ e = excTS (selErr g.gateSel))) ∨
    (IntGate g ∧
      (NameFails b g.gateSel (fun d => d.isCode = true) (excGP 0#16) (excGP (selErr g.gateSel)) (excNP (selErr g.gateSel)) e ∨
       ∃ c, Named b g.gateSel (fun d => d.isCode = true) c ∧ HandlerFails b g c (codeElements code).length e))))

/-- The vector's gate is a 16-bit gate to a handler at level 0, in V86 mode: a delivery the spec leaves unspecified. -/
def ShortGateFromV86 (b : State) (vector : Byte) : Prop :=
  let g := gateAt b vector
  b.mode = .v86 ∧ Vectored b vector ∧ IntGate g ∧ g.gateSize = .s16 ∧ g.p = true ∧
    ∃ c, Named b g.gateSel (fun d => d.isCode = true) c ∧ c.dpl = 0#2

/-- Every delivery of the vector is refused with `r`: a fault's, an interrupt's, and a software interrupt's that the gate
admits. -/
def RefusesDelivery (s : State) (vector : Byte) (refuses : State → Dword → Prop) (r : Refusal) : Prop :=
  (refuses s s.eip →
    (∀ code, takeFault { vector := vector, code := code } s = .refused r) ∧ takeInterrupt vector s = .refused r) ∧
  (Accepts s false → s.cpl ≤ (gateAt s vector).dpl → refuses (begun s) s.next →
    ∀ i, Software s vector i → exec i s = .refused r)

/-- The EXT bit set. -/
def external (e : Exc) : Exc := { e with code := e.code.map fun w => w ||| 1#16 }

/-- A delivery begun at `b` fails with `e`: before anything is changed, and then the new exception starts from `base`; or in a new
task, whose state `u` it starts from. -/
def DeliveryFault (base b : State) (vector : Byte) (ret : Dword) (software : Bool) (code : Option Word) (e : Exc) (u : State) :
    Prop :=
  (GateFails b vector software code e ∧ u = base) ∨
  ((software = true → b.cpl ≤ (gateAt b vector).dpl) ∧ TaskDeliveryFails b vector ret code e u)

/-! ## The instruction boundary -/

/-- None of the states that the machine stops on: V86 mode or paging without protection, an enabled breakpoint. -/
def Regular (s : State) : Prop :=
  (s.flags.vm = true → s.cr0.pe = true) ∧ (s.cr0.pg = true → s.cr0.pe = true) ∧ ¬ Enables s.dr7

/-- A single-step trap is taken at this boundary. -/
def TrapDue (s : State) : Prop := s.trapPending = true ∧ s.inhibit ≠ .all

/-- An NMI is. -/
def NmiDue (s : State) : Prop := s.nmiPending = true ∧ s.nmiBlocked = false ∧ s.inhibit ≠ .all

/-- A maskable interrupt is. -/
def IntrDue (s : State) (vector : Byte) : Prop := s.pins.intr = some vector ∧ s.flags.ie = true ∧ s.inhibit = .none

/-- Nothing is: the next event is an instruction. -/
def Quiet (s : State) : Prop :=
  s.pins.reset = false ∧ Regular s ∧ s.shutdown = false ∧ s.halted = false ∧ ¬ TrapDue s ∧ ¬ NmiDue s ∧
    ∀ v, ¬ IntrDue s v

/-- The prefixes with one more; none when they conflict. -/
def withPrefix (p : Prefixes) : Instr → Option Prefixes
  | .lockPrefix => some { p with lock := true }
  | .repnePrefix => if p.rep = some .repe then none else some { p with rep := some .repne }
  | .repPrefix => if p.rep = some .repne then none else some { p with rep := some .repe }
  | .esPrefix => if p.seg = none ∨ p.seg = some .es then some { p with seg := some .es } else none
  | .csPrefix => if p.seg = none ∨ p.seg = some .cs then some { p with seg := some .cs } else none
  | .ssPrefix => if p.seg = none ∨ p.seg = some .ss then some { p with seg := some .ss } else none
  | .dsPrefix => if p.seg = none ∨ p.seg = some .ds then some { p with seg := some .ds } else none
  | .fsPrefix => if p.seg = none ∨ p.seg = some .fs then some { p with seg := some .fs } else none
  | .gsPrefix => if p.seg = none ∨ p.seg = some .gs then some { p with seg := some .gs } else none
  | .operandSizePrefix => some { p with osz := true }
  | .addressSizePrefix => some { p with asz := true }
  | _ => none

/-- A list of prefixes read one after the other. -/
def withPrefixes (p : Prefixes) : List Instr → Option Prefixes
  | [] => some p
  | q :: qs => (withPrefix p q).bind fun p' => withPrefixes p' qs

/-- The operand size: the code segment's, or the other one after a prefix. -/
def sizeUnder (s : State) (toggled : Bool) : Sz :=
  let d := decide (s.mode = .prot) && s.cs.db
  if d ^^ toggled then .s32 else .s16

/-- The bytes at CS:EIP, within the limit of CS, are `code`; paging off, nothing overtaken in the prefetch queue. -/
def CodeAt (s : State) (code : List Byte) : Prop :=
  s.cr0.pg = false ∧ s.queue.stale = [] ∧ code.length ≤ 15 ∧
    ∀ k, (h : k < code.length) → s.cs.holds (s.eip.toNat + k) 1 = true ∧
      s.byte (s.cs.base + s.eip + BitVec.ofNat 32 k).toNat = code[k]
end

end Sys2Proof.Claims

open Sys2Proof Sys2Proof.Machine Sys2Proof.Claims

/-- ADD, OR, ADC, SBB, AND, SUB, XOR and CMP in all their forms (40_a_b.md R204 to R206, R215, 41_c_d_e_h.md R240, 45_m_n_o.md
R380, 48_s.md R445, R469, 49_t_v_w_x.md R487): with an r/m destination, a register, or the accumulator as destination. Once
the destination's checks pass, the instruction completes; the destination takes the result (none for CMP), the flags are
those of the operation, and nothing else changes. -/
def Obligations.AluOperations : Prop :=
  ∀ op os rm r b v,
    AluToRm (aluRm8R8 op rm r) .b8 op rm (fun s => s.reg .b8 r) ∧
    AluToRm (aluRmR op os rm r) os.width op rm (fun s => s.reg os.width r) ∧
    AluToRm (aluRm8Imm8 op rm b) .b8 op rm (fun _ => b) ∧
    AluToRm (aluRmImm op rm v) (immSize v).width op rm (fun _ => immAt _ v) ∧
    AluToRm (aluRmImm8 op os rm b) os.width op rm (fun _ => b.signExtend _) ∧
    AluFromRm (aluR8Rm8 op r rm) .b8 op r rm ∧ AluFromRm (aluRRm op os r rm) os.width op r rm ∧
    AluAcc (aluAlImm8 op b) .b8 op b ∧ AluAcc (aluAccImm op v) (immSize v).width op (immAt _ v)

/-- The status flags of a sum a + b + c and of a difference a - b - c, as exact arithmetic (10_state.md R37). -/
def Obligations.SumAndDifferenceFlags : Prop :=
  ∀ (w : Width) (a b : BitVec w.bits) (c : Bool) (f : Flags),
    (addResult a b c).toNat = (a.toNat + b.toNat + c.toNat) % 2 ^ w.bits ∧
    addFlags a b c f = { f with
      cf := decide (2 ^ w.bits ≤ a.toNat + b.toNat + c.toNat)
      ov := decide ((addResult a b c).toInt ≠ a.toInt + b.toInt + c.toNat)
      af := decide (16 ≤ a.toNat % 16 + b.toNat % 16 + c.toNat)
      zf := decide ((addResult a b c).toNat = 0)
      sf := decide ((addResult a b c).toInt < 0)
      pf := decide (((List.range 8).countP fun i => (addResult a b c).getLsbD i) % 2 = 0) } ∧
    ((subResult a b c).toNat : Int) = ((a.toNat : Int) - b.toNat - c.toNat) % 2 ^ w.bits ∧
    subFlags a b c f = { f with
      cf := decide ((a.toNat : Int) - b.toNat - c.toNat < 0)
      ov := decide ((subResult a b c).toInt ≠ a.toInt - b.toInt - c.toNat)
      af := decide ((a.toNat % 16 : Int) - b.toNat % 16 - c.toNat < 0)
      zf := decide ((subResult a b c).toNat = 0)
      sf := decide ((subResult a b c).toInt < 0)
      pf := decide (((List.range 8).countP fun i => (subResult a b c).getLsbD i) % 2 = 0) }

/-- INC, DEC, NEG and NOT: once the operand's write checks pass, they complete; the operand takes its new value, the flags
are those of the page, nothing else changes (42_i.md R273, 41_c_d_e_h.md R245, 45_m_n_o.md R373, R375). -/
def Obligations.UnaryOperations : Prop :=
  (∀ op rm s p u, Accepts s (isMem rm) → Opens (begun s) .b8 rm true p u →
    Completes (unaryRm8 op rm) s u (unaryEffect .b8 op p u) (bytesOf p)) ∧
  (∀ op os rm s p u, Accepts s (isMem rm) → Opens (begun s) os.width rm true p u →
    Completes (unaryRmSz op os rm) s u (unaryEffect os.width op p u) (bytesOf p)) ∧
  (∀ os r, Plain (.incR os r) (unaryEffect os.width .inc (.reg r)) ∧
    Plain (.decR os r) (unaryEffect os.width .dec (.reg r)))

/-- TEST: the flags of the AND, nothing written (49_t_v_w_x.md R480). -/
def Obligations.TestFlags : Prop :=
  ∀ os rm r b v,
    ReadsRm (.testRm8R8 rm r) .b8 rm (fun _ _ => True) (fun a u => aluState .and a (u.reg .b8 r) u) ∧
    ReadsRm (.testRmR os rm r) os.width rm (fun _ _ => True) (fun a u => aluState .and a (u.reg os.width r) u) ∧
    ReadsRm (.testRm8Imm8 rm b) .b8 rm (fun _ _ => True) (fun a u => aluState .and a b u) ∧
    ReadsRm (.testRmImm rm v) (immSize v).width rm (fun _ _ => True) (fun a u => aluState .and a (immAt _ v) u) ∧
    Plain (.testAlImm8 b) (fun u => aluState .and (u.reg .b8 .ax) b u) ∧
    Plain (.testAccImm v) (fun u => aluState .and (u.reg (immSize v).width .ax) (immAt _ v) u)

/-- MUL and IMUL in all their forms: the exact product, cut where the form cuts it, with CF and OF (45_m_n_o.md R372,
42_i.md R271, 10_state.md R39). -/
def Obligations.Multiplication : Prop :=
  ∀ os rm r b v,
    ReadsRm (.mulRm8 rm) .b8 rm (fun _ _ => True) (mulEffect .b8) ∧
    ReadsRm (.mulRm os rm) os.width rm (fun _ _ => True) (mulEffect os.width) ∧
    ReadsRm (.imulRm8 rm) .b8 rm (fun _ _ => True) (imulEffect .b8) ∧
    ReadsRm (.imulRm os rm) os.width rm (fun _ _ => True) (imulEffect os.width) ∧
    ReadsRm (.imulRRm os r rm) os.width rm (fun _ _ => True) (fun a u => imulToEffect os.width r (u.reg os.width r) a u) ∧
    ReadsRm (.imulRRmImm8 os r rm b) os.width rm (fun _ _ => True) (fun a => imulToEffect os.width r a (b.signExtend _)) ∧
    ReadsRm (.imulRRmImm r rm v) (immSize v).width rm (fun _ _ => True) (fun a => imulToEffect _ r a (immAt _ v))

/-- DIV and IDIV complete when the divisor is not 0 and the quotient fits; else they raise #DE, with every register and every
byte as before (41_c_d_e_h.md R246, 42_i.md R270, 60_exceptions.md R503). -/
def Obligations.Division : Prop :=
  (∀ os rm,
    ReadsRm (.divRm8 rm) .b8 rm (fun u b => divFits u .b8 b) (divEffect .b8) ∧
    ReadsRm (.divRm os rm) os.width rm (fun u b => divFits u os.width b) (divEffect os.width) ∧
    ReadsRm (.idivRm8 rm) .b8 rm (fun u b => idivFits u .b8 b) (idivEffect .b8) ∧
    ReadsRm (.idivRm os rm) os.width rm (fun u b => idivFits u os.width b) (idivEffect os.width)) ∧
  (∀ os rm s p u, Accepts s false →
    (Opens (begun s) .b8 rm false p u →
      (¬ divFits u .b8 (at' u .b8 p) → Takes (.divRm8 rm) s u excDE) ∧
      (¬ idivFits u .b8 (at' u .b8 p) → Takes (.idivRm8 rm) s u excDE)) ∧
    (Opens (begun s) os.width rm false p u →
      (¬ divFits u os.width (at' u os.width p) → Takes (.divRm os rm) s u excDE) ∧
      (¬ idivFits u os.width (at' u os.width p) → Takes (.idivRm os rm) s u excDE)))

/-- AAA, AAS, DAA, DAS, AAD, AAM (40_a_b.md R200 to R203, 41_c_d_e_h.md R243, R244). That DAA and DAS test AL > 9 for the high
digit without the variant of the parameter DaaHighWrap is the model's choice (log entry 12). -/
def Obligations.DecimalAdjustment : Prop :=
  Plain .aaa (asciiEffect 6#8 1#8) ∧ Plain .aas (asciiEffect (-6#8) (-1#8)) ∧
  Plain .daa (decimalEffect 6#8 0x60#8) ∧ Plain .das (decimalEffect (-6#8) (-0x60#8)) ∧
  Plain .aad aadEffect ∧ Plain .aam aamEffect

/-- ROL, ROR, RCL, RCR, SAL, SHR and SAR in all their forms (47_r.md R410 to R414, 48_s.md R441 to R444): once the operand's
write checks pass, they complete with the operand rotated or shifted by the count and the flags of the page. -/
def Obligations.ShiftsAndRotates : Prop :=
  ∀ op os rm b,
    Shifts (shiftRm8One op rm) .b8 op rm (fun _ => 1#8) ∧
    Shifts (shiftRm8ByCl op rm) .b8 op rm (fun s => s.reg .b8 .cx) ∧
    Shifts (shiftRm8Imm8 op rm b) .b8 op rm (fun _ => b) ∧
    Shifts (shiftRmOne op os rm) os.width op rm (fun _ => 1#8) ∧
    Shifts (shiftRmByCl op os rm) os.width op rm (fun s => s.reg .b8 .cx) ∧
    Shifts (shiftRmImm8 op os rm b) os.width op rm (fun _ => b)

/-- SHLD and SHRD (48_s.md R450, R451). With a count of 0 the operand is opened for writing and its old value stored back, which
sets the page's dirty bit where R450 asks for the write check only: the model's choice (log entry 53). -/
def Obligations.DoubleShiftCompletes : Prop :=
  ∀ os rm r b,
    DoubleShifts (.shldRmRImm8 os rm r b) os true rm r (fun _ => b) ∧
    DoubleShifts (.shldRmRCl os rm r) os true rm r (fun s => s.reg .b8 .cx) ∧
    DoubleShifts (.shrdRmRImm8 os rm r b) os false rm r (fun _ => b) ∧
    DoubleShifts (.shrdRmRCl os rm r) os false rm r (fun s => s.reg .b8 .cx)

/-- BT, BTC, BTR and BTS (40_a_b.md R211 to R214): an immediate or register offset in a register operand, or an immediate one
in memory, selects bit offset mod N; a register offset o with a memory operand selects bit o mod N of the operand that lies
(N/8) * floor(o / N) bytes from the effective address, o signed, the sum taken modulo the address size. ZF is free as
92_eei_decisions.md D24 rules, where R211 leaves it (log entry 44). -/
def Obligations.BitTests : Prop :=
  (∀ op (os : Sz) rm b s p u, Accepts s (isMem rm) → Opens (begun s) os.width rm (decide (op ≠ .test)) p u →
    Completes (bitRmImm8 op os rm b) s u (bitEffect os.width op p (b.toNat % os.bits) u) (bitStored op p)) ∧
  (∀ op (os : Sz) d r s, Accepts s false →
    Completes (bitRmR op os (.reg d) r) s (begun s)
      (bitEffect os.width op (.reg d) ((s.reg os.width r).toNat % os.bits) (begun s)) []) ∧
  (∀ op (os : Sz) m r s seg off v as u, Accepts s true → Addressed (begun s) m seg off v →
    OpensMem v seg
      (truncSz (addressSize m) (off + BitVec.ofInt 32 ((s.reg os.width r).toInt / os.bits * os.bytes)))
      os.bytes (decide (op ≠ .test)) as u →
    Completes (bitRmR op os (.mem m) r) s u
      (bitEffect os.width op (.mem as) ((s.reg os.width r).toNat % os.bits) u) (bitStored op (.mem as)))

/-- BSF finds the lowest 1 bit and BSR the highest (40_a_b.md R209, R210); of 0 they set ZF and leave the register free. -/
def Obligations.BitScans : Prop :=
  ∀ os r rm s p u, Accepts s false → Opens (begun s) os.width rm false p u →
    (at' u os.width p = 0#_ →
      Completes (.bsfRRm os r rm) s u (scanZeroEffect os.width r u) [] ∧
      Completes (.bsrRRm os r rm) s u (scanZeroEffect os.width r u) []) ∧
    (∀ i, (at' u os.width p).getLsbD i = true → (∀ j, j < i → (at' u os.width p).getLsbD j = false) →
      Completes (.bsfRRm os r rm) s u (scanEffect os.width r i u) []) ∧
    (∀ i, (at' u os.width p).getLsbD i = true → (∀ j, i < j → (at' u os.width p).getLsbD j = false) →
      Completes (.bsrRRm os r rm) s u (scanEffect os.width r i u) [])

/-- MOV in all its general forms (45_m_n_o.md R360, R363 to R365): the destination takes the source, no flag changes; MOVSX
extends the sign, MOVZX zeros (R370, R371). -/
def Obligations.Moves : Prop :=
  ∀ (os : Sz) rm r b v o,
    StoresRm (.movRm8R8 rm r) .b8 rm (fun s => s.reg .b8 r) ∧
    StoresRm (.movRmR os rm r) os.width rm (fun s => s.reg os.width r) ∧
    StoresRm (.movRm8Imm8 rm b) .b8 rm (fun _ => b) ∧
    StoresRm (.movRmImm rm v) (immSize v).width rm (fun _ => immAt _ v) ∧
    ReadsRm (.movR8Rm8 r rm) .b8 rm (fun _ _ => True) (fun a u => u.setReg .b8 r a) ∧
    ReadsRm (.movRRm os r rm) os.width rm (fun _ _ => True) (fun a u => u.setReg os.width r a) ∧
    Plain (.movR8Imm8 r b) (fun u => u.setReg .b8 r b) ∧
    Plain (.movRImm r v) (fun u => u.setReg _ r (immAt (immSize v).width v)) ∧
    (∀ s as u, Accepts s false → OpensMem (begun s) (s.dataSeg .ds) (immValue o) 1 false as u →
      Completes (.movAlMoffs o) s u (u.setReg .b8 .ax (leValue 8 (as.map u.byte))) []) ∧
    (∀ s as u, Accepts s false → OpensMem (begun s) (s.dataSeg .ds) (immValue o) os.bytes false as u →
      Completes (.movAccMoffs os o) s u (u.setReg os.width .ax (leValue _ (as.map u.byte))) []) ∧
    (∀ s as u, Accepts s false → OpensMem (begun s) (s.dataSeg .ds) (immValue o) 1 true as u →
      Completes (.movMoffsAl o) s u (u.setBytes as (leBytes 1 (s.reg .b8 .ax))) as) ∧
    (∀ s as u, Accepts s false → OpensMem (begun s) (s.dataSeg .ds) (immValue o) os.bytes true as u →
      Completes (.movMoffsAcc os o) s u (u.setBytes as (leBytes os.bytes (s.reg os.width .ax))) as) ∧
    ReadsRm (.movsxRRm8 os r rm) .b8 rm (fun _ _ => True) (fun a u => u.setReg os.width r (BitVec.ofInt _ a.toInt)) ∧
    ReadsRm (.movsxR32Rm16 r rm) .b16 rm (fun _ _ => True) (fun a u => u.setReg .b32 r (BitVec.ofInt _ a.toInt)) ∧
    ReadsRm (.movzxRRm8 os r rm) .b8 rm (fun _ _ => True) (fun a u => u.setReg os.width r (BitVec.ofNat _ a.toNat)) ∧
    ReadsRm (.movzxR32Rm16 r rm) .b16 rm (fun _ _ => True) (fun a u => u.setReg .b32 r (BitVec.ofNat _ a.toNat))

/-- LEA, XCHG and XLAT (44_l.md R322, 49_t_v_w_x.md R484 to R486). LEA stores the offset, cut to the operand size; XLAT loads
AL from (E)BX + AL. -/
def Obligations.AddressAndExchange : Prop :=
  ∀ (os as' : Sz) r rm m,
    (∀ s seg off v, Accepts s false → Addressed (begun s) m seg off v →
      Completes (.lea os r (.mem m)) s v (v.setReg os.width r (off.setWidth _)) []) ∧
    Plain (.xchgAccR os r) (fun u => (u.setReg os.width .ax (u.reg os.width r)).setReg os.width r (u.reg os.width .ax)) ∧
    Exchanges (.xchgRm8R8 rm r) .b8 rm r ∧ Exchanges (.xchgRmR os rm r) os.width rm r ∧
    (∀ s as u, Accepts s false →
      OpensMem (begun s) (s.dataSeg .ds)
        (truncSz as' ((s.reg as'.width .bx).setWidth 32 + (s.reg .b8 .ax).setWidth 32)) 1 false as u →
      Completes (.xlat as') s u (u.setReg .b8 .ax (leValue 8 (as.map u.byte))) [])

/-- CBW, CWDE, CWD, CDQ and SAHF: their encodings, what they change, and that nothing else changes and no exception is raised (RF
apart, which every completion clears; 41_c_d_e_h.md R234, R242, 48_s.md R440). -/
def Obligations.Conversions : Prop :=
  (∀ os as rest,
    decodeOne os as (0x98#8 :: rest) = .ok (.cbw os, rest) ∧ decodeOne os as (0x99#8 :: rest) = .ok (.cwd os, rest) ∧
    decodeOne os as (0x9E#8 :: rest) = .ok (.sahf, rest)) ∧
  Plain (.cbw .s16) (fun u => u.setReg .b16 .ax (BitVec.ofInt 16 (u.reg .b8 .ax).toInt)) ∧
  Plain (.cbw .s32) (fun u => u.setReg .b32 .ax (BitVec.ofInt 32 (u.reg .b16 .ax).toInt)) ∧
  (∀ os, Plain (.cwd os) (fun u =>
    u.setReg os.width .dx (if (u.reg os.width .ax).toInt < 0 then BitVec.allOnes _ else 0#_))) ∧
  Plain .sahf (fun u =>
    let v := u.reg .b8 .sp
    { u with flags := { u.flags with
        sf := v.getLsbD 7, zf := v.getLsbD 6, af := v.getLsbD 4, pf := v.getLsbD 2, cf := v.getLsbD 0 } })

/-- SETcc stores 1 when its condition holds, else 0, and LAHF copies the low flags, the reserved ones at their fixed values
(48_s.md R447, 44_l.md R320, log entry 27); and what the conditions say of the operands of a comparison (30_encoding.md R160,
10_state.md R37). -/
def Obligations.ConditionsAndSets : Prop :=
  (∀ c rm, StoresRm (setcc c rm) .b8 rm (fun s => if condHolds c s.flags then 1#8 else 0#8)) ∧
  Plain .lahf (fun u => u.setReg .b8 .sp (lahfByte u.flags)) ∧
  ∀ (w : Width) (a b : BitVec w.bits) (f : Flags),
    let g := subFlags a b false f
    (condHolds .e g = true ↔ a = b) ∧ (condHolds .ne g = true ↔ a ≠ b) ∧
    (condHolds .b g = true ↔ a.toNat < b.toNat) ∧ (condHolds .ae g = true ↔ b.toNat ≤ a.toNat) ∧
    (condHolds .be g = true ↔ a.toNat ≤ b.toNat) ∧ (condHolds .a g = true ↔ b.toNat < a.toNat) ∧
    (condHolds .l g = true ↔ a.toInt < b.toInt) ∧ (condHolds .ge g = true ↔ b.toInt ≤ a.toInt) ∧
    (condHolds .le g = true ↔ a.toInt ≤ b.toInt) ∧ (condHolds .g g = true ↔ b.toInt < a.toInt) ∧
    (condHolds .s g = true ↔ (a - b).toInt < 0) ∧ (condHolds .ns g = true ↔ 0 ≤ (a - b).toInt) ∧
    (condHolds .o g = true ↔ (a - b).toInt ≠ a.toInt - b.toInt) ∧
    (condHolds .no g = true ↔ (a - b).toInt = a.toInt - b.toInt) ∧
    (condHolds .p g = true ↔ ((List.range 8).countP fun i => (a - b).getLsbD i) % 2 = 0) ∧
    (condHolds .np g = true ↔ ((List.range 8).countP fun i => (a - b).getLsbD i) % 2 = 1)

/-- BOUND completes, changing nothing, when the signed index lies between the two bounds in memory, the lower at the lower
address and read first; else it raises #BR (40_a_b.md R208). -/
def Obligations.Bound : Prop :=
  ∀ (os : Sz) r m s seg off v lo hi u, Accepts s false → Addressed (begun s) m seg off v →
    ReadsParts v seg off os.bytes os.bytes lo hi u →
    let lower : BitVec os.bits := leValue _ lo
    let upper : BitVec os.bits := leValue _ hi
    let index : BitVec os.bits := (s.reg .b32 r).setWidth _
    (lower.toInt ≤ index.toInt ∧ index.toInt ≤ upper.toInt → Completes (.bound os r (.mem m)) s u u []) ∧
    (index.toInt < lower.toInt ∨ upper.toInt < index.toInt → Takes (.bound os r (.mem m)) s u excBR)

/-- PUSH in all its forms, and PUSHF (46_p.md R397 to R400, R402): the value, read before the pointer moves, goes to the element
below the top of the stack, the pointer moves down to it, nothing else changes; a stack access that fails raises its exception
with nothing changed. PUSHF in V86 mode with IOPL below 3 raises #GP(0). PUSHA (R401): eight pushes, the stack pointer among
them as it was before, all eight checked before any is made; the first that fails raises its exception with nothing changed;
with paging off the places are written out. -/
def Obligations.Pushes : Prop :=
  ∀ (os : Sz) r b v g,
    PushesOne (.pushR os r) os (fun _ => True) 0 (fun s => (s.reg os.width r).setWidth 32) ∧
    PushesOne (.pushImm8 os b) os (fun _ => True) 0 (fun _ => b.signExtend 32) ∧
    PushesOne (.pushImm v) (immSize v) (fun _ => True) 0 (fun _ => immValue v) ∧
    PushesOne (.pushf os) os FlagsAllowed 0 (fun s => eflags s.flags) ∧
    (∀ s, Accepts s false → ¬ FlagsAllowed s → exec (.pushf os) s = takeFault (excGP 0#16) s) ∧
    PushesOne (pushSregInstr os g) os (fun _ => True) (if os = .s32 then 1 else 0)
      (fun s => selElement os (s.seg g).sel s 0) ∧
    (∀ m s seg off w as u as' u', Accepts s false → Addressed (begun s) m seg off w →
      OpensMem w seg off os.bytes false as u → OpensMem u .ss (below u os 1) os.bytes true as' u' →
      Completes (.pushMem os m) s u' (pushed u' os as' (leValue 32 (as.map u.byte))) as') ∧
    (∀ m s seg off w e u, Accepts s false → Addressed (begun s) m seg off w →
      FailsMem w seg off os.bytes false e u ∨
        (∃ as v, OpensMem w seg off os.bytes false as v ∧ FailsMem v .ss (below v os 1) os.bytes true e u) →
      Raises (.pushMem os m) s u e) ∧
    (∀ s, Accepts s false → s.cr0.pg = false →
      (Room (begun s) os 8 → Completes (.pusha os) s (begun s) (pushList (begun s) os (pushedRegs s)) (slots (begun s) os 8)) ∧
      ∀ k e, k < 8 → Room (begun s) os k → (begun s).accessExc .ss (below (begun s) os (k + 1)) os.bytes true = some e →
        exec (.pusha os) s = takeFault e s) ∧
    (∀ s ps u, Accepts s false →
      (OpensBelow (begun s) os 8 ps u → Completes (.pusha os) s u
        ((storedBelow u os ps (pushedRegs s)).setSp (below (begun s) os 8)) ps.flatten) ∧
      ∀ k e v, k < 8 → OpensBelow (begun s) os k ps u → FailsMem u .ss (below (begun s) os (k + 1)) os.bytes true e v →
        Raises (.pusha os) s v e)

/-- POP to a register or to memory, POPF and POPA (46_p.md R392, R393, R395, R396). POP to memory finds its operand after the
stack pointer has moved; POPA discards the element of the stack pointer. An access that fails raises its exception with nothing
changed. POPF in V86 mode with IOPL below 3 raises #GP(0). A POP into SP with a 16-bit operand on a 32-bit stack keeps the
increment's carry in ESP bits 31 to 16 (the model's choice, log entry 51). -/
def Obligations.Pops : Prop :=
  ∀ (os : Sz) s as u, Accepts s false →
    (¬ FlagsAllowed s → exec (.popf os) s = takeFault (excGP 0#16) s) ∧
    (OpensMem (begun s) .ss s.sp os.bytes false as u →
      (∀ r, Completes (.popR os r) s u ((raised u os.bytes).setReg os.width r (leValue _ (as.map u.byte))) []) ∧
      (FlagsAllowed s →
        exec (.popf os) s = .next (retire s
          { raised u os.bytes with flags := poppedFlags s (leValue 32 (as.map u.byte)) }) ∧ Found (begun s) u) ∧
      (∀ m seg off v as' u', Addressed (raised u os.bytes) m seg off v → OpensMem v seg off os.bytes true as' u' →
        CompletesFrom (raised u os.bytes) (.popMem os m) s u' (u'.setBytes as' (as.map u.byte)) as' ∧ Found (begun s) u) ∧
      (∀ m seg off v e u', Addressed (raised u os.bytes) m seg off v → FailsMem v seg off os.bytes true e u' →
        Raises (.popMem os m) s u' e)) ∧
    (∀ e u', FailsMem (begun s) .ss s.sp os.bytes false e u' →
      (∀ r, Raises (.popR os r) s u' e) ∧ (∀ m, Raises (.popMem os m) s u' e) ∧
      (FlagsAllowed s → Raises (.popf os) s u' e)) ∧
    (∀ e u', FailsMem (begun s) .ss s.sp (8 * os.bytes) false e u' → Raises (.popa os) s u' e) ∧
    (OpensMem (begun s) .ss s.sp (8 * os.bytes) false as u →
      let e := element os (as.map u.byte)
      let t := (((((((raised u (8 * os.bytes)).setReg os.width .di (e 0)).setReg os.width .si (e 1)).setReg os.width .bp
        (e 2)).setReg os.width .bx (e 4)).setReg os.width .dx (e 5)).setReg os.width .cx (e 6)).setReg os.width .ax (e 7)
      Completes (.popa os) s u t [])

/-- ENTER, paging off, and LEAVE (41_c_d_e_h.md R247, 44_l.md R323). With a 32-bit operand on a 16-bit stack the frame pointer
is SP zero-extended, in the pushed element and in EBP (the model's choice, log entry 57). -/
def Obligations.Frames : Prop :=
  ∀ os s, Accepts s false →
    (∀ w (b : Byte), s.cr0.pg = false → Room (begun s) os (b.toNat % 32 + 1) →
      DisplayReadable (begun s) os (b.toNat % 32 - 1) →
      Completes (.enter os w b) s (begun s) (enterEffect os w (b.toNat % 32) (begun s)) (slots (begun s) os (b.toNat % 32 + 1))) ∧
    (∀ as u, OpensMem (begun s) .ss (leaveOffset s) os.bytes false as u →
      Completes (.leave os) s u
        ((u.setSp (leaveOffset s + BitVec.ofNat 32 os.bytes)).setReg os.width .bp (leValue _ (as.map u.byte))) [])

/-- Jcc, JCXZ and LOOPcc (43_j.md R300 to R302, 44_l.md R342 to R344): a transfer taken goes to the next instruction's offset plus
the displacement, cut to the operand size, or raises #GP(0) with nothing changed when that is beyond the CS limit; LOOP counts
(E)CX down and leaves every flag. -/
def Obligations.ConditionalTransfers : Prop :=
  (∀ c os b, JumpsWhen (jccRel8 c os b) os (BitVec.ofInt 32 b.toInt) id (fun s => condHolds c s.flags = true)) ∧
  (∀ c v, JumpsWhen (jccRel c v) (immSize v) (relOf v) id (fun s => condHolds c s.flags = true)) ∧
  (∀ os (as : Sz) b,
    JumpsWhen (.jcxz os as b) os (BitVec.ofInt 32 b.toInt) id (fun s => s.reg as.width .cx = 0#_) ∧
    JumpsWhen (.loop os as b) os (BitVec.ofInt 32 b.toInt) (counted as) (fun s => s.reg as.width .cx ≠ 1#_) ∧
    JumpsWhen (.loope os as b) os (BitVec.ofInt 32 b.toInt) (counted as)
      (fun s => s.reg as.width .cx ≠ 1#_ ∧ s.flags.zf = true) ∧
    JumpsWhen (.loopne os as b) os (BitVec.ofInt 32 b.toInt) (counted as)
      (fun s => s.reg as.width .cx ≠ 1#_ ∧ s.flags.zf = false))

/-- Near JMP, CALL and RET (43_j.md R303, 41_c_d_e_h.md R230, 47_r.md R425): CALL pushes the offset of the next instruction; RET
pops it and releases its parameters; a target beyond the CS limit raises #GP(0) with nothing changed. -/
def Obligations.NearTransfers : Prop :=
  ∀ os b v rm,
    JumpsWhen (.jmpRel8 os b) os (BitVec.ofInt 32 b.toInt) id (fun _ => True) ∧
    JumpsWhen (.jmpRel v) (immSize v) (relOf v) id (fun _ => True) ∧
    (∀ s p u, Accepts s false → Opens (begun s) os.width rm false p u →
      (InCode s ((at' u os.width p).setWidth 32) →
        Completes (.jmpRm os rm) s u (jumped u ((at' u os.width p).setWidth 32)) []) ∧
      (¬ InCode s ((at' u os.width p).setWidth 32) →
        Takes (.jmpRm os rm) s u (excGP 0#16) ∧ Takes (.callRm os rm) s u (excGP 0#16))) ∧
    (∀ s, Accepts s false → ¬ InCode s (target s (immSize v) (relOf v)) → exec (.callRel v) s = takeFault (excGP 0#16) s) ∧
    (∀ s as u, Accepts s false → InCode s (target s (immSize v) (relOf v)) →
      OpensMem (begun s) .ss (below s (immSize v) 1) (immSize v).bytes true as u →
      Completes (.callRel v) s u (jumped (pushed u (immSize v) as s.next) (target s (immSize v) (relOf v))) as) ∧
    (∀ s p u as u', Accepts s false → Opens (begun s) os.width rm false p u →
      InCode s ((at' u os.width p).setWidth 32) → OpensMem u .ss (below s os 1) os.bytes true as u' →
      Completes (.callRm os rm) s u' (jumped (pushed u' os as s.next) ((at' u os.width p).setWidth 32)) as) ∧
    (∀ s as u, Accepts s false → OpensMem (begun s) .ss s.sp os.bytes false as u →
      (InCode s (leValue 32 (as.map u.byte)) →
        let t := jumped (raised u os.bytes) (leValue 32 (as.map u.byte))
        Completes (.retNear os) s u t [] ∧ ∀ w, Completes (.retNearImm os w) s u (raised t w.toNat) []) ∧
      (¬ InCode s (leValue 32 (as.map u.byte)) →
        Takes (.retNear os) s u (excGP 0#16) ∧ ∀ w, Takes (.retNearImm os w) s u (excGP 0#16)))

/-- Far JMP, CALL and RET in real-address mode and V86 mode (43_j.md R304, 41_c_d_e_h.md R231, 47_r.md R426); the stack forms with
paging off. An offset above FFFFH raises Interrupt 13 with nothing changed. -/
def Obligations.FarTransfersReal : Prop :=
  ∀ s, Accepts s false → s.mode ≠ .prot →
    (∀ q : FarPtr, (farParts q).1.toNat ≤ 0xFFFF →
      Completes (.jmpFarPtr q) s (begun s) (jumped (realCs (begun s) (farParts q).2) (farParts q).1) [] ∧
      (s.cr0.pg = false → Room (begun s) (farSize q) 2 →
        Completes (.callFarPtr q) s (begun s)
          (jumped (realCs (called (begun s) (farSize q)) (farParts q).2) (farParts q).1) (slots (begun s) (farSize q) 2))) ∧
    (∀ q : FarPtr, ¬ (farParts q).1.toNat ≤ 0xFFFF →
      exec (.jmpFarPtr q) s = takeFault (excGP 0#16) s ∧ exec (.callFarPtr q) s = takeFault (excGP 0#16) s) ∧
    (∀ (os : Sz) m seg a v as u, Addressed (begun s) m seg a v → OpensMem v seg a (os.bytes + 2) false as u →
      let off : Dword := leValue 32 ((as.map u.byte).take os.bytes)
      let sel : Word := leValue 16 ((as.map u.byte).drop os.bytes)
      (off.toNat ≤ 0xFFFF →
        Completes (.jmpFarMem os (.mem m)) s u (jumped (realCs u sel) off) [] ∧
        (s.cr0.pg = false → Room (begun s) os 2 →
          Completes (.callFarMem os (.mem m)) s u (jumped (realCs (called u os) sel) off) (slots (begun s) os 2))) ∧
      (¬ off.toNat ≤ 0xFFFF →
        Takes (.jmpFarMem os (.mem m)) s u (excGP 0#16) ∧ Takes (.callFarMem os (.mem m)) s u (excGP 0#16))) ∧
    (∀ os : Sz, s.cr0.pg = false → StackReadable (begun s) os 0 → StackReadable (begun s) os os.bytes →
      let off := stackElement (begun s) os 0
      let sel : Word := (stackElement (begun s) os os.bytes).setWidth 16
      (off.toNat ≤ 0xFFFF →
        Completes (.retFar os) s (begun s) (jumped (realCs (raised (begun s) (2 * os.bytes)) sel) off) [] ∧
        ∀ w, Completes (.retFarImm os w) s (begun s)
          (jumped (realCs (raised (begun s) (2 * os.bytes + w.toNat)) sel) off) []) ∧
      (¬ off.toNat ≤ 0xFFFF →
        exec (.retFar os) s = takeFault (excGP 0#16) s ∧ ∀ w, exec (.retFarImm os w) s = takeFault (excGP 0#16) s))

/-- Far JMP, CALL and RET in protected mode, paging off (43_j.md R305, 41_c_d_e_h.md R232, 47_r.md R427, R428): to a code segment,
or through a call gate, at the same level, and for CALL through a gate at an inner one; RET at the same and at an outer level.
They complete where every check passes, and else raise the exception of the first that fails, nothing changed. The parameters
that a RET to an outer level releases stay on the outer stack (the listing of R428, log entry 12), and a CALL inward pushes
the whole ESP (log entry 34); the pointer of an 80286 TSS is zero-extended (log entry 30); a data segment register is not made
null at an outer level for its RPL (the pseudocode of R428, log entry 60). -/
def Obligations.FarTransfersProtected : Prop :=
  ∀ s, Accepts s false → s.mode = .prot → s.cr0.pg = false →
    (∀ call os off sel u i, FarForm s call os off sel u i →
      (∀ t stored, FarEnters call os off sel u t stored → Completes i s u t stored) ∧
      (∀ e, FarFails call os off sel u e → Takes i s u e)) ∧
    (∀ (os : Sz) n i, (i = .retFar os ∧ n = 0) ∨ (∃ w : Word, i = .retFarImm os w ∧ n = w.toNat) →
      (∀ t stored, RetEnters os n (begun s) t stored → Completes i s (begun s) t stored) ∧
      (∀ e, RetFails os n (begun s) e → exec i s = takeFault e s))

/-- INT 3, INT n and INTO in real-address mode (42_i.md R286, R287): they push FLAGS, CS and the offset of the next instruction,
clear IF and TF, and go to the vector's entry; INTO does nothing when OF is 0. That NT stays follows R287, 10_state.md R38 and
R39, where 60_exceptions.md R513 says "always" (the model's reading, log entry 54); that with TF = 1 they leave the single-step trap pending,
for the handler's first boundary, is the model's reading (60_exceptions.md R545, log entry 16). INT n in V86 mode with IOPL
below 3 raises #GP(0). -/
def Obligations.SoftwareInterruptsReal : Prop :=
  Interrupts .int3 3#8 (fun _ => True) ∧ (∀ n, Interrupts (.intImm8 n) n (fun _ => True)) ∧
  Interrupts .into 4#8 (fun s => s.flags.ov = true) ∧
  (∀ s, Accepts s false → s.flags.ov = false → Completes .into s (begun s) (begun s) []) ∧
  (∀ s n, Accepts s false → s.mode = .v86 → s.flags.iopl ≠ 3#2 → exec (.intImm8 n) s = takeFault (excGP 0#16) s)

/-- TAKING AN EXCEPTION OR INTERRUPT in real-address mode (42_i.md R287, 60_exceptions.md R503, R504, R510): FLAGS (RF 1 for a
fault, 0 for a trap and an interrupt), CS and EIP are pushed, no error code, IF and TF cleared, and control goes to the vector's
entry; nothing but that and the three words changes. That NT stays follows R287, 10_state.md R38 and R39, where R513 says
"always" (the model's reading, log entry 54). -/
def Obligations.DeliveryReal : Prop :=
  ∀ s vector,
    (Deliverable s vector →
      (∀ code, vector ≠ 8#8 →
        takeFault { vector := vector, code := code } s =
          .next (settle (entered s { s.flags with rf := decide (vector ≠ 1#8) } vector s.eip))) ∧
      takeInterrupt vector s = .next (settle (entered s { s.flags with rf := false } vector s.eip)) ∧
      ∀ f a, a ∉ slots s .s16 3 → (settle (entered s f vector s.eip)).byte a = s.byte a)

/-- IRET in every mode but with NT = 1 in protected mode (42_i.md R290 to R293; `Obligations.TaskSwitches` has that). In
real-address mode, and in V86 mode with IOPL = 3, the three elements are checked together; in V86 mode with IOPL below 3 it raises
#GP(0). In protected mode, paging off, it returns to the same level, to an outer level, or to V86 mode, or raises the
exception of the first check that fails. NMI is unblocked by every IRET that completes. A data segment register is not made
null at an outer level for its RPL (the listing of R292; the model's reading, log entry 60). -/
def Obligations.InterruptReturn : Prop :=
  ∀ (os : Sz) s, Accepts s false →
    let b := begun s
    let returns := fun (t : State) => exec (.iret os) s = .next (retire s { t with nmiBlocked := false })
    ((s.mode = .real ∨ (s.mode = .v86 ∧ s.flags.iopl = 3#2)) →
      (∀ e, b.accessExc .ss s.sp (3 * os.bytes) false = some e → exec (.iret os) s = takeFault e s) ∧
      (∀ as u, OpensMem b .ss s.sp (3 * os.bytes) false as u →
        let e := fun k => (element os (as.map u.byte) k).setWidth 32
        ((e 0).toNat ≤ 0xFFFF → Found b u ∧
          returns { jumped (realCs (raised u (3 * os.bytes)) ((e 1).setWidth 16)) (e 0) with
            flags := returnedFlags s os (e 2) }) ∧
        (¬ (e 0).toNat ≤ 0xFFFF → Takes (.iret os) s u (excGP 0#16)))) ∧
    (s.mode = .v86 → s.flags.iopl ≠ 3#2 → exec (.iret os) s = takeFault (excGP 0#16) s) ∧
    (s.mode = .prot → s.flags.nt = false → s.cr0.pg = false →
      (∀ t stored, IretEnters os b t stored → returns t ∧ ∀ a, a ∉ stored → t.byte a = s.byte a) ∧
      (∀ e, IretFails os b e → exec (.iret os) s = takeFault e s) ∧
      (os = .s32 →
        (∀ t, IretToV86 b t → returns t ∧ t.mem = s.mem) ∧
        (s.cpl = 0#2 → ¬ Held b 8 4 → exec (.iret os) s = takeFault (excSS 0#16) s) ∧
        (s.cpl = 0#2 → StackReadable b .s32 8 → (frameAt b .s32 2).getLsbD 17 = true →
          (¬ Held b 0 36 → exec (.iret os) s = takeFault (excSS 0#16) s) ∧
          (FrameHeld b .s32 9 → ¬ (frameAt b .s32 0).toNat ≤ 0xFFFF → exec (.iret os) s = takeFault (excGP 0#16) s))))

/-- Task switches, paging off (60_exceptions.md R530, R531, 41_c_d_e_h.md R233, 43_j.md R306, 42_i.md R289, R294): by a far JMP
or CALL to a TSS or a task gate, by IRET with NT = 1, and by a task gate in the IDT. The old task is saved in its TSS, the busy
bits and the back link follow, TR, CR0.TS, the registers and LDTR come from the new TSS, and its segment registers are loaded in
their order. A check that fails before the commit point raises its exception in the old task; after it, in the new one, where an
IRET that fails leaves NMI blocked (the model's choice, log entry 50). A TSS whose T bit is 1 is refused (R546), by every kind
of switch. The model's choices: the T bit is looked at before the loads, and LDTR, CPL and the segment registers follow in that
order (log entry 36); EFLAGS is saved unmodified by a fault (log entry 37); a task gate clears TF (R513, R545) after the loads
and before the error code is pushed (log entry 55); INT n, INT 3 and INTO with TF = 1 leave the single-step trap pending (R545,
log entry 16); a double fault saves the EIP of the state its delivery began in (log entry 58). -/
def Obligations.TaskSwitches : Prop :=
  ∀ s, s.cr0.pg = false → s.mode ≠ .real →
    (∀ call os off sel u i, Accepts s false → s.mode = .prot → FarForm s call os off sel u i →
      let k : SwitchKind := if call then .call else .jmp
      let bad : Word → Exc := if call then excTS else excGP
      (∀ e, LeadsNowhere u sel bad e → Takes i s u e) ∧
      (∀ t td, LeadsTo u sel t td →
        (¬ TaskHolds td → Takes i s u (excTS (selErr t))) ∧
        (TaskTraps k t td s.next u → exec i s = .refused .tssTrapBit) ∧
        (∀ e v, TaskFails k t td s.next u e v → exec i s = takeFault e v) ∧
        (∀ v stored, TaskEnters k t td s.next u v stored →
          (InCode v v.eip →
            exec i s = .next (retire s v) ∧ (∀ a, a ∉ stored → v.byte a = u.byte a) ∧ Found (begun s) u) ∧
          (¬ InCode v v.eip → exec i s = takeFault (bad 0#16) v)))) ∧
    (∀ os, Accepts s false → s.mode = .prot → s.flags.nt = true →
      let b := begun s
      let sel := wordAt b b.tr.base
      (∀ e, TssFails b sel BusyTask excTS e → exec (.iret os) s = takeFault e s) ∧
      (∀ td, TssNamed b sel BusyTask td →
        (¬ TaskHolds td → exec (.iret os) s = takeFault (excTS (selErr sel)) s) ∧
        (TaskTraps .iret sel td s.next b → exec (.iret os) s = .refused .tssTrapBit) ∧
        (∀ e v, TaskFails .iret sel td s.next b e v → exec (.iret os) s = takeFault e v) ∧
        (∀ v stored, TaskEnters .iret sel td s.next b v stored →
          (InCode v v.eip →
            exec (.iret os) s = .next (retire s { v with nmiBlocked := false }) ∧ ∀ a, a ∉ stored → v.byte a = s.byte a) ∧
          (¬ InCode v v.eip → exec (.iret os) s = takeFault (excGP 0#16) v)))) ∧
    (∀ vector t stored,
      (∀ code, (vector = 8#8 → code = some 0#16) → TaskDelivers s vector s.eip code t stored →
        takeFault { vector := vector, code := code } s = .next (settle t) ∧ ∀ a, a ∉ stored → t.byte a = s.byte a) ∧
      (TaskDelivers s vector s.eip none t stored →
        takeInterrupt vector s = .next (settle t) ∧ ∀ a, a ∉ stored → t.byte a = s.byte a) ∧
      (Accepts s false → s.cpl ≤ (gateAt s vector).dpl → TaskDelivers (begun s) vector s.next none t stored →
        ∀ i, Software s vector i → exec i s = .next (retire s t) ∧ ∀ a, a ∉ stored → t.byte a = s.byte a)) ∧
    ∀ vector, RefusesDelivery s vector (fun b ret => GateTraps b vector ret) .tssTrapBit

/-- IN and OUT in all their forms (42_i.md R272, R276, 45_m_n_o.md R381). -/
def Obligations.PortMoves : Prop :=
  ∀ (os : Sz) b,
    Inputs (.inAlImm8 b) .b8 (fun _ => b.setWidth 16) ∧ Inputs (.inAccImm8 os b) os.width (fun _ => b.setWidth 16) ∧
    Inputs .inAlDx .b8 (fun s => s.reg .b16 .dx) ∧ Inputs (.inAccDx os) os.width (fun s => s.reg .b16 .dx) ∧
    Outputs (.outImm8Al b) .b8 (fun _ => b.setWidth 16) ∧ Outputs (.outImm8Acc os b) os.width (fun _ => b.setWidth 16) ∧
    Outputs .outDxAl .b8 (fun s => s.reg .b16 .dx) ∧ Outputs (.outDxAcc os) os.width (fun s => s.reg .b16 .dx)

/-- The string instructions without a repeat prefix: one operation (45_m_n_o.md R369, R382, 41_c_d_e_h.md R241, 48_s.md R446, R467,
44_l.md R341, 42_i.md R274). INS and OUTS where the permission map denies the port raise #GP(0) with nothing changed. -/
def Obligations.StringOperations : Prop :=
  ∀ op (os as : Sz) s u t stored, Accepts s false →
    (Operates op as .b8 (begun s) u t stored → Completes (strByte op as) s u t stored) ∧
    (Operates op as os.width (begun s) u t stored → Completes (strWord op os as) s u t stored) ∧
    (op = .ins ∨ op = .outs →
      (PortDenied (begun s) (s.reg .b16 .dx) 1 → exec (strByte op as) s = takeFault (excGP 0#16) s) ∧
      (PortDenied (begun s) (s.reg .b16 .dx) os.bytes → exec (strWord op os as) s = takeFault (excGP 0#16) s))

/-- A repeated string instruction is one operation a step (47_r.md R420, 60_exceptions.md R520, R545): nothing when the count is
0; else one operation, the count drops by 1, and EIP goes back to the instruction unless the count is then 0 or, for CMPS and
SCAS, ZF ends it. That a step is one iteration, which completes and so clears RF (10_state.md R38) though EIP is back at the
instruction, is the model's choice (log entry 46). -/
def Obligations.StringRepetition : Prop :=
  ∀ op (os as : Sz) s r, s.pfx.lock = false → s.pfx.rep = some r → (r = .repe ∨ scans op = true) →
    ∀ w i, (w = .b8 ∧ i = strByte op as) ∨ (w = os.width ∧ i = strWord op os as) →
      (s.reg as.width .cx = 0#_ → Completes i s (begun s) (begun s) []) ∧
      (∀ u t stored, s.reg as.width .cx ≠ 0#_ → Operates op as w (begun s) u t stored →
        let ends := s.reg as.width .cx = 1#_ ∨ (scans op = true ∧ t.flags.zf = decide (r = .repne))
        (ends → Completes i s u (counted as t) stored) ∧
        (¬ ends → Completes i s u { counted as t with eip := s.eip } stored))

/-- MOV to a segment register, POP of one, and LDS, LES, LFS, LGS, LSS (45_m_n_o.md R362, 46_p.md R394, 44_l.md R326 to R331,
20_memory.md R98, 10_state.md R41): they complete where the load does, and raise its exception where it fails. -/
def Obligations.SegmentLoads : Prop :=
  ∀ (r : Sreg) (os : Sz) s, Accepts s false → r ≠ .cs →
    (∀ rm p u, Opens (begun s) .b16 rm false p u →
      (∀ t stored, SegLoads r (at' u .b16 p) u t stored →
        Completes (.movSregRm (sregField r) rm) s u (shadowed r t) stored) ∧
      (∀ e, SegFails r (at' u .b16 p) u e → Takes (.movSregRm (sregField r) rm) s u e)) ∧
    (∀ i as u, popSregInstr os r = some i → OpensMem (begun s) .ss s.sp os.bytes false as u →
      (∀ t stored, SegLoads r (leValue 16 (as.map u.byte)) u t stored →
        Completes i s u (shadowed r (t.setSp (s.sp + BitVec.ofNat 32 os.bytes))) stored) ∧
      (∀ e, SegFails r (leValue 16 (as.map u.byte)) u e → Takes i s u e)) ∧
    (∀ g m i seg a v lo hi u, loadPointer os g (.mem m) r = some i → Addressed (begun s) m seg a v →
      ReadsParts v seg a os.bytes 2 lo hi u →
      (∀ t stored, SegLoads r (leValue 16 hi) u t stored →
        Completes i s u (t.setReg os.width g (leValue _ lo)) stored) ∧
      (∀ e, SegFails r (leValue 16 hi) u e → Takes i s u e))

/-- MOV from a segment register, SLDT, STR, SMSW, SGDT and SIDT (45_m_n_o.md R361, 48_s.md R448, R449, R452, R463, R468). -/
def Obligations.SegmentStores : Prop :=
  ∀ (os : Sz) (r : Sreg) d m rm,
    Plain (.movRmSreg os (.reg d) (sregField r)) (fun u =>
      (withFlags u (if os = .s32 then 1 else 0) u.flags).setReg os.width d
        ((selElement os (u.seg r).sel u 0).setWidth _)) ∧
    StoresRm (.movRmSreg os (.mem m) (sregField r)) .b16 (.mem m) (fun s => (s.seg r).sel) ∧
    StoresRm (.smsw rm) .b16 rm (fun s => (cr0Word s.cr0).setWidth 16) ∧
    (∀ s p u, Accepts s false → s.mode = .prot → Opens (begun s) .b16 rm true p u →
      Completes (.sldt rm) s u (put u .b16 p s.ldtr.sel) (bytesOf p) ∧
      Completes (.str rm) s u (put u .b16 p s.tr.sel) (bytesOf p)) ∧
    (∀ s seg a v as u, Accepts s false → Addressed (begun s) m seg a v → OpensMem v seg a 6 true as u →
      Completes (.sgdt os (.mem m)) s u (u.setBytes as (tableImage os s.gdtr)) as ∧
      Completes (.sidt os (.mem m)) s u (u.setBytes as (tableImage os s.idtr)) as)

/-- LGDT and LIDT; LLDT and LTR with paging off (44_l.md R324, R325, R332, R346). -/
def Obligations.TableLoads : Prop :=
  (∀ (os : Sz) m s seg a v lo hi u, Accepts s false → Privileged s → Addressed (begun s) m seg a v →
    ReadsParts v seg a 2 4 lo hi u →
    Completes (.lgdt os (.mem m)) s u { u with gdtr := tableOf os (lo ++ hi) } [] ∧
    Completes (.lidt os (.mem m)) s u { u with idtr := tableOf os (lo ++ hi) } []) ∧
  LoadsSystem .lldt ldtLoads ldtFails ∧ LoadsSystem .ltr trLoads trFails

/-- LAR, LSL, VERR, VERW and ARPL in protected mode, paging off (44_l.md R321, R345, 49_t_v_w_x.md R481, R482, 40_a_b.md R207). -/
def Obligations.SelectorInspection : Prop :=
  ∀ (os : Sz) r rm,
    InspectForm (.larRRm os r rm) os.width rm
      (fun d => d.s = true ∨ ¬ (d.typ = 0#4 ∨ d.typ = 8#4 ∨ d.typ = 10#4 ∨ d.typ = 13#4))
      (fun d u => zeroFlag ((withFlags u 1 u.flags).setReg os.width r
        (((d.hi &&& 0x00F0FF00#32) ||| ((free u 0 4).setWidth 32 <<< 16)).setWidth _)) true) ∧
    InspectForm (.lslRRm os r rm) os.width rm
      (fun d => d.s = true ∨ d.typ = 1#4 ∨ d.typ = 2#4 ∨ d.typ = 3#4 ∨ d.typ = 9#4 ∨ d.typ = 11#4)
      (fun d u => zeroFlag (u.setReg os.width r (d.limit.setWidth _)) true) ∧
    InspectForm (.verr rm) .b16 rm (fun d => d.readable = true) (fun _ u => zeroFlag u true) ∧
    InspectForm (.verw rm) .b16 rm (fun d => d.writable = true) (fun _ u => zeroFlag u true) ∧
    (∀ s p u, Accepts s false → s.mode = .prot → s.cr0.pg = false → Opens (begun s) .b16 rm true p u →
      let d := at' u .b16 p
      let rpl := rplOf (s.reg .b16 r)
      (rplOf d < rpl →
        Completes (.arplRmR rm r) s u (zeroFlag (put u .b16 p (d.extractLsb' 2 14 ++ rpl)) true) (bytesOf p)) ∧
      (¬ rplOf d < rpl → Completes (.arplRmR rm r) s u (zeroFlag u false) []))

/-- CLC, CMC and STC: their encodings, and that they change CF only (RF apart, which every completion clears, 10_state.md R38;
41_c_d_e_h.md R235, R239, 48_s.md R464). They raise nothing. -/
def Obligations.CarryFlag : Prop :=
  (∀ os as rest,
    decodeOne os as (0xF8#8 :: rest) = .ok (.clc, rest) ∧ decodeOne os as (0xF5#8 :: rest) = .ok (.cmc, rest) ∧
    decodeOne os as (0xF9#8 :: rest) = .ok (.stc, rest)) ∧
  Plain .clc (fun u => { u with flags := { u.flags with cf := false } }) ∧
  Plain .cmc (fun u => { u with flags := { u.flags with cf := !u.flags.cf } }) ∧
  Plain .stc (fun u => { u with flags := { u.flags with cf := true } })

/-- CLD, STD, CLI, STI, CLTS, HLT and LMSW, with their privilege tests (41_c_d_e_h.md R236 to R238, R248, 48_s.md R465, R466,
44_l.md R337). STI opens the shadow when IF was 0 and the instruction is not itself under a shadow. -/
def Obligations.ProcessorControl : Prop :=
  Plain .cld (fun u => { u with flags := { u.flags with df := false } }) ∧
  Plain .std (fun u => { u with flags := { u.flags with df := true } }) ∧
  Guarded .cli IoAllowed (fun u => { u with flags := { u.flags with ie := false } }) ∧
  (∀ s, Accepts s false →
    (IoAllowed s → Completes .sti s (begun s)
      { begun s with
        flags := { s.flags with ie := true }
        inhibit := if s.flags.ie = false ∧ s.inhibit = .none then .sti else .none } []) ∧
    (¬ IoAllowed s → exec .sti s = takeFault (excGP 0#16) s)) ∧
  Guarded .clts Privileged (fun u => { u with cr0 := { u.cr0 with ts := false } }) ∧
  Guarded .hlt Privileged (fun u => { u with halted := true }) ∧
  (∀ rm s p u, Accepts s false →
    (Privileged s → Opens (begun s) .b16 rm false p u →
      Completes (.lmsw rm) s u (mswLoaded (at' u .b16 p) u) []) ∧
    (¬ Privileged s → exec (.lmsw rm) s = takeFault (excGP 0#16) s))

/-- MOV to and from control, debug and test registers (45_m_n_o.md R366 to R368, 10_state.md R46 to R49): where the spec gives a
write no effect (PG without PE, an enable bit of DR7) the model refuses. -/
def Obligations.SpecialRegisterMoves : Prop :=
  ∀ r d,
    FromSpecial (.movRCr r .cr0) r (fun s => cr0Image s.cr0) ∧ FromSpecial (.movRCr r .cr2) r State.cr2 ∧
    FromSpecial (.movRCr r .cr3) r State.cr3 ∧ FromSpecial (.movRDr r d) r (debugReg · d) ∧
    FromSpecial (.movRTr r .tr6) r State.tr6 ∧ FromSpecial (.movRTr r .tr7) r State.tr7 ∧
    (∀ s, Accepts s false → 
      (Privileged s → (s.reg .b32 r).getLsbD 31 = false ∨ (s.reg .b32 r).getLsbD 0 = true →
        Completes (.movCrR .cr0 r) s (begun s) (statusFree (cr0Written (s.reg .b32 r) (begun s))) []) ∧
      (Privileged s → (s.reg .b32 r).getLsbD 31 = true → (s.reg .b32 r).getLsbD 0 = false →
        exec (.movCrR .cr0 r) s = .refused .pagingWithoutProtection) ∧
      (Privileged s → ¬ (d = .dr7 ∧ Enables (s.reg .b32 r)) →
        Completes (.movDrR d r) s (begun s) (statusFree (debugSet d (s.reg .b32 r) (begun s))) []) ∧
      (Privileged s → d = .dr7 → Enables (s.reg .b32 r) → exec (.movDrR d r) s = .refused .breakpointEnable) ∧
      (¬ Privileged s → exec (.movCrR .cr0 r) s = takeFault (excGP 0#16) s ∧
        exec (.movDrR d r) s = takeFault (excGP 0#16) s)) ∧
    ToSpecial (.movCrR .cr2 r) r (fun v u => { u with cr2 := v }) ∧
    ToSpecial (.movCrR .cr3 r) r (fun v u => { u with cr3 := v &&& 0xFFFFF000#32, tlb := [], tlbUndef := false }) ∧
    ToSpecial (.movTrR .tr6 r) r (fun v u => { u with tr6 := v, tlbUndef := true }) ∧
    ToSpecial (.movTrR .tr7 r) r (fun v u => { u with tr7 := v, tlbUndef := true })

/-- WAIT and ESC (49_t_v_w_x.md R483, 30_encoding.md R170). WAIT completes when the coprocessor is not busy; while it is, it
waits a step, which ends no instruction: EIP stays, RF stays, and no single-step trap is left (the model's choice, log entry
42); it raises #NM and #MF; ESC raises #NM when EM or TS is 1, in Real Address Mode as written out (NT stays there, the
model's reading, log entry 54), and is refused otherwise: the coprocessor is not modelled. -/
def Obligations.WaitAndEscape : Prop :=
  ∀ s, Accepts s false →
    ((s.cr0.mp && s.cr0.ts) = false → s.pins.error = false →
      (s.pins.busy = false → Completes .wait s (begun s) (begun s) []) ∧
      (s.pins.busy = true → exec .wait s = .next { s with pfx := Prefixes.none, inhibit := .none })) ∧
    ((s.cr0.mp && s.cr0.ts) = true → exec .wait s = takeFault excNM s) ∧
    ((s.cr0.mp && s.cr0.ts) = false → s.pins.error = true → exec .wait s = takeFault excMF s) ∧
    ∀ i,
      ((s.cr0.em || s.cr0.ts) = true → exec (.esc i) s = takeFault excNM s ∧
        (Deliverable s 7#8 →
          exec (.esc i) s = .next (settle (entered s { s.flags with rf := true } 7#8 s.eip)))) ∧
      ((s.cr0.em || s.cr0.ts) = false → exec (.esc i) s = .refused .coprocessor)

/-- An operand that may not be a register, a segment register field that names none, and the protected-mode instructions outside
protected mode raise #UD (30_encoding.md R137, R142, 60_exceptions.md R551); the privileged table loads raise #GP(0) at CPL
above 0. -/
def Obligations.InvalidOpcodeTraps : Prop :=
  ∀ os r q (rm : Rm) s, Accepts s false →
    (∀ i ∈ [Instr.lea os r (.reg q), .bound os r (.reg q), .lds os r (.reg q), .les os r (.reg q), .lfs os r (.reg q),
        .lgs os r (.reg q), .lss os r (.reg q), .lgdt os (.reg q), .lidt os (.reg q), .sgdt os (.reg q), .sidt os (.reg q),
        .callFarMem os (.reg q), .jmpFarMem os (.reg q), .movSregRm 1#3 rm, .movSregRm 6#3 rm, .movSregRm 7#3 rm,
        .movRmSreg os rm 6#3, .movRmSreg os rm 7#3],
      exec i s = takeFault excUD s) ∧
    (s.mode ≠ .prot →
      ∀ i ∈ [Instr.arplRmR rm r, .larRRm os r rm, .lslRRm os r rm, .sldt rm, .str rm, .verr rm, .verw rm, .lldt rm, .ltr rm],
        exec i s = takeFault excUD s) ∧
    (¬ Privileged s → ∀ m, ∀ i ∈ [Instr.lgdt os (.mem m), .lidt os (.mem m)], exec i s = takeFault (excGP 0#16) s) ∧
    (s.mode = .prot → s.cpl ≠ 0#2 → ∀ i ∈ [Instr.lldt rm, .ltr rm], exec i s = takeFault (excGP 0#16) s)

/-- NOP (45_m_n_o.md R374): its encoding, and that it changes nothing but EIP (RF apart, which every completion clears). -/
def Obligations.NoOperation : Prop :=
  (∀ os as rest, decodeOne os as (0x90#8 :: rest) = .ok (.nop, rest)) ∧ Plain .nop (fun u => u)

/-- The views of the general registers (10_state.md R31 to R33): an operand is the bits from `startOf` on of the register
`homeOf`, and writing it changes exactly those bits of that register. -/
def Obligations.RegisterViews : Prop :=
  ∀ (s : State) (w : Width) r (v : BitVec w.bits) q i,
    (i < w.bits → (s.reg w r).getLsbD i = (s.reg .b32 (homeOf w r)).getLsbD (startOf w r + i)) ∧
    (i < 32 → ((s.setReg w r v).reg .b32 q).getLsbD i =
      if q = homeOf w r ∧ startOf w r ≤ i ∧ i < startOf w r + w.bits then v.getLsbD (i - startOf w r)
      else (s.reg .b32 q).getLsbD i)

/-- Memory (20_memory.md R80, R81): a byte written is read back, every other byte is as before, the canonical form is kept, and
two memories in canonical form that read alike are equal; a value stored at distinct addresses is read back,
little-endian. -/
def Obligations.MemoryReadWrite : Prop :=
  (∀ (s : State) a v, Memory.wf s.mem = true → a < 2 ^ 32 →
    (s.setByte a v).byte a = v ∧ (∀ b, b ≠ a → (s.setByte a v).byte b = s.byte b) ∧
      Memory.wf (s.setByte a v).mem = true) ∧
  (∀ m m', Memory.wf m = true → Memory.wf m' = true → (∀ a, Memory.read m a = Memory.read m' a) → m = m') ∧
  (∀ (s : State) (w : Width) (lin : Dword) (v : BitVec w.bits), Memory.wf s.mem = true →
    at' (put s w (.mem (span lin w.bytes)) v) w (.mem (span lin w.bytes)) = v ∧
    ∀ i, i < w.bytes → ((put s w (.mem (span lin w.bytes)) v).byte (lin + BitVec.ofNat 32 i).toNat).toNat =
      v.toNat / 256 ^ i % 256)

/-- Effective addresses (30_encoding.md R131 to R135): the sum of the parts modulo 2^AS, in the segment of the override or the
default one; a SIB byte with a scale but no index gives a free offset (R133). -/
def Obligations.EffectiveAddresses : Prop :=
  ∀ b m,
    (¬ Unscaled m → Addressed b m (segmentOf b m) (BitVec.ofInt 32 (offsetSum b m % 2 ^ (addressSize m).bits)) b) ∧
    (Unscaled m → Addressed b m (segmentOf b m) (free b 0 32) (withFlags b 1 b.flags))

/-- Where an operand is (20_memory.md R83, R90, R94, R97): a register operand is the register; a memory operand whose bytes pass
their checks lies, with paging off, at consecutive linear addresses modulo 2^32 from base + offset; one that fails them raises
their exception before anything changes (`FailsMem`). An operand of two parts is read in two accesses whose bytes follow each
other without wrap. -/
def Obligations.OperandPlaces : Prop :=
  (∀ (b : State) seg off k n, b.cr0.pg = false → b.accessExc seg off k false = none →
    b.accessExc seg off (k + n) false = none →
    let lin := (b.seg seg).base + off
    ReadsParts b seg off k n ((span lin k).map b.byte) ((span (lin + BitVec.ofNat 32 k) n).map b.byte) b) ∧
  ∀ b (w : Width) wr r m,
    Opens b w (.reg r) wr (.reg r) b ∧
    ∀ seg off v, Addressed b m seg off v → b.cr0.pg = false →
      (v.accessExc seg off w.bytes wr = none →
        OpensMem v seg off w.bytes wr (span ((v.seg seg).base + off) w.bytes) v ∧
        Opens b w (.mem m) wr (.mem (span ((v.seg seg).base + off) w.bytes)) v) ∧
      (∀ e, v.accessExc seg off w.bytes wr = some e →
        FailsMem v seg off w.bytes wr e v ∧ openRm w (.mem m) wr b = .error (.exc e v false))

/-- The segment checks (20_memory.md R87, R90 to R93): a segment holds `n` bytes at an offset when every one of their offsets is
valid. An access of `n` bytes passes when, in protected mode, the segment is usable and fits the access, and the segment
holds them; else it raises #GP(0), or #SS(0) for a use or limit failure of SS, which is Interrupt 13 outside protected
mode (the vector there is log entry 12). Two clauses are the model's choices: outside protected mode the limit is the hidden
one, where R93 writes 0 to 0FFFFH (log entry 17), and an SS that is not usable raises #SS(0), where R91 says that SS cannot be
null (log entry 33). -/
def Obligations.SegmentChecks : Prop :=
  (∀ (g : SegReg) k n, 0 < n → (g.holds k n = true ↔ ∀ i, i < n → ValidOffset g (k + i))) ∧
  (∀ (b : State) r off n wr, 0 < n →
    let g := b.seg r
    let holds := ∀ i, i < n → ValidOffset g (off.toNat + i)
    (b.mode = .prot →
      (b.accessExc r off n wr = none ↔ g.valid = true ∧ FitsType g wr ∧ holds) ∧
      (g.valid = true → ¬ FitsType g wr → b.accessExc r off n wr = some (excGP 0#16)) ∧
      (g.valid = false ∨ (FitsType g wr ∧ ¬ holds) →
        b.accessExc r off n wr = some (if r = .ss then excSS 0#16 else excGP 0#16))) ∧
    (b.mode ≠ .prot →
      (b.accessExc r off n wr = none ↔ holds) ∧ (¬ holds → b.accessExc r off n wr = some (excGP 0#16))))

/-- Paging (20_memory.md R100 to R104). With PG = 0 a linear address is the physical one. With PG = 1, where software has not
changed the page's entries since the TLB was flushed, the tables give it: the accessed and dirty bits are set and nothing
else changes; where an entry is not present or does not permit the access, a page fault with CR2 and its code is raised.
Where software has made one change, of the page's directory entry or of its table entry, both present before, a free value
chooses the old or the new translation, for users and supervisors (that an old one sets no accessed or dirty bit is the model's
choice, log entry 10). Where every translation is unspecified (after reset, or a write to TR6 or TR7), a free value chooses what
the tables give, what any two entries give, or the fault of an absent page (log entry 10). -/
def Obligations.PagedTranslation : Prop :=
  ∀ b lin wr user,
    (b.cr0.pg = false → translate lin wr user b = .ok (lin.toNat, b)) ∧
    (b.cr0.pg = true → TlbAgrees b lin → ByTables b lin wr user (translate lin wr user b)) ∧
    (b.cr0.pg = true → ∀ pde pte, Changed b lin pde pte →
      let u := withFlags b 1 b.flags
      if (free b 0 32).toNat % 2 = 0 then ByEntries u lin pde pte wr user (translate lin wr user b)
      else ByTables u lin wr user (translate lin wr user b)) ∧
    (b.cr0.pg = true → b.tlbUndef = true →
      let u := withFlags b 1 b.flags
      let r := translate lin wr user b
      ByTables u lin wr user r ∨ r = pageFaulted u lin false wr user ∨ ∃ pde pte, ByEntries u lin pde pte wr user r)

/-- Delivery through an interrupt or trap gate to a handler at the same level (42_i.md R288, 60_exceptions.md R504, R510, R513),
in protected mode, paging off: what is pushed, what changes, and that nothing else does. That INT n, INT 3 and INTO with TF = 1
leave the single-step trap pending is the model's reading (R545, log entry 16). -/
def Obligations.DeliverySameLevel : Prop := DeliversThrough .prot SameLevel

/-- Delivery through an interrupt or trap gate to a handler at an inner level, whose stack the current TSS, of either layout,
gives (42_i.md R288, 20_memory.md R89, 60_exceptions.md R504, R510, R513), and from V86 mode to level 0 (42_i.md R289), paging
off. The model's readings: the old ESP is pushed whole (log entry 34); the pointer of an 80286 TSS is zero-extended (log entry
30); and the software interrupts with TF = 1 leave the single-step trap pending (R545, log entry 16). -/
def Obligations.DeliveryInnerLevel : Prop := DeliversThrough .prot InnerLevel ∧ DeliversThrough .v86 FromV86

/-- Failing deliveries in protected mode and V86 mode, paging off (42_i.md R288, R289, 60_exceptions.md R511, R514, R547, R548):
the first check that fails raises its exception, from the state before the delivery or, after a task switch's commit point, from
the new task's. For a software interrupt EXT is 0; otherwise it is 1 in every code (the model's reading, log entry 13). In the
delivery of an exception of the double-fault set that is a double fault, in that of a double fault shutdown. A 16-bit gate from
V86 mode is refused (93_implementation_defined.md U3, log entry 21). The model's choices: an inner stack that does not lie
within the TSS limit raises #TS with the selector of TR (log entry 56); the pointer of an 80286 TSS is zero-extended (log entry
30); after a task gate's commit point the old TSS holds EFLAGS unmodified (log entry 37), the order of the loads is that of log
entry 36, and TF is cleared after them (log entry 55); a double fault returns to the CS:EIP of the state it is delivered from
(log entry 58). -/
def Obligations.DeliveryFails : Prop :=
  ∀ s vector e u, s.mode ≠ .real → s.cr0.pg = false →
    (DeliveryFault s s vector s.eip false none e u → takeInterrupt vector s = takeFault (external e) u) ∧
    (∀ code, DeliveryFault s s vector s.eip false code e u →
      let x : Exc := { vector := vector, code := code }
      (vector ∉ [0#8, 8#8, 10#8, 11#8, 12#8, 13#8, 14#8] → takeFault x s = takeFault (external e) u) ∧
      (vector ∈ [0#8, 10#8, 11#8, 12#8, 13#8, 14#8] → takeFault x s = takeFault excDF u) ∧
      (vector = 8#8 → code = some 0#16 → takeFault x s = .next (settle { u with shutdown := true }))) ∧
    (Accepts s false → DeliveryFault s (begun s) vector s.next true none e u →
      ∀ i, Software s vector i → exec i s = takeFault e u) ∧
    RefusesDelivery s vector (fun b _ => ShortGateFromV86 b vector) .v86Gate16

/-- Failing deliveries in real-address mode (60_exceptions.md R547, R548, 42_i.md R287). A vector beyond the table raises
Interrupt 13 (the model's choice, log entry 15): for an exception of the double-fault set that is a double fault; for the others
it is delivered. A double fault that cannot be delivered shuts the processor down, and so does INT with no room on the stack. RF
of a double fault's image is free. That a delivery leaves NT follows R287 and R39 (the model's reading, log entry 54); the CS:EIP
that a double fault pushes is that of the state whose delivery failed (the model's choice, log entry 58). -/
def Obligations.DoubleFaultAndShutdown : Prop :=
  (∀ s x, s.cr0.pe = false → s.cr0.pg = false → s.idtr.limit.toNat < 4 * x.vector.toNat + 3 →
    (x.vector ∈ [0#8, 10#8, 11#8, 12#8, 13#8, 14#8] → Deliverable s 8#8 →
      takeFault x s = .next (settle
        (entered (withFlags s 1 s.flags) { s.flags with rf := (free s 0 1).getLsbD 0 } 8#8 s.eip))) ∧
    (x.vector ∈ [0#8, 10#8, 11#8, 12#8, 13#8, 14#8, 8#8] → s.idtr.limit.toNat < 35 →
      takeFault x s = .next (settle { s with shutdown := true })) ∧
    (x.vector ∉ [0#8, 10#8, 11#8, 12#8, 13#8, 14#8, 8#8] → Deliverable s 13#8 →
      takeFault x s = .next (settle (entered s { s.flags with rf := true } 13#8 s.eip)) ∧
      takeInterrupt x.vector s = .next (settle (entered s { s.flags with rf := true } 13#8 s.eip)))) ∧
  (∀ s n, Accepts s false → s.cr0.pe = false → s.cr0.pg = false → ¬ Room s .s16 3 →
    exec (.intImm8 n) s = .next (settle
      { s with shutdown := true, draws := s.draws + if 35 ≤ s.idtr.limit.toNat then 1 else 0 }))

/-- The events of the instruction boundary in their order (60_exceptions.md R520 to R523, R545, R548), in every mode: RESET;
shutdown, which an NMI leaves if it can be delivered; the single-step trap, which sets DR6.BS; NMI; INTR; a halted processor.
The statements on `takeInterrupt` say what a delivery does in each mode; in real-address mode it is written out here, and so is
that of an NMI in shutdown in protected mode. The model's choices: what RESET leaves where R560 gives no value (log entries 1,
2 and 61); that a failing NMI leaves the processor in shutdown (log entry 43); the states of `Regular` looked at before any event
but RESET, and the shadow and the trap that a halted step clears (log entry 47); that a real-mode delivery leaves NT (log
entry 54); in an NMI to an inner level the zero-extended pointer of an 80286 TSS (log entry 30) and the old ESP, pushed whole
(log entry 34). -/
def Obligations.BoundaryEvents : Prop :=
  ∀ s,
    (s.pins.reset = true → step s = .next (State.afterReset s.mem s.pins s.ioLog s.draws)) ∧
    (s.pins.reset = false → Regular s →
      let nmi := { s with nmiPending := false, nmiBlocked := true, halted := false }
      let up := { nmi with shutdown := false }
      let trap := { s with dr6 := s.dr6 ||| 0x4000#32, trapPending := false }
      let after := fun (b : State) v => entered b { s.flags with rf := false } v s.eip
      (s.shutdown = true → ¬ (s.nmiPending = true ∧ s.nmiBlocked = false) → step s = .next s) ∧
      (s.shutdown = true → s.nmiPending = true → s.nmiBlocked = false →
        (Deliverable s 2#8 → step s = .next (settle (after up 2#8))) ∧
        (∀ c t stored, s.mode = .prot → s.cr0.pg = false → Vectored s 2#8 → IntGate (gateAt s 2#8) → (gateAt s 2#8).p = true →
          Named s (gateAt s 2#8).gateSel (fun d => d.isCode = true) c →
          SameLevel up (gateAt s 2#8) c { s.flags with rf := false } s.eip none t stored ∨
            InnerLevel up (gateAt s 2#8) c { s.flags with rf := false } s.eip none t stored →
          step s = .next (settle t)) ∧
        (∀ e u, s.mode ≠ .real → s.cr0.pg = false → DeliveryFault up up 2#8 s.eip false none e u →
          step s = .next { nmi with cr2 := u.cr2, draws := u.draws })) ∧
      (s.shutdown = false →
        (TrapDue s → step s = takeInterrupt 1#8 trap ∧
          (Deliverable s 1#8 → step s = .next (settle (after trap 1#8)))) ∧
        (¬ TrapDue s → NmiDue s → step s = takeInterrupt 2#8 nmi ∧
          (Deliverable s 2#8 → step s = .next (settle (after nmi 2#8)))) ∧
        (∀ v, ¬ TrapDue s → ¬ NmiDue s → IntrDue s v → step s = takeInterrupt v s ∧
          (Deliverable s v → step s = .next (settle (after s v)))) ∧
        (¬ TrapDue s → ¬ NmiDue s → (∀ v, ¬ IntrDue s v) → s.halted = true →
          step s = .next { s with inhibit := .none, trapPending := false })))

/-- A STEP RUNS THE DECODED INSTRUCTION (60_exceptions.md R520 step 7, 30_encoding.md R120 to R124, 10_state.md R35): when no event
is due and the bytes at CS:EIP are prefixes that do not conflict and the encoding of an instruction well formed under the
sizes they give, at most 15 bytes, the step is that instruction's, with the prefixes recorded and `next` past its last
byte. After a change of PE only a jump may follow (70_reset_and_hazards.md R572); that it is decoded with the
sizes of the new mode is the model's choice (log entry 63). -/
def Obligations.StepRunsDecoded : Prop :=
  ∀ s ps i p, Quiet s → withPrefixes Prefixes.none ps = some p → isPrefix i = false →
    i.wf (sizeUnder s p.osz) (sizeUnder s p.asz) = true → CodeAt s (ps.flatMap encode ++ encode i) →
    (s.queue.jumpNeeded = true → isJump i = true) →
    step s = exec i { s with
      trapPending := false, pfx := p
      next := truncSz (sizeUnder s false) (s.eip + BitVec.ofNat 32 (ps.flatMap encode ++ encode i).length) }

/-- The prefixes (30_encoding.md R121, R122, 44_l.md R340, 47_r.md R420): each completes, recorded for the instruction that
follows, and nothing else changes; two different overrides, or F2 with F3, are refused. A prefix that the instruction does not
accept raises #UD, whatever the instruction, the three unassigned opcodes apart. -/
def Obligations.PrefixesRecorded : Prop :=
  ∀ i s,
    (isPrefix i = true →
      (∀ p, withPrefix s.pfx i = some p → exec i s = .next { s with pfx := p }) ∧
      (withPrefix s.pfx i = none → exec i s = .refused .conflictingPrefixes)) ∧
    (isPrefix i = false → isUnassigned i = false → BadPrefix s i → exec i s = takeFault excUD s)

/-- The opcodes 82, D6 and F1, which no page lists, are refused (30_encoding.md R170, 92_eei_decisions.md D21). -/
def Obligations.UnassignedRefused : Prop :=
  ∀ s, (∀ os as rest,
      decodeOne os as (0x82#8 :: rest) = .ok (.unassigned82, rest) ∧
      decodeOne os as (0xD6#8 :: rest) = .ok (.unassignedD6, rest) ∧
      decodeOne os as (0xF1#8 :: rest) = .ok (.unassignedF1, rest)) ∧
    exec .unassigned82 s = .refused .unlistedEncoding ∧ exec .unassignedD6 s = .refused .unlistedEncoding ∧
    exec .unassignedF1 s = .refused .unlistedEncoding

/-- Words written out from the encoding tables of the spec (30_encoding.md R120 to R151) decode to their instructions. -/
def Obligations.DecodeWords : Prop :=
  decodeOne .s16 .s16 [0x01#8, 0xD8#8] = .ok (.addRmR .s16 (.reg .ax) .bx, []) ∧
  decodeOne .s32 .s32 [0x81#8, 0x44#8, 0x8D#8, 0xFC#8, 0x78#8, 0x56#8, 0x34#8, 0x12#8] =
    .ok (.addRmImm (.mem (.sib 2#2 .cx .bp (.d8 0xFC#8))) (.i32 0x12345678#32), []) ∧
  decodeOne .s16 .s16 [0x8B#8, 0x16#8, 0x34#8, 0x12#8] = .ok (.movRRm .s16 .dx (.mem (.direct16 0x1234#16)), []) ∧
  decodeOne .s16 .s16 [0xC1#8, 0xE0#8, 0x04#8] = .ok (.salRmImm8 .s16 (.reg .ax) 4#8, []) ∧
  decodeOne .s16 .s16 [0x0F#8, 0x84#8, 0x10#8, 0xFF#8] = .ok (.jeRel (.i16 0xFF10#16), []) ∧
  decodeOne .s32 .s32 [0x9A#8, 0x78#8, 0x56#8, 0x34#8, 0x12#8, 0x08#8, 0x00#8] =
    .ok (.callFarPtr (.p32 0x12345678#32 0x0008#16), []) ∧
  decodeOne .s16 .s16 [0xC8#8, 0x10#8, 0x00#8, 0x02#8] = .ok (.enter .s16 0x0010#16 2#8, []) ∧
  decodeOne .s16 .s16 [0x0F#8, 0xBA#8, 0xE8#8, 0x07#8] = .ok (.btsRmImm8 .s16 (.reg .ax) 7#8, []) ∧
  decodeOne .s16 .s16 [0x0F#8, 0x01#8, 0x17#8] = .ok (.lgdt .s16 (.mem (.based16 .bx .none)), []) ∧
  decodeOne .s16 .s16 [0x0F#8, 0x22#8, 0xC0#8] = .ok (.movCrR .cr0 .ax, []) ∧
  decodeOne .s32 .s16 [0xA5#8] = .ok (.movsw .s32 .s16, [])

/-- DECODE AND ENCODE AGREE (30_encoding.md R120 to R151): every instruction well formed under an operand size and an address size
is what the decoder reads from its encoding, whatever bytes follow, and leaves those bytes. -/
def Obligations.RoundTrip : Prop :=
  ∀ os as i rest, i.wf os as = true → decodeOne os as (encode i ++ rest) = .ok (i, rest)

/-- The invariant holds after reset (70_reset_and_hazards.md R560). -/
def Obligations.ResetInv : Prop := State.Inv State.reset

/-- AN INVARIANT THAT EVERY STEP KEEPS: memory in canonical form, CPL 0 in real-address mode, V86 mode only in protected mode
and at CPL 3 (but for a processor shut down in a task switch, log entry 36), paging only in protected mode, CR3 a page address,
no breakpoint enabled (`State.Inv`; 20_memory.md R80, 00_scope.md R6, 10_state.md R43, R47, 60_exceptions.md R546,
92_eei_decisions.md D18). -/
def Obligations.StepKeepsInv : Prop := ∀ s t, State.Inv s → step s = .next t → State.Inv t

/-- What RESET leaves (70_reset_and_hazards.md R560, 10_state.md R30): the values the spec states, memory and the inputs unchanged;
EAX, EDX and CR0.ET are the named parameters (log entry 2); and the first fetch is at FFFFFFF0H (R561). D/B, G and DPL of the
segment registers, which the table does not give, are not stated (log entry 61). -/
def Obligations.ResetState : Prop :=
  ∀ s, s.pins.reset = true → ∃ t, step s = .next t ∧
    t.eip = 0x0000FFF0#32 ∧ eflags t.flags = 0x00000002#32 ∧
    t.cs.sel = 0xF000#16 ∧ t.cs.base = 0xFFFF0000#32 ∧
    (∀ r, r ≠ .cs → (t.seg r).sel = 0#16 ∧ (t.seg r).base = 0#32) ∧
    (∀ r, (t.seg r).limit = 0xFFFF#32 ∧ (t.seg r).p = true ∧ (t.seg r).s = true ∧ (t.seg r).typ = 3#4) ∧
    t.cpl = 0#2 ∧ t.mode = .real ∧ cr0Image t.cr0 = 16 * BitVec.ofNat 32 Config.resetET.toNat ∧
    t.idtr = { base := 0#32, limit := 0x03FF#16 } ∧ t.dr7 = 0#32 ∧ t.regs.edx = Config.resetEDX ∧
    t.regs.eax = Config.resetEAX ∧ t.ldtr.sel = 0#16 ∧ t.tr.sel = 0#16 ∧ t.inhibit = .none ∧ t.halted = false ∧
    t.shutdown = false ∧ t.nmiBlocked = false ∧ t.nmiPending = false ∧ t.trapPending = false ∧ t.queue.stale = [] ∧
    t.mem = s.mem ∧ t.pins = s.pins ∧ t.ioLog = s.ioLog ∧
    t.linear .cs t.eip = 0xFFFFFFF0#32

/-- Outside privilege level 0 no step changes what only privileged instructions write (60_exceptions.md R551, R513, R530, R545):
GDTR, IDTR, DR0 to DR3, TR6, TR7 stay; CR0 changes at most by a task switch's TS; DR6 at most by the single-step trap's BS;
DR7 at most by a task switch's clearing of the local enables. -/
def Obligations.UserKeepsSystemRegisters : Prop :=
  ∀ s t, s.pins.reset = false → ¬ Privileged s → step s = .next t →
    t.gdtr = s.gdtr ∧ t.idtr = s.idtr ∧ t.dr0 = s.dr0 ∧ t.dr1 = s.dr1 ∧ t.dr2 = s.dr2 ∧ t.dr3 = s.dr3 ∧
    t.tr6 = s.tr6 ∧ t.tr7 = s.tr7 ∧ (t.cr0 = s.cr0 ∨ t.cr0 = { s.cr0 with ts := true }) ∧
    (t.dr6 = s.dr6 ∨ t.dr6 = s.dr6 ||| 0x4000#32) ∧ (t.dr7 = s.dr7 ∨ t.dr7 = s.dr7 &&& 0xFFFFFFAA#32)
end

