-- ==== Sys2Proof/Laws/Run.lean ====
section
/-! SUPPORT. Running an operation of the processor on a state: one lemma for each way to build one, and what running an
instruction's operation answers. -/

namespace Sys2Proof.Machine

/-! ## The monad -/

@[simp] theorem M.bind_run {α β : Type} (m : M α) (f : α → M β) (s : State) :
    (m >>= f) s = (match m s with | .ok (a, t) => f a t | .error e => .error e) := by
  show Except.bind _ _ = _
  cases m s <;> rfl

@[simp] theorem M.pure_run {α : Type} (a : α) (s : State) : (pure a : M α) s = .ok (a, s) := rfl

@[simp] theorem M.map_run {α β : Type} (f : α → β) (m : M α) (s : State) :
    (f <$> m) s = (match m s with | .ok (a, t) => .ok (f a, t) | .error e => .error e) := by
  show Except.bind _ _ = _
  cases m s <;> rfl

@[simp] theorem M.get_run (s : State) : (get : M State) s = .ok (s, s) := rfl
@[simp] theorem M.set_run (s t : State) : (set t : M PUnit) s = .ok (PUnit.unit, t) := rfl
@[simp] theorem M.modify_run (f : State → State) (s : State) : (modify f : M PUnit) s = .ok (PUnit.unit, f s) := rfl
@[simp] theorem M.ite_run {α : Type} (c : Prop) [Decidable c] (m n : M α) (s : State) :
    (if c then m else n) s = if c then m s else n s := by split <;> rfl

@[simp] theorem raise_run {α : Type} (e : Exc) (s : State) : (raise e : M α) s = .error (.exc e s false) := rfl
@[simp] theorem refuse_run {α : Type} (r : Refusal) (s : State) : (refuse r : M α) s = .error (.refuse r) := rfl
@[simp] theorem draw_run (n : Nat) (s : State) :
    draw n s = .ok ((Config.freeWord s.draws).setWidth n, { s with draws := s.draws + 1 }) := rfl
@[simp] theorem require_run (b : Bool) (e : Exc) (s : State) :
    require b e s = if b then .ok ((), s) else .error (.exc e s false) := by cases b <;> rfl
theorem committed_ok {α : Type} {m : M α} {s t : State} {a : α} (h : m s = .ok (a, t)) : committed m s = .ok (a, t) := by
  simp [committed, h]

/-! ## Registers and flags -/

@[simp] theorem readReg_run (w : Width) (r : Reg) (s : State) : readReg w r s = .ok (s.reg w r, s) := rfl
@[simp] theorem writeReg_run (w : Width) (r : Reg) (v : BitVec w.bits) (s : State) :
    writeReg w r v s = .ok ((), s.setReg w r v) := rfl
@[simp] theorem readRegSz_run (sz : Sz) (r : Reg) (s : State) :
    readRegSz sz r s = .ok ((s.reg sz.width r).setWidth 32, s) := rfl
@[simp] theorem writeRegSz_run (sz : Sz) (r : Reg) (v : Dword) (s : State) :
    writeRegSz sz r v s = .ok ((), s.setReg sz.width r (v.setWidth _)) := rfl
@[simp] theorem getFlags_run (s : State) : getFlags s = .ok (s.flags, s) := rfl
@[simp] theorem modifyFlags_run (f : Flags → Flags) (s : State) :
    modifyFlags f s = .ok ((), { s with flags := f s.flags }) := rfl
@[simp] theorem undefStatus_run (m : UndefMask) (s : State) :
    undefStatus m s = .ok ((), { s with
      draws := s.draws + 1, flags := undefFlags m ((Config.freeWord s.draws).setWidth 6) s.flags }) := rfl
@[simp] theorem clearRF_run (s : State) : clearRF s = .ok ((), { s with flags := { s.flags with rf := false } }) := rfl

/-! ## Physical memory -/

@[simp] theorem readPhys_run (as : List Nat) (s : State) : readPhys as s = .ok (as.map s.byte, s) := rfl
@[simp] theorem writePhys_run (as : List Nat) (bs : List Byte) (s : State) :
    writePhys as bs s = .ok ((), s.setBytes as bs) := rfl

/-! ## Running one instruction -/

theorem runM_ok {s t : State} {m : M Unit} (h : m (begun s) = .ok ((), t)) : runM s m = .next (retire s t) := by
  simp [runM, h]

theorem runM_exc {s st : State} {m : M Unit} {e : Exc} {c : Bool} (h : m (begun s) = .error (.exc e st c)) :
    runM s m = takeException s e st c := by simp [runM, h]

theorem runM_refuse {s : State} {m : M Unit} {r : Refusal} (h : m (begun s) = .error (.refuse r)) :
    runM s m = .refused r := by simp [runM, h]

/-- The prefixes an instruction that is no string instruction accepts. -/
theorem checkPrefixes_ok {s : State} {l : Bool} (hl : s.pfx.lock = true → l = true) (hr : s.pfx.rep = none) (t : State) :
    checkPrefixes s l t = .ok ((), t) := by
  have : (!s.pfx.lock || l) = true := by cases h : s.pfx.lock <;> simp_all
  simp [checkPrefixes, this, hr]

/-- What `perform` answers when the operation completes: its state with RF clear, at the end of the instruction. -/
theorem perform_ok {s t : State} {l : Bool} {m : M Unit} (hl : s.pfx.lock = true → l = true) (hr : s.pfx.rep = none)
    (h : m (begun s) = .ok ((), t)) :
    perform s l m = .next (retire s { t with flags := { t.flags with rf := false } }) := by
  apply runM_ok
  simp [checkPrefixes_ok hl hr, h]

/-- What `perform` answers when the operation raises an exception. -/
theorem perform_exc {s st : State} {l : Bool} {m : M Unit} {e : Exc} {c : Bool} (hl : s.pfx.lock = true → l = true)
    (hr : s.pfx.rep = none) (h : m (begun s) = .error (.exc e st c)) : perform s l m = takeException s e st c := by
  apply runM_exc
  simp [checkPrefixes_ok hl hr, h]

theorem perform_refuse {s : State} {l : Bool} {m : M Unit} {r : Refusal} (hl : s.pfx.lock = true → l = true)
    (hr : s.pfx.rep = none) (h : m (begun s) = .error (.refuse r)) : perform s l m = .refused r := by
  apply runM_refuse
  simp [checkPrefixes_ok hl hr, h]

/-- A prefix the instruction does not accept raises #UD, whatever its operation. -/
theorem perform_prefix {s : State} {l : Bool} (m : M Unit) (h : (s.pfx.lock = true ∧ l = false) ∨ s.pfx.rep ≠ none) :
    perform s l m = takeException s excUD (begun s) false := by
  apply runM_exc
  rcases h with ⟨h1, h2⟩ | h
  · simp [checkPrefixes, h1, h2]
  · cases h1 : s.pfx.lock <;> cases l <;> simp_all [checkPrefixes]

theorem performKeepingRF_ok {s t : State} {m : M Unit} (hl : s.pfx.lock = false) (hr : s.pfx.rep = none)
    (h : m (begun s) = .ok ((), t)) : performKeepingRF s m = .next (retire s t) := by
  apply runM_ok
  simp [checkPrefixes_ok (l := false) (by simp [hl]) hr, h]

theorem performKeepingRF_exc {s st : State} {m : M Unit} {e : Exc} {c : Bool} (hl : s.pfx.lock = false)
    (hr : s.pfx.rep = none) (h : m (begun s) = .error (.exc e st c)) :
    performKeepingRF s m = takeException s e st c := by
  apply runM_exc
  simp [checkPrefixes_ok (l := false) (by simp [hl]) hr, h]

/-- A transfer that does not switch tasks clears RF. -/
theorem performTransfer_ok {s t : State} {m : M Bool} (hl : s.pfx.lock = false) (hr : s.pfx.rep = none)
    (h : m (begun s) = .ok (false, t)) :
    performTransfer s m = .next (retire s { t with flags := { t.flags with rf := false } }) := by
  apply performKeepingRF_ok hl hr
  simp [h]

theorem performTransfer_exc {s st : State} {m : M Bool} {e : Exc} {c : Bool} (hl : s.pfx.lock = false)
    (hr : s.pfx.rep = none) (h : m (begun s) = .error (.exc e st c)) :
    performTransfer s m = takeException s e st c := by
  apply performKeepingRF_exc hl hr
  simp [h]

/-- An exception raised before the state changed is taken from the state the instruction started in. -/
theorem rollback_self (s : State) : rollback s s false = s := rfl

theorem rollback_begun (s : State) : rollback s (begun s) false = s := rfl

/-! ## The prefetch queue -/

/-- An instruction that stores nothing and leaves CR0.PG overtakes nothing in the prefetch queue. -/
theorem overtaken_of_same {s t : State} (hm : s.mem = t.mem) (hg : s.cr0.pg = t.cr0.pg) : overtaken s t = [] :=
  if_pos ⟨hm, hg⟩

/-- What an instruction overtakes: bytes the queue may hold of one of the `Config.prefetchDepth` linear addresses from its end. -/
theorem mem_overtaken {s t : State} {c : Host.Cell} (h : c ∈ overtaken s t) :
    ∃ i < Config.prefetchDepth, c.1 = (t.linear .cs (s.next + BitVec.ofNat 32 i)).toNat ∧
      c.2 ∈ overtakenAt s t (t.linear .cs (s.next + BitVec.ofNat 32 i)) := by
  simp only [overtaken] at h
  split at h
  · simp at h
  · simp only [List.mem_flatMap, List.mem_range, List.mem_map] at h
    obtain ⟨i, hi, b, hb, rfl⟩ := h
    exact ⟨i, hi, rfl, by simpa using hb⟩

/-! ## Operands -/

@[simp] theorem readPlace_reg (w : Width) (r : Reg) (s : State) : readPlace w (.reg r) s = .ok (s.reg w r, s) := rfl
@[simp] theorem readPlace_mem (w : Width) (as : List Nat) (s : State) :
    readPlace w (.mem as) s = .ok (leValue _ (as.map s.byte), s) := rfl
@[simp] theorem writePlace_reg (w : Width) (r : Reg) (v : BitVec w.bits) (s : State) :
    writePlace w (.reg r) v s = .ok ((), s.setReg w r v) := rfl
@[simp] theorem writePlace_mem (w : Width) (as : List Nat) (v : BitVec w.bits) (s : State) :
    writePlace w (.mem as) v s = .ok ((), s.setBytes as (leBytes w.bytes v)) := rfl
@[simp] theorem openRm_reg (w : Width) (r : Reg) (wr : Bool) (s : State) : openRm w (.reg r) wr s = .ok (.reg r, s) := rfl

theorem effAddr_ok {m : Mem} (h : openAddress m = false) (s : State) : effAddr m s = .ok (s.regs.ea m, s) := by
  simp [effAddr, h]

theorem resolve_ok {m : Mem} (h : openAddress m = false) (s : State) :
    resolve m s = .ok ((s.dataSeg (defaultSeg m), s.regs.ea m), s) := by
  simp [resolve, effAddr_ok h]

end Sys2Proof.Machine
end

