-- ==== Sys2Proof/Laws/Memory.lean ====
section
/-! SUPPORT. Memory: what a read sees after a write, the canonical form, and little-endian values. -/

namespace Sys2Proof.Machine

/-! ## One byte -/

/-- A write leaves every other byte alone. -/
theorem Memory.read_write_other {m : List Host.Cell} {a b : Nat} (v : Byte) (h : b ≠ a) :
    Memory.read (Memory.write m a v) b = Memory.read m b := by
  induction m with
  | nil => by_cases hv : v = Memory.unlisted <;> simp [Memory.write, Memory.read, hv, h]
  | cons c t ih =>
    obtain ⟨k, w⟩ := c
    by_cases h1 : a < k <;> by_cases h2 : a = k <;> by_cases hv : v = Memory.unlisted <;>
      simp_all [Memory.write, Memory.read, Nat.not_lt.mpr]

/-- Addresses below the bound are unlisted. -/
theorem Memory.read_below {m : List Host.Cell} {lo a : Nat} (h : Memory.wfFrom lo m = true) (ha : a < lo) :
    Memory.read m a = Memory.unlisted := by
  induction m generalizing lo with
  | nil => rfl
  | cons c t ih =>
    obtain ⟨k, w⟩ := c
    simp only [Memory.wfFrom, Bool.and_eq_true, decide_eq_true_eq] at h
    have : a ≠ k := by omega
    simp only [Memory.read, this, if_false]
    exact ih h.2 (by omega)

/-- A write is read back. -/
theorem Memory.read_write_same {m : List Host.Cell} {lo a : Nat} (v : Byte) (h : Memory.wfFrom lo m = true) :
    Memory.read (Memory.write m a v) a = v := by
  induction m generalizing lo with
  | nil => by_cases hv : v = Memory.unlisted <;> simp [Memory.write, Memory.read, hv]
  | cons c t ih =>
    obtain ⟨k, w⟩ := c
    have hw := h
    simp only [Memory.wfFrom, Bool.and_eq_true, decide_eq_true_eq] at h
    by_cases h1 : a < k
    · by_cases hv : v = Memory.unlisted
      · have hne : a ≠ k := by omega
        simp only [Memory.write, h1, hv, if_true, Memory.read, hne, if_false]
        exact Memory.read_below h.2 (by omega)
      · simp [Memory.write, h1, hv, Memory.read]
    · by_cases h2 : a = k
      · subst h2
        by_cases hv : v = Memory.unlisted
        · simp only [Memory.write, h1, hv, if_true, if_false]
          exact Memory.read_below h.2 (by omega)
        · simp [Memory.write, hv, Memory.read]
      · simp only [Memory.write, h1, h2, if_false, Memory.read]
        exact ih h.2

theorem Memory.wfFrom_mono {m : List Host.Cell} {lo lo' : Nat} (h : Memory.wfFrom lo m = true) (hl : lo' ≤ lo) :
    Memory.wfFrom lo' m = true := by
  cases m with
  | nil => rfl
  | cons c t =>
    obtain ⟨k, w⟩ := c
    simp only [Memory.wfFrom, Bool.and_eq_true, decide_eq_true_eq] at h ⊢
    exact ⟨⟨⟨by omega, h.1.1.2⟩, h.1.2⟩, h.2⟩

/-- A write inside the address space keeps the canonical form. -/
theorem Memory.wfFrom_write {m : List Host.Cell} {lo a : Nat} (v : Byte) (h : Memory.wfFrom lo m = true) (hlo : lo ≤ a)
    (ha : a < 2 ^ 32) : Memory.wfFrom lo (Memory.write m a v) = true := by
  induction m generalizing lo with
  | nil => by_cases hv : v = Memory.unlisted <;> simp [Memory.write, Memory.wfFrom, hv, hlo]; exact ha
  | cons c t ih =>
    obtain ⟨k, w⟩ := c
    have hw := h
    simp only [Memory.wfFrom, Bool.and_eq_true, decide_eq_true_eq] at h
    obtain ⟨⟨⟨h1, h2⟩, h3⟩, h4⟩ := h
    by_cases hk : a < k
    · by_cases hv : v = Memory.unlisted
      · simpa [Memory.write, hk, hv] using hw
      · simp only [Memory.write, hk, hv, if_true, if_false, Memory.wfFrom, Bool.and_eq_true, decide_eq_true_eq]
        exact ⟨⟨⟨hlo, ha⟩, by simpa using hv⟩, ⟨⟨hk, h2⟩, h3⟩, h4⟩
    · by_cases hk2 : a = k
      · subst hk2
        by_cases hv : v = Memory.unlisted
        · simp only [Memory.write, hk, hv, if_true, if_false]
          exact Memory.wfFrom_mono h4 (by omega)
        · simp only [Memory.write, hk, hv, if_true, if_false, Memory.wfFrom, Bool.and_eq_true, decide_eq_true_eq]
          exact ⟨⟨⟨hlo, ha⟩, by simpa using hv⟩, h4⟩
      · simp only [Memory.write, hk, hk2, if_false, Memory.wfFrom, Bool.and_eq_true, decide_eq_true_eq]
        exact ⟨⟨⟨h1, h2⟩, h3⟩, ih h4 (by omega)⟩

theorem Memory.wf_write {m : List Host.Cell} {a : Nat} (v : Byte) (h : Memory.wf m = true) (ha : a < 2 ^ 32) :
    Memory.wf (Memory.write m a v) = true := Memory.wfFrom_write v h (Nat.zero_le _) ha

/-! ## Several bytes -/

theorem byte_setByte_other {s : State} {a b : Nat} (v : Byte) (h : b ≠ a) : (s.setByte a v).byte b = s.byte b :=
  Memory.read_write_other v h

theorem byte_setByte_same {s : State} {a : Nat} (v : Byte) (h : Memory.wf s.mem = true) : (s.setByte a v).byte a = v :=
  Memory.read_write_same v h

theorem setBytes_byte (s : State) (as : List Nat) (bs : List Byte) : (s.setBytes as bs).byte = (s.putBytes as bs).byte := rfl

/-- A store leaves every byte outside its addresses alone. -/
theorem byte_setBytes_other {as : List Nat} {bs : List Byte} {s : State} {a : Nat} (h : a ∉ as) :
    (s.setBytes as bs).byte a = s.byte a := by
  rw [setBytes_byte]
  induction as generalizing s bs with
  | nil => cases bs <;> rfl
  | cons b as ih =>
    cases bs with
    | nil => rfl
    | cons v bs =>
      rw [State.putBytes, ih (by simp_all), byte_setByte_other v (by simp_all)]

theorem wf_putBytes {as : List Nat} {bs : List Byte} {s : State} (h : Memory.wf s.mem = true)
    (ha : ∀ a ∈ as, a < 2 ^ 32) : Memory.wf (s.putBytes as bs).mem = true := by
  induction as generalizing s bs with
  | nil => cases bs <;> exact h
  | cons b as ih =>
    cases bs with
    | nil => exact h
    | cons v bs => exact ih (Memory.wf_write v h (ha b (by simp))) (fun a ha' => ha a (by simp [ha']))

theorem wf_setBytes {as : List Nat} {bs : List Byte} {s : State} (h : Memory.wf s.mem = true)
    (ha : ∀ a ∈ as, a < 2 ^ 32) : Memory.wf (s.setBytes as bs).mem = true := wf_putBytes h ha

/-- What a store to distinct addresses wrote is read back, byte by byte. -/
theorem map_byte_setBytes {as : List Nat} {bs : List Byte} {s : State} (h : Memory.wf s.mem = true)
    (ha : ∀ a ∈ as, a < 2 ^ 32) (hn : as.Nodup) (hl : as.length = bs.length) :
    as.map (s.setBytes as bs).byte = bs := by
  rw [setBytes_byte]
  induction as generalizing s bs with
  | nil => cases bs <;> simp_all
  | cons b as ih =>
    cases bs with
    | nil => simp at hl
    | cons v bs =>
      simp only [List.nodup_cons] at hn
      simp only [State.putBytes, List.map_cons, List.cons.injEq]
      refine ⟨?_, ih (Memory.wf_write v h (ha b (by simp))) (fun a ha' => ha a (by simp [ha'])) hn.2 (by simpa using hl)⟩
      rw [← setBytes_byte, byte_setBytes_other hn.1, byte_setByte_same v h]

theorem wf_setPhysDword {s : State} (a v : Dword) (h : Memory.wf s.mem = true) :
    Memory.wf (s.setPhysDword a v).mem = true := by
  have hb : ∀ x : Dword, x.toNat < 2 ^ 32 := fun x => x.isLt
  simp only [State.setPhysDword, State.setByte]
  exact Memory.wf_write _ (Memory.wf_write _ (Memory.wf_write _ (Memory.wf_write _ h (hb _)) (hb _)) (hb _)) (hb _)

/-! ## Little-endian values -/

@[simp] theorem leBytes_length {n : Nat} (k : Nat) (v : BitVec n) : (leBytes k v).length = k := by
  induction k generalizing v with
  | zero => rfl
  | succ k ih => simp [leBytes, ih]

theorem leNat_leBytes {n : Nat} (k : Nat) (v : BitVec n) : leNat (leBytes k v) = v.toNat % 2 ^ (8 * k) := by
  induction k generalizing v with
  | zero => simp [leBytes, leNat, Nat.mod_one]
  | succ k ih =>
    have hp : 2 ^ (8 * (k + 1)) = 256 * 2 ^ (8 * k) := by rw [Nat.mul_add, Nat.pow_add]; omega
    rw [leBytes, leNat, ih, hp, Nat.mod_mul]
    simp [BitVec.toNat_setWidth, Nat.shiftRight_eq_div_pow]

/-- Little-endian bytes read back as the value. -/
theorem leValue_leBytes {k : Nat} (v : BitVec (8 * k)) : leValue (8 * k) (leBytes k v) = v := by
  apply BitVec.eq_of_toNat_eq
  rw [leValue, BitVec.toNat_ofNat, leNat_leBytes, Nat.mod_mod]
  exact Nat.mod_eq_of_lt v.isLt

theorem leValue_leBytes_width (w : Width) (v : BitVec w.bits) : leValue w.bits (leBytes w.bytes v) = v := by
  cases w
  · exact leValue_leBytes (k := 1) v
  · exact leValue_leBytes (k := 2) v
  · exact leValue_leBytes (k := 4) v

/-- A narrower reading of the same bytes is the low part. -/
theorem leValue_setWidth {n m : Nat} (h : n ≤ m) (bs : List Byte) : (leValue m bs).setWidth n = leValue n bs := by
  apply BitVec.eq_of_toNat_eq
  simp only [leValue, BitVec.toNat_setWidth, BitVec.toNat_ofNat]
  exact Nat.mod_mod_of_dvd _ (pow_dvd_pow 2 h)

theorem leNat_lt (bs : List Byte) : leNat bs < 2 ^ (8 * bs.length) := by
  induction bs with
  | nil => simp [leNat]
  | cons b bs ih =>
    have := b.isLt
    simp only [leNat, List.length_cons]
    rw [show 8 * (bs.length + 1) = 8 * bs.length + 8 by ring, pow_add]
    omega

/-- The bytes of a value read from bytes are those bytes. -/
theorem leBytes_leValue (bs : List Byte) (n : Nat) (h : 8 * bs.length ≤ n) : leBytes bs.length (leValue n bs) = bs := by
  induction bs with
  | nil => rfl
  | cons b bs ih =>
    have hb := b.isLt
    simp only [List.length_cons] at h
    have e : leNat (b :: bs) < 2 ^ n := lt_of_lt_of_le (leNat_lt _) (Nat.pow_le_pow_right (by norm_num) (by simpa using h))
    have e' : leNat bs < 2 ^ n := lt_of_lt_of_le (leNat_lt _) (Nat.pow_le_pow_right (by norm_num) (by omega))
    have hs : leValue n (b :: bs) >>> 8 = leValue n bs := by
      apply BitVec.eq_of_toNat_eq
      simp only [leValue, BitVec.toNat_ushiftRight, BitVec.toNat_ofNat, Nat.mod_eq_of_lt e, Nat.mod_eq_of_lt e',
        Nat.shiftRight_eq_div_pow]
      simp only [leNat]
      omega
    simp only [List.length_cons, leBytes, List.cons.injEq, hs, ih (by omega), and_true]
    apply BitVec.eq_of_toNat_eq
    simp only [leValue, BitVec.toNat_setWidth, BitVec.toNat_ofNat, Nat.mod_eq_of_lt e]
    simp only [leNat]
    omega

/-! ## Reset -/

theorem reset_mem_wf : Memory.wf State.reset.mem = true := rfl

end Sys2Proof.Machine
end

