-- ==== Sys2Proof/Laws/State.lean ====
section
/-! SUPPORT. The fields of a state after each named update: one lemma per field per update, so that no later proof unfolds an
update. -/

namespace Sys2Proof.Machine

/-! ## A general register -/

@[simp] theorem setReg_regs (s : State) (w : Width) (r : Reg) (v : BitVec w.bits) :
    (s.setReg w r v).regs = s.regs.write w r v := rfl
@[simp] theorem setReg_eip (s : State) (w : Width) (r : Reg) (v : BitVec w.bits) :
    (s.setReg w r v).eip = s.eip := rfl
@[simp] theorem setReg_next (s : State) (w : Width) (r : Reg) (v : BitVec w.bits) :
    (s.setReg w r v).next = s.next := rfl
@[simp] theorem setReg_flags (s : State) (w : Width) (r : Reg) (v : BitVec w.bits) :
    (s.setReg w r v).flags = s.flags := rfl
@[simp] theorem setReg_es (s : State) (w : Width) (r : Reg) (v : BitVec w.bits) :
    (s.setReg w r v).es = s.es := rfl
@[simp] theorem setReg_cs (s : State) (w : Width) (r : Reg) (v : BitVec w.bits) :
    (s.setReg w r v).cs = s.cs := rfl
@[simp] theorem setReg_ss (s : State) (w : Width) (r : Reg) (v : BitVec w.bits) :
    (s.setReg w r v).ss = s.ss := rfl
@[simp] theorem setReg_ds (s : State) (w : Width) (r : Reg) (v : BitVec w.bits) :
    (s.setReg w r v).ds = s.ds := rfl
@[simp] theorem setReg_fs (s : State) (w : Width) (r : Reg) (v : BitVec w.bits) :
    (s.setReg w r v).fs = s.fs := rfl
@[simp] theorem setReg_gs (s : State) (w : Width) (r : Reg) (v : BitVec w.bits) :
    (s.setReg w r v).gs = s.gs := rfl
@[simp] theorem setReg_cpl (s : State) (w : Width) (r : Reg) (v : BitVec w.bits) :
    (s.setReg w r v).cpl = s.cpl := rfl
@[simp] theorem setReg_gdtr (s : State) (w : Width) (r : Reg) (v : BitVec w.bits) :
    (s.setReg w r v).gdtr = s.gdtr := rfl
@[simp] theorem setReg_idtr (s : State) (w : Width) (r : Reg) (v : BitVec w.bits) :
    (s.setReg w r v).idtr = s.idtr := rfl
@[simp] theorem setReg_ldtr (s : State) (w : Width) (r : Reg) (v : BitVec w.bits) :
    (s.setReg w r v).ldtr = s.ldtr := rfl
@[simp] theorem setReg_tr (s : State) (w : Width) (r : Reg) (v : BitVec w.bits) :
    (s.setReg w r v).tr = s.tr := rfl
@[simp] theorem setReg_cr0 (s : State) (w : Width) (r : Reg) (v : BitVec w.bits) :
    (s.setReg w r v).cr0 = s.cr0 := rfl
@[simp] theorem setReg_cr2 (s : State) (w : Width) (r : Reg) (v : BitVec w.bits) :
    (s.setReg w r v).cr2 = s.cr2 := rfl
@[simp] theorem setReg_cr3 (s : State) (w : Width) (r : Reg) (v : BitVec w.bits) :
    (s.setReg w r v).cr3 = s.cr3 := rfl
@[simp] theorem setReg_dr0 (s : State) (w : Width) (r : Reg) (v : BitVec w.bits) :
    (s.setReg w r v).dr0 = s.dr0 := rfl
@[simp] theorem setReg_dr1 (s : State) (w : Width) (r : Reg) (v : BitVec w.bits) :
    (s.setReg w r v).dr1 = s.dr1 := rfl
@[simp] theorem setReg_dr2 (s : State) (w : Width) (r : Reg) (v : BitVec w.bits) :
    (s.setReg w r v).dr2 = s.dr2 := rfl
@[simp] theorem setReg_dr3 (s : State) (w : Width) (r : Reg) (v : BitVec w.bits) :
    (s.setReg w r v).dr3 = s.dr3 := rfl
@[simp] theorem setReg_dr6 (s : State) (w : Width) (r : Reg) (v : BitVec w.bits) :
    (s.setReg w r v).dr6 = s.dr6 := rfl
@[simp] theorem setReg_dr7 (s : State) (w : Width) (r : Reg) (v : BitVec w.bits) :
    (s.setReg w r v).dr7 = s.dr7 := rfl
@[simp] theorem setReg_tr6 (s : State) (w : Width) (r : Reg) (v : BitVec w.bits) :
    (s.setReg w r v).tr6 = s.tr6 := rfl
@[simp] theorem setReg_tr7 (s : State) (w : Width) (r : Reg) (v : BitVec w.bits) :
    (s.setReg w r v).tr7 = s.tr7 := rfl
@[simp] theorem setReg_inhibit (s : State) (w : Width) (r : Reg) (v : BitVec w.bits) :
    (s.setReg w r v).inhibit = s.inhibit := rfl
@[simp] theorem setReg_halted (s : State) (w : Width) (r : Reg) (v : BitVec w.bits) :
    (s.setReg w r v).halted = s.halted := rfl
@[simp] theorem setReg_shutdown (s : State) (w : Width) (r : Reg) (v : BitVec w.bits) :
    (s.setReg w r v).shutdown = s.shutdown := rfl
@[simp] theorem setReg_nmiBlocked (s : State) (w : Width) (r : Reg) (v : BitVec w.bits) :
    (s.setReg w r v).nmiBlocked = s.nmiBlocked := rfl
@[simp] theorem setReg_nmiPending (s : State) (w : Width) (r : Reg) (v : BitVec w.bits) :
    (s.setReg w r v).nmiPending = s.nmiPending := rfl
@[simp] theorem setReg_trapPending (s : State) (w : Width) (r : Reg) (v : BitVec w.bits) :
    (s.setReg w r v).trapPending = s.trapPending := rfl
@[simp] theorem setReg_tlb (s : State) (w : Width) (r : Reg) (v : BitVec w.bits) :
    (s.setReg w r v).tlb = s.tlb := rfl
@[simp] theorem setReg_tlbUndef (s : State) (w : Width) (r : Reg) (v : BitVec w.bits) :
    (s.setReg w r v).tlbUndef = s.tlbUndef := rfl
@[simp] theorem setReg_queue (s : State) (w : Width) (r : Reg) (v : BitVec w.bits) :
    (s.setReg w r v).queue = s.queue := rfl
@[simp] theorem setReg_pfx (s : State) (w : Width) (r : Reg) (v : BitVec w.bits) :
    (s.setReg w r v).pfx = s.pfx := rfl
@[simp] theorem setReg_mem (s : State) (w : Width) (r : Reg) (v : BitVec w.bits) :
    (s.setReg w r v).mem = s.mem := rfl
@[simp] theorem setReg_pins (s : State) (w : Width) (r : Reg) (v : BitVec w.bits) :
    (s.setReg w r v).pins = s.pins := rfl
@[simp] theorem setReg_ioLog (s : State) (w : Width) (r : Reg) (v : BitVec w.bits) :
    (s.setReg w r v).ioLog = s.ioLog := rfl
@[simp] theorem setReg_draws (s : State) (w : Width) (r : Reg) (v : BitVec w.bits) :
    (s.setReg w r v).draws = s.draws := rfl

/-! ## The stack pointer -/

@[simp] theorem setSp_eip (s : State) (v : Dword) : (s.setSp v).eip = s.eip := rfl
@[simp] theorem setSp_next (s : State) (v : Dword) : (s.setSp v).next = s.next := rfl
@[simp] theorem setSp_flags (s : State) (v : Dword) : (s.setSp v).flags = s.flags := rfl
@[simp] theorem setSp_es (s : State) (v : Dword) : (s.setSp v).es = s.es := rfl
@[simp] theorem setSp_cs (s : State) (v : Dword) : (s.setSp v).cs = s.cs := rfl
@[simp] theorem setSp_ss (s : State) (v : Dword) : (s.setSp v).ss = s.ss := rfl
@[simp] theorem setSp_ds (s : State) (v : Dword) : (s.setSp v).ds = s.ds := rfl
@[simp] theorem setSp_fs (s : State) (v : Dword) : (s.setSp v).fs = s.fs := rfl
@[simp] theorem setSp_gs (s : State) (v : Dword) : (s.setSp v).gs = s.gs := rfl
@[simp] theorem setSp_cpl (s : State) (v : Dword) : (s.setSp v).cpl = s.cpl := rfl
@[simp] theorem setSp_gdtr (s : State) (v : Dword) : (s.setSp v).gdtr = s.gdtr := rfl
@[simp] theorem setSp_idtr (s : State) (v : Dword) : (s.setSp v).idtr = s.idtr := rfl
@[simp] theorem setSp_ldtr (s : State) (v : Dword) : (s.setSp v).ldtr = s.ldtr := rfl
@[simp] theorem setSp_tr (s : State) (v : Dword) : (s.setSp v).tr = s.tr := rfl
@[simp] theorem setSp_cr0 (s : State) (v : Dword) : (s.setSp v).cr0 = s.cr0 := rfl
@[simp] theorem setSp_cr2 (s : State) (v : Dword) : (s.setSp v).cr2 = s.cr2 := rfl
@[simp] theorem setSp_cr3 (s : State) (v : Dword) : (s.setSp v).cr3 = s.cr3 := rfl
@[simp] theorem setSp_dr0 (s : State) (v : Dword) : (s.setSp v).dr0 = s.dr0 := rfl
@[simp] theorem setSp_dr1 (s : State) (v : Dword) : (s.setSp v).dr1 = s.dr1 := rfl
@[simp] theorem setSp_dr2 (s : State) (v : Dword) : (s.setSp v).dr2 = s.dr2 := rfl
@[simp] theorem setSp_dr3 (s : State) (v : Dword) : (s.setSp v).dr3 = s.dr3 := rfl
@[simp] theorem setSp_dr6 (s : State) (v : Dword) : (s.setSp v).dr6 = s.dr6 := rfl
@[simp] theorem setSp_dr7 (s : State) (v : Dword) : (s.setSp v).dr7 = s.dr7 := rfl
@[simp] theorem setSp_tr6 (s : State) (v : Dword) : (s.setSp v).tr6 = s.tr6 := rfl
@[simp] theorem setSp_tr7 (s : State) (v : Dword) : (s.setSp v).tr7 = s.tr7 := rfl
@[simp] theorem setSp_inhibit (s : State) (v : Dword) : (s.setSp v).inhibit = s.inhibit := rfl
@[simp] theorem setSp_halted (s : State) (v : Dword) : (s.setSp v).halted = s.halted := rfl
@[simp] theorem setSp_shutdown (s : State) (v : Dword) : (s.setSp v).shutdown = s.shutdown := rfl
@[simp] theorem setSp_nmiBlocked (s : State) (v : Dword) : (s.setSp v).nmiBlocked = s.nmiBlocked := rfl
@[simp] theorem setSp_nmiPending (s : State) (v : Dword) : (s.setSp v).nmiPending = s.nmiPending := rfl
@[simp] theorem setSp_trapPending (s : State) (v : Dword) : (s.setSp v).trapPending = s.trapPending := rfl
@[simp] theorem setSp_tlb (s : State) (v : Dword) : (s.setSp v).tlb = s.tlb := rfl
@[simp] theorem setSp_tlbUndef (s : State) (v : Dword) : (s.setSp v).tlbUndef = s.tlbUndef := rfl
@[simp] theorem setSp_queue (s : State) (v : Dword) : (s.setSp v).queue = s.queue := rfl
@[simp] theorem setSp_pfx (s : State) (v : Dword) : (s.setSp v).pfx = s.pfx := rfl
@[simp] theorem setSp_mem (s : State) (v : Dword) : (s.setSp v).mem = s.mem := rfl
@[simp] theorem setSp_pins (s : State) (v : Dword) : (s.setSp v).pins = s.pins := rfl
@[simp] theorem setSp_ioLog (s : State) (v : Dword) : (s.setSp v).ioLog = s.ioLog := rfl
@[simp] theorem setSp_draws (s : State) (v : Dword) : (s.setSp v).draws = s.draws := rfl

/-! ## A segment register -/

@[simp] theorem setSeg_regs (s : State) (r : Sreg) (v : SegReg) : (s.setSeg r v).regs = s.regs := by cases r <;> rfl
@[simp] theorem setSeg_eip (s : State) (r : Sreg) (v : SegReg) : (s.setSeg r v).eip = s.eip := by cases r <;> rfl
@[simp] theorem setSeg_next (s : State) (r : Sreg) (v : SegReg) : (s.setSeg r v).next = s.next := by cases r <;> rfl
@[simp] theorem setSeg_flags (s : State) (r : Sreg) (v : SegReg) : (s.setSeg r v).flags = s.flags := by cases r <;> rfl
@[simp] theorem setSeg_cpl (s : State) (r : Sreg) (v : SegReg) : (s.setSeg r v).cpl = s.cpl := by cases r <;> rfl
@[simp] theorem setSeg_gdtr (s : State) (r : Sreg) (v : SegReg) : (s.setSeg r v).gdtr = s.gdtr := by cases r <;> rfl
@[simp] theorem setSeg_idtr (s : State) (r : Sreg) (v : SegReg) : (s.setSeg r v).idtr = s.idtr := by cases r <;> rfl
@[simp] theorem setSeg_ldtr (s : State) (r : Sreg) (v : SegReg) : (s.setSeg r v).ldtr = s.ldtr := by cases r <;> rfl
@[simp] theorem setSeg_tr (s : State) (r : Sreg) (v : SegReg) : (s.setSeg r v).tr = s.tr := by cases r <;> rfl
@[simp] theorem setSeg_cr0 (s : State) (r : Sreg) (v : SegReg) : (s.setSeg r v).cr0 = s.cr0 := by cases r <;> rfl
@[simp] theorem setSeg_cr2 (s : State) (r : Sreg) (v : SegReg) : (s.setSeg r v).cr2 = s.cr2 := by cases r <;> rfl
@[simp] theorem setSeg_cr3 (s : State) (r : Sreg) (v : SegReg) : (s.setSeg r v).cr3 = s.cr3 := by cases r <;> rfl
@[simp] theorem setSeg_dr0 (s : State) (r : Sreg) (v : SegReg) : (s.setSeg r v).dr0 = s.dr0 := by cases r <;> rfl
@[simp] theorem setSeg_dr1 (s : State) (r : Sreg) (v : SegReg) : (s.setSeg r v).dr1 = s.dr1 := by cases r <;> rfl
@[simp] theorem setSeg_dr2 (s : State) (r : Sreg) (v : SegReg) : (s.setSeg r v).dr2 = s.dr2 := by cases r <;> rfl
@[simp] theorem setSeg_dr3 (s : State) (r : Sreg) (v : SegReg) : (s.setSeg r v).dr3 = s.dr3 := by cases r <;> rfl
@[simp] theorem setSeg_dr6 (s : State) (r : Sreg) (v : SegReg) : (s.setSeg r v).dr6 = s.dr6 := by cases r <;> rfl
@[simp] theorem setSeg_dr7 (s : State) (r : Sreg) (v : SegReg) : (s.setSeg r v).dr7 = s.dr7 := by cases r <;> rfl
@[simp] theorem setSeg_tr6 (s : State) (r : Sreg) (v : SegReg) : (s.setSeg r v).tr6 = s.tr6 := by cases r <;> rfl
@[simp] theorem setSeg_tr7 (s : State) (r : Sreg) (v : SegReg) : (s.setSeg r v).tr7 = s.tr7 := by cases r <;> rfl
@[simp] theorem setSeg_inhibit (s : State) (r : Sreg) (v : SegReg) : (s.setSeg r v).inhibit = s.inhibit := by cases r <;> rfl
@[simp] theorem setSeg_halted (s : State) (r : Sreg) (v : SegReg) : (s.setSeg r v).halted = s.halted := by cases r <;> rfl
@[simp] theorem setSeg_shutdown (s : State) (r : Sreg) (v : SegReg) : (s.setSeg r v).shutdown = s.shutdown := by cases r <;> rfl
@[simp] theorem setSeg_nmiBlocked (s : State) (r : Sreg) (v : SegReg) : (s.setSeg r v).nmiBlocked = s.nmiBlocked := by cases r <;> rfl
@[simp] theorem setSeg_nmiPending (s : State) (r : Sreg) (v : SegReg) : (s.setSeg r v).nmiPending = s.nmiPending := by cases r <;> rfl
@[simp] theorem setSeg_trapPending (s : State) (r : Sreg) (v : SegReg) : (s.setSeg r v).trapPending = s.trapPending := by cases r <;> rfl
@[simp] theorem setSeg_tlb (s : State) (r : Sreg) (v : SegReg) : (s.setSeg r v).tlb = s.tlb := by cases r <;> rfl
@[simp] theorem setSeg_tlbUndef (s : State) (r : Sreg) (v : SegReg) : (s.setSeg r v).tlbUndef = s.tlbUndef := by cases r <;> rfl
@[simp] theorem setSeg_queue (s : State) (r : Sreg) (v : SegReg) : (s.setSeg r v).queue = s.queue := by cases r <;> rfl
@[simp] theorem setSeg_pfx (s : State) (r : Sreg) (v : SegReg) : (s.setSeg r v).pfx = s.pfx := by cases r <;> rfl
@[simp] theorem setSeg_mem (s : State) (r : Sreg) (v : SegReg) : (s.setSeg r v).mem = s.mem := by cases r <;> rfl
@[simp] theorem setSeg_pins (s : State) (r : Sreg) (v : SegReg) : (s.setSeg r v).pins = s.pins := by cases r <;> rfl
@[simp] theorem setSeg_ioLog (s : State) (r : Sreg) (v : SegReg) : (s.setSeg r v).ioLog = s.ioLog := by cases r <;> rfl
@[simp] theorem setSeg_draws (s : State) (r : Sreg) (v : SegReg) : (s.setSeg r v).draws = s.draws := by cases r <;> rfl
@[simp] theorem setSeg_seg (s : State) (r : Sreg) (v : SegReg) : (s.setSeg r v).seg r = v := by cases r <;> rfl
theorem setSeg_seg_other (s : State) {r q : Sreg} (v : SegReg) (h : q ≠ r) : (s.setSeg r v).seg q = s.seg q := by
  cases r <;> cases q <;> first | rfl | exact absurd rfl h

/-! ## A byte of memory -/

@[simp] theorem setByte_regs (s : State) (a : Nat) (v : Byte) : (s.setByte a v).regs = s.regs := rfl
@[simp] theorem setByte_eip (s : State) (a : Nat) (v : Byte) : (s.setByte a v).eip = s.eip := rfl
@[simp] theorem setByte_next (s : State) (a : Nat) (v : Byte) : (s.setByte a v).next = s.next := rfl
@[simp] theorem setByte_flags (s : State) (a : Nat) (v : Byte) : (s.setByte a v).flags = s.flags := rfl
@[simp] theorem setByte_es (s : State) (a : Nat) (v : Byte) : (s.setByte a v).es = s.es := rfl
@[simp] theorem setByte_cs (s : State) (a : Nat) (v : Byte) : (s.setByte a v).cs = s.cs := rfl
@[simp] theorem setByte_ss (s : State) (a : Nat) (v : Byte) : (s.setByte a v).ss = s.ss := rfl
@[simp] theorem setByte_ds (s : State) (a : Nat) (v : Byte) : (s.setByte a v).ds = s.ds := rfl
@[simp] theorem setByte_fs (s : State) (a : Nat) (v : Byte) : (s.setByte a v).fs = s.fs := rfl
@[simp] theorem setByte_gs (s : State) (a : Nat) (v : Byte) : (s.setByte a v).gs = s.gs := rfl
@[simp] theorem setByte_cpl (s : State) (a : Nat) (v : Byte) : (s.setByte a v).cpl = s.cpl := rfl
@[simp] theorem setByte_gdtr (s : State) (a : Nat) (v : Byte) : (s.setByte a v).gdtr = s.gdtr := rfl
@[simp] theorem setByte_idtr (s : State) (a : Nat) (v : Byte) : (s.setByte a v).idtr = s.idtr := rfl
@[simp] theorem setByte_ldtr (s : State) (a : Nat) (v : Byte) : (s.setByte a v).ldtr = s.ldtr := rfl
@[simp] theorem setByte_tr (s : State) (a : Nat) (v : Byte) : (s.setByte a v).tr = s.tr := rfl
@[simp] theorem setByte_cr0 (s : State) (a : Nat) (v : Byte) : (s.setByte a v).cr0 = s.cr0 := rfl
@[simp] theorem setByte_cr2 (s : State) (a : Nat) (v : Byte) : (s.setByte a v).cr2 = s.cr2 := rfl
@[simp] theorem setByte_cr3 (s : State) (a : Nat) (v : Byte) : (s.setByte a v).cr3 = s.cr3 := rfl
@[simp] theorem setByte_dr0 (s : State) (a : Nat) (v : Byte) : (s.setByte a v).dr0 = s.dr0 := rfl
@[simp] theorem setByte_dr1 (s : State) (a : Nat) (v : Byte) : (s.setByte a v).dr1 = s.dr1 := rfl
@[simp] theorem setByte_dr2 (s : State) (a : Nat) (v : Byte) : (s.setByte a v).dr2 = s.dr2 := rfl
@[simp] theorem setByte_dr3 (s : State) (a : Nat) (v : Byte) : (s.setByte a v).dr3 = s.dr3 := rfl
@[simp] theorem setByte_dr6 (s : State) (a : Nat) (v : Byte) : (s.setByte a v).dr6 = s.dr6 := rfl
@[simp] theorem setByte_dr7 (s : State) (a : Nat) (v : Byte) : (s.setByte a v).dr7 = s.dr7 := rfl
@[simp] theorem setByte_tr6 (s : State) (a : Nat) (v : Byte) : (s.setByte a v).tr6 = s.tr6 := rfl
@[simp] theorem setByte_tr7 (s : State) (a : Nat) (v : Byte) : (s.setByte a v).tr7 = s.tr7 := rfl
@[simp] theorem setByte_inhibit (s : State) (a : Nat) (v : Byte) : (s.setByte a v).inhibit = s.inhibit := rfl
@[simp] theorem setByte_halted (s : State) (a : Nat) (v : Byte) : (s.setByte a v).halted = s.halted := rfl
@[simp] theorem setByte_shutdown (s : State) (a : Nat) (v : Byte) : (s.setByte a v).shutdown = s.shutdown := rfl
@[simp] theorem setByte_nmiBlocked (s : State) (a : Nat) (v : Byte) : (s.setByte a v).nmiBlocked = s.nmiBlocked := rfl
@[simp] theorem setByte_nmiPending (s : State) (a : Nat) (v : Byte) : (s.setByte a v).nmiPending = s.nmiPending := rfl
@[simp] theorem setByte_trapPending (s : State) (a : Nat) (v : Byte) : (s.setByte a v).trapPending = s.trapPending := rfl
@[simp] theorem setByte_tlb (s : State) (a : Nat) (v : Byte) : (s.setByte a v).tlb = s.tlb := rfl
@[simp] theorem setByte_tlbUndef (s : State) (a : Nat) (v : Byte) : (s.setByte a v).tlbUndef = s.tlbUndef := rfl
@[simp] theorem setByte_queue (s : State) (a : Nat) (v : Byte) : (s.setByte a v).queue = s.queue := rfl
@[simp] theorem setByte_pfx (s : State) (a : Nat) (v : Byte) : (s.setByte a v).pfx = s.pfx := rfl
@[simp] theorem setByte_mem (s : State) (a : Nat) (v : Byte) : (s.setByte a v).mem = Memory.write s.mem a v := rfl
@[simp] theorem setByte_pins (s : State) (a : Nat) (v : Byte) : (s.setByte a v).pins = s.pins := rfl
@[simp] theorem setByte_ioLog (s : State) (a : Nat) (v : Byte) : (s.setByte a v).ioLog = s.ioLog := rfl
@[simp] theorem setByte_draws (s : State) (a : Nat) (v : Byte) : (s.setByte a v).draws = s.draws := rfl

/-! ## Several bytes of memory -/

/-- Writing bytes changes memory only. -/
theorem putBytes_eq (s : State) (as : List Nat) (bs : List Byte) :
    s.putBytes as bs = { s with mem := (s.putBytes as bs).mem } := by
  induction as generalizing s bs with
  | nil => cases bs <;> rfl
  | cons a as ih =>
    cases bs with
    | nil => rfl
    | cons b bs => exact (ih (s.setByte a b) bs).trans rfl

/-- What writing bytes does to memory does not depend on the rest of the state. -/
theorem putBytes_mem_congr {s t : State} (h : s.mem = t.mem) (as : List Nat) (bs : List Byte) :
    (s.putBytes as bs).mem = (t.putBytes as bs).mem := by
  induction as generalizing s t bs with
  | nil => cases bs <;> exact h
  | cons a as ih =>
    cases bs with
    | nil => exact h
    | cons b bs => exact ih (by simp [h]) bs

/-- A store changes memory, and notes the page-table entries it changed. -/
theorem setBytes_eq (s : State) (as : List Nat) (bs : List Byte) :
    s.setBytes as bs = { s with
      mem := (s.putBytes as bs).mem, tlb := changedEntries s (s.putBytes as bs) as ++ s.tlb } := by
  unfold State.setBytes
  rw [putBytes_eq]

@[simp] theorem setBytes_mem (s : State) (as : List Nat) (bs : List Byte) :
    (s.setBytes as bs).mem = (s.putBytes as bs).mem := rfl

/-- What a store does to memory does not depend on the rest of the state. -/
theorem setBytes_mem_congr {s t : State} (h : s.mem = t.mem) (as : List Nat) (bs : List Byte) :
    (s.setBytes as bs).mem = (t.setBytes as bs).mem := putBytes_mem_congr h as bs

@[simp] theorem setBytes_nil (s : State) (bs : List Byte) : s.setBytes [] bs = s := by
  cases bs <;> simp [State.setBytes, State.putBytes, changedEntries]

@[simp] theorem setBytes_tlb (s : State) (as : List Nat) (bs : List Byte) :
    (s.setBytes as bs).tlb = changedEntries s (s.putBytes as bs) as ++ s.tlb := rfl

/-- While every translation is unspecified a store notes nothing. -/
theorem changedEntries_undef {s : State} (h : s.tlbUndef = true) (t : State) (as : List Nat) : changedEntries s t as = [] := by
  simp [changedEntries, h]

@[simp] theorem setBytes_regs (s : State) (as : List Nat) (bs : List Byte) : (s.setBytes as bs).regs = s.regs := by
  rw [setBytes_eq]
@[simp] theorem setBytes_eip (s : State) (as : List Nat) (bs : List Byte) : (s.setBytes as bs).eip = s.eip := by
  rw [setBytes_eq]
@[simp] theorem setBytes_next (s : State) (as : List Nat) (bs : List Byte) : (s.setBytes as bs).next = s.next := by
  rw [setBytes_eq]
@[simp] theorem setBytes_flags (s : State) (as : List Nat) (bs : List Byte) : (s.setBytes as bs).flags = s.flags := by
  rw [setBytes_eq]
@[simp] theorem setBytes_es (s : State) (as : List Nat) (bs : List Byte) : (s.setBytes as bs).es = s.es := by
  rw [setBytes_eq]
@[simp] theorem setBytes_cs (s : State) (as : List Nat) (bs : List Byte) : (s.setBytes as bs).cs = s.cs := by
  rw [setBytes_eq]
@[simp] theorem setBytes_ss (s : State) (as : List Nat) (bs : List Byte) : (s.setBytes as bs).ss = s.ss := by
  rw [setBytes_eq]
@[simp] theorem setBytes_ds (s : State) (as : List Nat) (bs : List Byte) : (s.setBytes as bs).ds = s.ds := by
  rw [setBytes_eq]
@[simp] theorem setBytes_fs (s : State) (as : List Nat) (bs : List Byte) : (s.setBytes as bs).fs = s.fs := by
  rw [setBytes_eq]
@[simp] theorem setBytes_gs (s : State) (as : List Nat) (bs : List Byte) : (s.setBytes as bs).gs = s.gs := by
  rw [setBytes_eq]
@[simp] theorem setBytes_cpl (s : State) (as : List Nat) (bs : List Byte) : (s.setBytes as bs).cpl = s.cpl := by
  rw [setBytes_eq]
@[simp] theorem setBytes_gdtr (s : State) (as : List Nat) (bs : List Byte) : (s.setBytes as bs).gdtr = s.gdtr := by
  rw [setBytes_eq]
@[simp] theorem setBytes_idtr (s : State) (as : List Nat) (bs : List Byte) : (s.setBytes as bs).idtr = s.idtr := by
  rw [setBytes_eq]
@[simp] theorem setBytes_ldtr (s : State) (as : List Nat) (bs : List Byte) : (s.setBytes as bs).ldtr = s.ldtr := by
  rw [setBytes_eq]
@[simp] theorem setBytes_tr (s : State) (as : List Nat) (bs : List Byte) : (s.setBytes as bs).tr = s.tr := by
  rw [setBytes_eq]
@[simp] theorem setBytes_cr0 (s : State) (as : List Nat) (bs : List Byte) : (s.setBytes as bs).cr0 = s.cr0 := by
  rw [setBytes_eq]
@[simp] theorem setBytes_cr2 (s : State) (as : List Nat) (bs : List Byte) : (s.setBytes as bs).cr2 = s.cr2 := by
  rw [setBytes_eq]
@[simp] theorem setBytes_cr3 (s : State) (as : List Nat) (bs : List Byte) : (s.setBytes as bs).cr3 = s.cr3 := by
  rw [setBytes_eq]
@[simp] theorem setBytes_dr0 (s : State) (as : List Nat) (bs : List Byte) : (s.setBytes as bs).dr0 = s.dr0 := by
  rw [setBytes_eq]
@[simp] theorem setBytes_dr1 (s : State) (as : List Nat) (bs : List Byte) : (s.setBytes as bs).dr1 = s.dr1 := by
  rw [setBytes_eq]
@[simp] theorem setBytes_dr2 (s : State) (as : List Nat) (bs : List Byte) : (s.setBytes as bs).dr2 = s.dr2 := by
  rw [setBytes_eq]
@[simp] theorem setBytes_dr3 (s : State) (as : List Nat) (bs : List Byte) : (s.setBytes as bs).dr3 = s.dr3 := by
  rw [setBytes_eq]
@[simp] theorem setBytes_dr6 (s : State) (as : List Nat) (bs : List Byte) : (s.setBytes as bs).dr6 = s.dr6 := by
  rw [setBytes_eq]
@[simp] theorem setBytes_dr7 (s : State) (as : List Nat) (bs : List Byte) : (s.setBytes as bs).dr7 = s.dr7 := by
  rw [setBytes_eq]
@[simp] theorem setBytes_tr6 (s : State) (as : List Nat) (bs : List Byte) : (s.setBytes as bs).tr6 = s.tr6 := by
  rw [setBytes_eq]
@[simp] theorem setBytes_tr7 (s : State) (as : List Nat) (bs : List Byte) : (s.setBytes as bs).tr7 = s.tr7 := by
  rw [setBytes_eq]
@[simp] theorem setBytes_inhibit (s : State) (as : List Nat) (bs : List Byte) : (s.setBytes as bs).inhibit = s.inhibit := by
  rw [setBytes_eq]
@[simp] theorem setBytes_halted (s : State) (as : List Nat) (bs : List Byte) : (s.setBytes as bs).halted = s.halted := by
  rw [setBytes_eq]
@[simp] theorem setBytes_shutdown (s : State) (as : List Nat) (bs : List Byte) : (s.setBytes as bs).shutdown = s.shutdown := by
  rw [setBytes_eq]
@[simp] theorem setBytes_nmiBlocked (s : State) (as : List Nat) (bs : List Byte) : (s.setBytes as bs).nmiBlocked = s.nmiBlocked := by
  rw [setBytes_eq]
@[simp] theorem setBytes_nmiPending (s : State) (as : List Nat) (bs : List Byte) : (s.setBytes as bs).nmiPending = s.nmiPending := by
  rw [setBytes_eq]
@[simp] theorem setBytes_trapPending (s : State) (as : List Nat) (bs : List Byte) : (s.setBytes as bs).trapPending = s.trapPending := by
  rw [setBytes_eq]
@[simp] theorem setBytes_tlbUndef (s : State) (as : List Nat) (bs : List Byte) : (s.setBytes as bs).tlbUndef = s.tlbUndef := by
  rw [setBytes_eq]
@[simp] theorem setBytes_queue (s : State) (as : List Nat) (bs : List Byte) : (s.setBytes as bs).queue = s.queue := by
  rw [setBytes_eq]
@[simp] theorem setBytes_pfx (s : State) (as : List Nat) (bs : List Byte) : (s.setBytes as bs).pfx = s.pfx := by
  rw [setBytes_eq]
@[simp] theorem setBytes_pins (s : State) (as : List Nat) (bs : List Byte) : (s.setBytes as bs).pins = s.pins := by
  rw [setBytes_eq]
@[simp] theorem setBytes_ioLog (s : State) (as : List Nat) (bs : List Byte) : (s.setBytes as bs).ioLog = s.ioLog := by
  rw [setBytes_eq]
@[simp] theorem setBytes_draws (s : State) (as : List Nat) (bs : List Byte) : (s.setBytes as bs).draws = s.draws := by
  rw [setBytes_eq]

/-! ## A doubleword at a physical address -/

@[simp] theorem setPhysDword_regs (s : State) (a v : Dword) : (s.setPhysDword a v).regs = s.regs := by
  simp only [State.setPhysDword, setByte_regs]
@[simp] theorem setPhysDword_eip (s : State) (a v : Dword) : (s.setPhysDword a v).eip = s.eip := by
  simp only [State.setPhysDword, setByte_eip]
@[simp] theorem setPhysDword_next (s : State) (a v : Dword) : (s.setPhysDword a v).next = s.next := by
  simp only [State.setPhysDword, setByte_next]
@[simp] theorem setPhysDword_flags (s : State) (a v : Dword) : (s.setPhysDword a v).flags = s.flags := by
  simp only [State.setPhysDword, setByte_flags]
@[simp] theorem setPhysDword_es (s : State) (a v : Dword) : (s.setPhysDword a v).es = s.es := by
  simp only [State.setPhysDword, setByte_es]
@[simp] theorem setPhysDword_cs (s : State) (a v : Dword) : (s.setPhysDword a v).cs = s.cs := by
  simp only [State.setPhysDword, setByte_cs]
@[simp] theorem setPhysDword_ss (s : State) (a v : Dword) : (s.setPhysDword a v).ss = s.ss := by
  simp only [State.setPhysDword, setByte_ss]
@[simp] theorem setPhysDword_ds (s : State) (a v : Dword) : (s.setPhysDword a v).ds = s.ds := by
  simp only [State.setPhysDword, setByte_ds]
@[simp] theorem setPhysDword_fs (s : State) (a v : Dword) : (s.setPhysDword a v).fs = s.fs := by
  simp only [State.setPhysDword, setByte_fs]
@[simp] theorem setPhysDword_gs (s : State) (a v : Dword) : (s.setPhysDword a v).gs = s.gs := by
  simp only [State.setPhysDword, setByte_gs]
@[simp] theorem setPhysDword_cpl (s : State) (a v : Dword) : (s.setPhysDword a v).cpl = s.cpl := by
  simp only [State.setPhysDword, setByte_cpl]
@[simp] theorem setPhysDword_gdtr (s : State) (a v : Dword) : (s.setPhysDword a v).gdtr = s.gdtr := by
  simp only [State.setPhysDword, setByte_gdtr]
@[simp] theorem setPhysDword_idtr (s : State) (a v : Dword) : (s.setPhysDword a v).idtr = s.idtr := by
  simp only [State.setPhysDword, setByte_idtr]
@[simp] theorem setPhysDword_ldtr (s : State) (a v : Dword) : (s.setPhysDword a v).ldtr = s.ldtr := by
  simp only [State.setPhysDword, setByte_ldtr]
@[simp] theorem setPhysDword_tr (s : State) (a v : Dword) : (s.setPhysDword a v).tr = s.tr := by
  simp only [State.setPhysDword, setByte_tr]
@[simp] theorem setPhysDword_cr0 (s : State) (a v : Dword) : (s.setPhysDword a v).cr0 = s.cr0 := by
  simp only [State.setPhysDword, setByte_cr0]
@[simp] theorem setPhysDword_cr2 (s : State) (a v : Dword) : (s.setPhysDword a v).cr2 = s.cr2 := by
  simp only [State.setPhysDword, setByte_cr2]
@[simp] theorem setPhysDword_cr3 (s : State) (a v : Dword) : (s.setPhysDword a v).cr3 = s.cr3 := by
  simp only [State.setPhysDword, setByte_cr3]
@[simp] theorem setPhysDword_dr0 (s : State) (a v : Dword) : (s.setPhysDword a v).dr0 = s.dr0 := by
  simp only [State.setPhysDword, setByte_dr0]
@[simp] theorem setPhysDword_dr1 (s : State) (a v : Dword) : (s.setPhysDword a v).dr1 = s.dr1 := by
  simp only [State.setPhysDword, setByte_dr1]
@[simp] theorem setPhysDword_dr2 (s : State) (a v : Dword) : (s.setPhysDword a v).dr2 = s.dr2 := by
  simp only [State.setPhysDword, setByte_dr2]
@[simp] theorem setPhysDword_dr3 (s : State) (a v : Dword) : (s.setPhysDword a v).dr3 = s.dr3 := by
  simp only [State.setPhysDword, setByte_dr3]
@[simp] theorem setPhysDword_dr6 (s : State) (a v : Dword) : (s.setPhysDword a v).dr6 = s.dr6 := by
  simp only [State.setPhysDword, setByte_dr6]
@[simp] theorem setPhysDword_dr7 (s : State) (a v : Dword) : (s.setPhysDword a v).dr7 = s.dr7 := by
  simp only [State.setPhysDword, setByte_dr7]
@[simp] theorem setPhysDword_tr6 (s : State) (a v : Dword) : (s.setPhysDword a v).tr6 = s.tr6 := by
  simp only [State.setPhysDword, setByte_tr6]
@[simp] theorem setPhysDword_tr7 (s : State) (a v : Dword) : (s.setPhysDword a v).tr7 = s.tr7 := by
  simp only [State.setPhysDword, setByte_tr7]
@[simp] theorem setPhysDword_inhibit (s : State) (a v : Dword) : (s.setPhysDword a v).inhibit = s.inhibit := by
  simp only [State.setPhysDword, setByte_inhibit]
@[simp] theorem setPhysDword_halted (s : State) (a v : Dword) : (s.setPhysDword a v).halted = s.halted := by
  simp only [State.setPhysDword, setByte_halted]
@[simp] theorem setPhysDword_shutdown (s : State) (a v : Dword) : (s.setPhysDword a v).shutdown = s.shutdown := by
  simp only [State.setPhysDword, setByte_shutdown]
@[simp] theorem setPhysDword_nmiBlocked (s : State) (a v : Dword) : (s.setPhysDword a v).nmiBlocked = s.nmiBlocked := by
  simp only [State.setPhysDword, setByte_nmiBlocked]
@[simp] theorem setPhysDword_nmiPending (s : State) (a v : Dword) : (s.setPhysDword a v).nmiPending = s.nmiPending := by
  simp only [State.setPhysDword, setByte_nmiPending]
@[simp] theorem setPhysDword_trapPending (s : State) (a v : Dword) : (s.setPhysDword a v).trapPending = s.trapPending := by
  simp only [State.setPhysDword, setByte_trapPending]
@[simp] theorem setPhysDword_tlb (s : State) (a v : Dword) : (s.setPhysDword a v).tlb = s.tlb := by
  simp only [State.setPhysDword, setByte_tlb]
@[simp] theorem setPhysDword_tlbUndef (s : State) (a v : Dword) : (s.setPhysDword a v).tlbUndef = s.tlbUndef := by
  simp only [State.setPhysDword, setByte_tlbUndef]
@[simp] theorem setPhysDword_queue (s : State) (a v : Dword) : (s.setPhysDword a v).queue = s.queue := by
  simp only [State.setPhysDword, setByte_queue]
@[simp] theorem setPhysDword_pfx (s : State) (a v : Dword) : (s.setPhysDword a v).pfx = s.pfx := by
  simp only [State.setPhysDword, setByte_pfx]
@[simp] theorem setPhysDword_pins (s : State) (a v : Dword) : (s.setPhysDword a v).pins = s.pins := by
  simp only [State.setPhysDword, setByte_pins]
@[simp] theorem setPhysDword_ioLog (s : State) (a v : Dword) : (s.setPhysDword a v).ioLog = s.ioLog := by
  simp only [State.setPhysDword, setByte_ioLog]
@[simp] theorem setPhysDword_draws (s : State) (a v : Dword) : (s.setPhysDword a v).draws = s.draws := by
  simp only [State.setPhysDword, setByte_draws]
/-- It changes memory only. -/
theorem setPhysDword_eq (s : State) (a v : Dword) : s.setPhysDword a v = { s with mem := (s.setPhysDword a v).mem } := by
  simp only [State.setPhysDword, State.setByte]


/-! ## The beginning and the end of an instruction -/

@[simp] theorem begun_regs (s : State) : (begun s).regs = s.regs := rfl
@[simp] theorem begun_eip (s : State) : (begun s).eip = s.next := rfl
@[simp] theorem begun_next (s : State) : (begun s).next = s.next := rfl
@[simp] theorem begun_flags (s : State) : (begun s).flags = s.flags := rfl
@[simp] theorem begun_es (s : State) : (begun s).es = s.es := rfl
@[simp] theorem begun_cs (s : State) : (begun s).cs = s.cs := rfl
@[simp] theorem begun_ss (s : State) : (begun s).ss = s.ss := rfl
@[simp] theorem begun_ds (s : State) : (begun s).ds = s.ds := rfl
@[simp] theorem begun_fs (s : State) : (begun s).fs = s.fs := rfl
@[simp] theorem begun_gs (s : State) : (begun s).gs = s.gs := rfl
@[simp] theorem begun_cpl (s : State) : (begun s).cpl = s.cpl := rfl
@[simp] theorem begun_gdtr (s : State) : (begun s).gdtr = s.gdtr := rfl
@[simp] theorem begun_idtr (s : State) : (begun s).idtr = s.idtr := rfl
@[simp] theorem begun_ldtr (s : State) : (begun s).ldtr = s.ldtr := rfl
@[simp] theorem begun_tr (s : State) : (begun s).tr = s.tr := rfl
@[simp] theorem begun_cr0 (s : State) : (begun s).cr0 = s.cr0 := rfl
@[simp] theorem begun_cr2 (s : State) : (begun s).cr2 = s.cr2 := rfl
@[simp] theorem begun_cr3 (s : State) : (begun s).cr3 = s.cr3 := rfl
@[simp] theorem begun_dr0 (s : State) : (begun s).dr0 = s.dr0 := rfl
@[simp] theorem begun_dr1 (s : State) : (begun s).dr1 = s.dr1 := rfl
@[simp] theorem begun_dr2 (s : State) : (begun s).dr2 = s.dr2 := rfl
@[simp] theorem begun_dr3 (s : State) : (begun s).dr3 = s.dr3 := rfl
@[simp] theorem begun_dr6 (s : State) : (begun s).dr6 = s.dr6 := rfl
@[simp] theorem begun_dr7 (s : State) : (begun s).dr7 = s.dr7 := rfl
@[simp] theorem begun_tr6 (s : State) : (begun s).tr6 = s.tr6 := rfl
@[simp] theorem begun_tr7 (s : State) : (begun s).tr7 = s.tr7 := rfl
@[simp] theorem begun_inhibit (s : State) : (begun s).inhibit = .none := rfl
@[simp] theorem begun_halted (s : State) : (begun s).halted = s.halted := rfl
@[simp] theorem begun_shutdown (s : State) : (begun s).shutdown = s.shutdown := rfl
@[simp] theorem begun_nmiBlocked (s : State) : (begun s).nmiBlocked = s.nmiBlocked := rfl
@[simp] theorem begun_nmiPending (s : State) : (begun s).nmiPending = s.nmiPending := rfl
@[simp] theorem begun_trapPending (s : State) : (begun s).trapPending = s.trapPending := rfl
@[simp] theorem begun_tlb (s : State) : (begun s).tlb = s.tlb := rfl
@[simp] theorem begun_tlbUndef (s : State) : (begun s).tlbUndef = s.tlbUndef := rfl
@[simp] theorem begun_queue (s : State) : (begun s).queue = { s.queue with flushed := false } := rfl
@[simp] theorem begun_pfx (s : State) : (begun s).pfx = s.pfx := rfl
@[simp] theorem begun_mem (s : State) : (begun s).mem = s.mem := rfl
@[simp] theorem begun_pins (s : State) : (begun s).pins = s.pins := rfl
@[simp] theorem begun_ioLog (s : State) : (begun s).ioLog = s.ioLog := rfl
@[simp] theorem begun_draws (s : State) : (begun s).draws = s.draws := rfl
@[simp] theorem retire_regs (s t : State) : (retire s t).regs = t.regs := rfl
@[simp] theorem retire_eip (s t : State) : (retire s t).eip = t.eip := rfl
@[simp] theorem retire_next (s t : State) : (retire s t).next = t.next := rfl
@[simp] theorem retire_flags (s t : State) : (retire s t).flags = t.flags := rfl
@[simp] theorem retire_es (s t : State) : (retire s t).es = t.es := rfl
@[simp] theorem retire_cs (s t : State) : (retire s t).cs = t.cs := rfl
@[simp] theorem retire_ss (s t : State) : (retire s t).ss = t.ss := rfl
@[simp] theorem retire_ds (s t : State) : (retire s t).ds = t.ds := rfl
@[simp] theorem retire_fs (s t : State) : (retire s t).fs = t.fs := rfl
@[simp] theorem retire_gs (s t : State) : (retire s t).gs = t.gs := rfl
@[simp] theorem retire_cpl (s t : State) : (retire s t).cpl = t.cpl := rfl
@[simp] theorem retire_gdtr (s t : State) : (retire s t).gdtr = t.gdtr := rfl
@[simp] theorem retire_idtr (s t : State) : (retire s t).idtr = t.idtr := rfl
@[simp] theorem retire_ldtr (s t : State) : (retire s t).ldtr = t.ldtr := rfl
@[simp] theorem retire_tr (s t : State) : (retire s t).tr = t.tr := rfl
@[simp] theorem retire_cr0 (s t : State) : (retire s t).cr0 = t.cr0 := rfl
@[simp] theorem retire_cr2 (s t : State) : (retire s t).cr2 = t.cr2 := rfl
@[simp] theorem retire_cr3 (s t : State) : (retire s t).cr3 = t.cr3 := rfl
@[simp] theorem retire_dr0 (s t : State) : (retire s t).dr0 = t.dr0 := rfl
@[simp] theorem retire_dr1 (s t : State) : (retire s t).dr1 = t.dr1 := rfl
@[simp] theorem retire_dr2 (s t : State) : (retire s t).dr2 = t.dr2 := rfl
@[simp] theorem retire_dr3 (s t : State) : (retire s t).dr3 = t.dr3 := rfl
@[simp] theorem retire_dr6 (s t : State) : (retire s t).dr6 = t.dr6 := rfl
@[simp] theorem retire_dr7 (s t : State) : (retire s t).dr7 = t.dr7 := rfl
@[simp] theorem retire_tr6 (s t : State) : (retire s t).tr6 = t.tr6 := rfl
@[simp] theorem retire_tr7 (s t : State) : (retire s t).tr7 = t.tr7 := rfl
@[simp] theorem retire_inhibit (s t : State) : (retire s t).inhibit = t.inhibit := rfl
@[simp] theorem retire_halted (s t : State) : (retire s t).halted = t.halted := rfl
@[simp] theorem retire_shutdown (s t : State) : (retire s t).shutdown = t.shutdown := rfl
@[simp] theorem retire_nmiBlocked (s t : State) : (retire s t).nmiBlocked = t.nmiBlocked := rfl
@[simp] theorem retire_nmiPending (s t : State) : (retire s t).nmiPending = t.nmiPending := rfl
@[simp] theorem retire_trapPending (s t : State) : (retire s t).trapPending = s.flags.tf := rfl
@[simp] theorem retire_tlb (s t : State) : (retire s t).tlb = t.tlb := rfl
@[simp] theorem retire_tlbUndef (s t : State) : (retire s t).tlbUndef = t.tlbUndef := rfl
@[simp] theorem retire_pfx (s t : State) : (retire s t).pfx = Prefixes.none := rfl
@[simp] theorem retire_mem (s t : State) : (retire s t).mem = t.mem := rfl
@[simp] theorem retire_pins (s t : State) : (retire s t).pins = t.pins := rfl
@[simp] theorem retire_ioLog (s t : State) : (retire s t).ioLog = t.ioLog := rfl
@[simp] theorem retire_draws (s t : State) : (retire s t).draws = t.draws := rfl
@[simp] theorem settle_regs (s : State) : (settle s).regs = s.regs := rfl
@[simp] theorem settle_eip (s : State) : (settle s).eip = s.eip := rfl
@[simp] theorem settle_next (s : State) : (settle s).next = s.next := rfl
@[simp] theorem settle_flags (s : State) : (settle s).flags = s.flags := rfl
@[simp] theorem settle_es (s : State) : (settle s).es = s.es := rfl
@[simp] theorem settle_cs (s : State) : (settle s).cs = s.cs := rfl
@[simp] theorem settle_ss (s : State) : (settle s).ss = s.ss := rfl
@[simp] theorem settle_ds (s : State) : (settle s).ds = s.ds := rfl
@[simp] theorem settle_fs (s : State) : (settle s).fs = s.fs := rfl
@[simp] theorem settle_gs (s : State) : (settle s).gs = s.gs := rfl
@[simp] theorem settle_cpl (s : State) : (settle s).cpl = s.cpl := rfl
@[simp] theorem settle_gdtr (s : State) : (settle s).gdtr = s.gdtr := rfl
@[simp] theorem settle_idtr (s : State) : (settle s).idtr = s.idtr := rfl
@[simp] theorem settle_ldtr (s : State) : (settle s).ldtr = s.ldtr := rfl
@[simp] theorem settle_tr (s : State) : (settle s).tr = s.tr := rfl
@[simp] theorem settle_cr0 (s : State) : (settle s).cr0 = s.cr0 := rfl
@[simp] theorem settle_cr2 (s : State) : (settle s).cr2 = s.cr2 := rfl
@[simp] theorem settle_cr3 (s : State) : (settle s).cr3 = s.cr3 := rfl
@[simp] theorem settle_dr0 (s : State) : (settle s).dr0 = s.dr0 := rfl
@[simp] theorem settle_dr1 (s : State) : (settle s).dr1 = s.dr1 := rfl
@[simp] theorem settle_dr2 (s : State) : (settle s).dr2 = s.dr2 := rfl
@[simp] theorem settle_dr3 (s : State) : (settle s).dr3 = s.dr3 := rfl
@[simp] theorem settle_dr6 (s : State) : (settle s).dr6 = s.dr6 := rfl
@[simp] theorem settle_dr7 (s : State) : (settle s).dr7 = s.dr7 := rfl
@[simp] theorem settle_tr6 (s : State) : (settle s).tr6 = s.tr6 := rfl
@[simp] theorem settle_tr7 (s : State) : (settle s).tr7 = s.tr7 := rfl
@[simp] theorem settle_inhibit (s : State) : (settle s).inhibit = s.inhibit := rfl
@[simp] theorem settle_halted (s : State) : (settle s).halted = s.halted := rfl
@[simp] theorem settle_shutdown (s : State) : (settle s).shutdown = s.shutdown := rfl
@[simp] theorem settle_nmiBlocked (s : State) : (settle s).nmiBlocked = s.nmiBlocked := rfl
@[simp] theorem settle_nmiPending (s : State) : (settle s).nmiPending = s.nmiPending := rfl
@[simp] theorem settle_trapPending (s : State) : (settle s).trapPending = false := rfl
@[simp] theorem settle_tlb (s : State) : (settle s).tlb = s.tlb := rfl
@[simp] theorem settle_tlbUndef (s : State) : (settle s).tlbUndef = s.tlbUndef := rfl
@[simp] theorem settle_queue (s : State) : (settle s).queue = { s.queue with flushed := false } := rfl
@[simp] theorem settle_pfx (s : State) : (settle s).pfx = Prefixes.none := rfl
@[simp] theorem settle_mem (s : State) : (settle s).mem = s.mem := rfl
@[simp] theorem settle_pins (s : State) : (settle s).pins = s.pins := rfl
@[simp] theorem settle_ioLog (s : State) : (settle s).ioLog = s.ioLog := rfl
@[simp] theorem settle_draws (s : State) : (settle s).draws = s.draws := rfl

/-! ## The level of an incoming task -/

@[simp] theorem withTaskLevel_cpl (s : State) (i : TaskImage) :
    (s.withTaskLevel i).cpl = if s.flags.vm then 3#2 else selRpl i.cs := rfl
@[simp] theorem withTaskLevel_regs (s : State) (i : TaskImage) : (s.withTaskLevel i).regs = s.regs := rfl
@[simp] theorem withTaskLevel_eip (s : State) (i : TaskImage) : (s.withTaskLevel i).eip = s.eip := rfl
@[simp] theorem withTaskLevel_next (s : State) (i : TaskImage) : (s.withTaskLevel i).next = s.next := rfl
@[simp] theorem withTaskLevel_flags (s : State) (i : TaskImage) : (s.withTaskLevel i).flags = s.flags := rfl
@[simp] theorem withTaskLevel_es (s : State) (i : TaskImage) : (s.withTaskLevel i).es = s.es := rfl
@[simp] theorem withTaskLevel_cs (s : State) (i : TaskImage) : (s.withTaskLevel i).cs = s.cs := rfl
@[simp] theorem withTaskLevel_ss (s : State) (i : TaskImage) : (s.withTaskLevel i).ss = s.ss := rfl
@[simp] theorem withTaskLevel_ds (s : State) (i : TaskImage) : (s.withTaskLevel i).ds = s.ds := rfl
@[simp] theorem withTaskLevel_fs (s : State) (i : TaskImage) : (s.withTaskLevel i).fs = s.fs := rfl
@[simp] theorem withTaskLevel_gs (s : State) (i : TaskImage) : (s.withTaskLevel i).gs = s.gs := rfl
@[simp] theorem withTaskLevel_gdtr (s : State) (i : TaskImage) : (s.withTaskLevel i).gdtr = s.gdtr := rfl
@[simp] theorem withTaskLevel_idtr (s : State) (i : TaskImage) : (s.withTaskLevel i).idtr = s.idtr := rfl
@[simp] theorem withTaskLevel_ldtr (s : State) (i : TaskImage) : (s.withTaskLevel i).ldtr = s.ldtr := rfl
@[simp] theorem withTaskLevel_tr (s : State) (i : TaskImage) : (s.withTaskLevel i).tr = s.tr := rfl
@[simp] theorem withTaskLevel_cr0 (s : State) (i : TaskImage) : (s.withTaskLevel i).cr0 = s.cr0 := rfl
@[simp] theorem withTaskLevel_cr2 (s : State) (i : TaskImage) : (s.withTaskLevel i).cr2 = s.cr2 := rfl
@[simp] theorem withTaskLevel_cr3 (s : State) (i : TaskImage) : (s.withTaskLevel i).cr3 = s.cr3 := rfl
@[simp] theorem withTaskLevel_dr0 (s : State) (i : TaskImage) : (s.withTaskLevel i).dr0 = s.dr0 := rfl
@[simp] theorem withTaskLevel_dr1 (s : State) (i : TaskImage) : (s.withTaskLevel i).dr1 = s.dr1 := rfl
@[simp] theorem withTaskLevel_dr2 (s : State) (i : TaskImage) : (s.withTaskLevel i).dr2 = s.dr2 := rfl
@[simp] theorem withTaskLevel_dr3 (s : State) (i : TaskImage) : (s.withTaskLevel i).dr3 = s.dr3 := rfl
@[simp] theorem withTaskLevel_dr6 (s : State) (i : TaskImage) : (s.withTaskLevel i).dr6 = s.dr6 := rfl
@[simp] theorem withTaskLevel_dr7 (s : State) (i : TaskImage) : (s.withTaskLevel i).dr7 = s.dr7 := rfl
@[simp] theorem withTaskLevel_tr6 (s : State) (i : TaskImage) : (s.withTaskLevel i).tr6 = s.tr6 := rfl
@[simp] theorem withTaskLevel_tr7 (s : State) (i : TaskImage) : (s.withTaskLevel i).tr7 = s.tr7 := rfl
@[simp] theorem withTaskLevel_inhibit (s : State) (i : TaskImage) : (s.withTaskLevel i).inhibit = s.inhibit := rfl
@[simp] theorem withTaskLevel_halted (s : State) (i : TaskImage) : (s.withTaskLevel i).halted = s.halted := rfl
@[simp] theorem withTaskLevel_shutdown (s : State) (i : TaskImage) : (s.withTaskLevel i).shutdown = s.shutdown := rfl
@[simp] theorem withTaskLevel_nmiBlocked (s : State) (i : TaskImage) : (s.withTaskLevel i).nmiBlocked = s.nmiBlocked := rfl
@[simp] theorem withTaskLevel_nmiPending (s : State) (i : TaskImage) : (s.withTaskLevel i).nmiPending = s.nmiPending := rfl
@[simp] theorem withTaskLevel_trapPending (s : State) (i : TaskImage) : (s.withTaskLevel i).trapPending = s.trapPending := rfl
@[simp] theorem withTaskLevel_tlb (s : State) (i : TaskImage) : (s.withTaskLevel i).tlb = s.tlb := rfl
@[simp] theorem withTaskLevel_tlbUndef (s : State) (i : TaskImage) : (s.withTaskLevel i).tlbUndef = s.tlbUndef := rfl
@[simp] theorem withTaskLevel_queue (s : State) (i : TaskImage) : (s.withTaskLevel i).queue = s.queue := rfl
@[simp] theorem withTaskLevel_pfx (s : State) (i : TaskImage) : (s.withTaskLevel i).pfx = s.pfx := rfl
@[simp] theorem withTaskLevel_mem (s : State) (i : TaskImage) : (s.withTaskLevel i).mem = s.mem := rfl
@[simp] theorem withTaskLevel_pins (s : State) (i : TaskImage) : (s.withTaskLevel i).pins = s.pins := rfl
@[simp] theorem withTaskLevel_ioLog (s : State) (i : TaskImage) : (s.withTaskLevel i).ioLog = s.ioLog := rfl
@[simp] theorem withTaskLevel_draws (s : State) (i : TaskImage) : (s.withTaskLevel i).draws = s.draws := rfl

/-! ## Derived parts of the state -/

@[simp] theorem begun_byte (s : State) (a : Nat) : (begun s).byte a = s.byte a := rfl
@[simp] theorem begun_reg (s : State) (w : Width) (r : Reg) : (begun s).reg w r = s.reg w r := rfl
@[simp] theorem begun_seg (s : State) (r : Sreg) : (begun s).seg r = s.seg r := by cases r <;> rfl
@[simp] theorem begun_mode (s : State) : (begun s).mode = s.mode := rfl
@[simp] theorem begun_sp (s : State) : (begun s).sp = s.sp := rfl
@[simp] theorem begun_ssSize (s : State) : (begun s).ssSize = s.ssSize := rfl
@[simp] theorem begun_linear (s : State) (r : Sreg) (v : Dword) : (begun s).linear r v = s.linear r v := by cases r <;> rfl
@[simp] theorem begun_user (s : State) : (begun s).user = s.user := rfl
@[simp] theorem begun_dataSeg (s : State) (r : Sreg) : (begun s).pfx.seg.getD r = s.pfx.seg.getD r := rfl
@[simp] theorem begun_accessExc (s : State) (r : Sreg) (off : Dword) (n : Nat) (wr : Bool) :
    (begun s).accessExc r off n wr = s.accessExc r off n wr := by cases r <;> rfl
@[simp] theorem setReg_byte (s : State) (w : Width) (r : Reg) (v : BitVec w.bits) (a : Nat) :
    (s.setReg w r v).byte a = s.byte a := rfl
@[simp] theorem setSp_byte (s : State) (v : Dword) (a : Nat) : (s.setSp v).byte a = s.byte a := rfl
@[simp] theorem setSeg_byte (s : State) (r : Sreg) (v : SegReg) (a : Nat) : (s.setSeg r v).byte a = s.byte a := by
  cases r <;> rfl
@[simp] theorem setBytes_reg (s : State) (as : List Nat) (bs : List Byte) (w : Width) (r : Reg) :
    (s.setBytes as bs).reg w r = s.reg w r := by simp [State.reg]
@[simp] theorem setBytes_seg (s : State) (as : List Nat) (bs : List Byte) (r : Sreg) :
    (s.setBytes as bs).seg r = s.seg r := by cases r <;> simp [State.seg]
@[simp] theorem setReg_seg (s : State) (w : Width) (r : Reg) (v : BitVec w.bits) (q : Sreg) :
    (s.setReg w r v).seg q = s.seg q := by cases q <;> rfl
@[simp] theorem setSp_seg (s : State) (v : Dword) (q : Sreg) : (s.setSp v).seg q = s.seg q := by cases q <;> rfl

/-! ## General registers -/

@[simp] theorem get_set_same (g : GeneralRegs) (r : Reg) (v : Dword) : (g.set r v).get r = v := by cases r <;> rfl

theorem get_set_other (g : GeneralRegs) {r q : Reg} (v : Dword) (h : q ≠ r) : (g.set r v).get q = g.get q := by
  cases r <;> cases q <;> first | rfl | exact absurd rfl h

end Sys2Proof.Machine
end

