-- ==== Sys2Proof/Laws/Access.lean ====
section
/-! SUPPORT. What a memory access can do: with paging off it changes nothing and answers consecutive addresses; with paging on
finding one changes only memory (the accessed and dirty bits) and the count of free values, and on a page fault CR2, and
storing notes in the TLB the page-table entries it changes. -/

namespace Sys2Proof.Machine

/-! ## The addresses of an access with paging off -/

/-- The physical addresses of `n` consecutive bytes of linear memory, paging off. -/
def spanOf (lin : Dword) (n : Nat) : List Nat := (List.range n).map fun i => (lin + BitVec.ofNat 32 i).toNat

theorem spanOf_succ (lin : Dword) (n : Nat) : spanOf lin (n + 1) = lin.toNat :: spanOf (lin + 1#32) n := by
  simp only [spanOf, List.range_succ_eq_map, List.map_cons, List.map_map, List.cons.injEq]
  refine ⟨by simp, List.map_congr_left fun i _ => ?_⟩
  simp only [Function.comp_apply, Nat.succ_eq_add_one]
  congr 1
  bv_omega

@[simp] theorem spanOf_length (lin : Dword) (n : Nat) : (spanOf lin n).length = n := by simp [spanOf]

theorem spanOf_lt {lin : Dword} {n a : Nat} (h : a ∈ spanOf lin n) : a < 2 ^ 32 := by
  simp only [spanOf, List.mem_map] at h
  obtain ⟨i, _, rfl⟩ := h
  exact (lin + BitVec.ofNat 32 i).isLt

theorem spanOf_nodup {lin : Dword} {n : Nat} (h : n ≤ 2 ^ 32) : (spanOf lin n).Nodup := by
  refine (List.nodup_map_iff_inj_on List.nodup_range).2 fun i hi j hj hij => ?_
  simp only [List.mem_range] at hi hj
  have := BitVec.eq_of_toNat_eq hij
  bv_omega

theorem translate_off {s : State} (h : s.cr0.pg = false) (lin : Dword) (wr user : Bool) :
    translate lin wr user s = .ok (lin.toNat, s) := by simp [translate, h]

theorem translateAll_off {s : State} (h : s.cr0.pg = false) (lin : Dword) (wr user : Bool) (n : Nat) :
    translateAll lin wr user n s = .ok (spanOf lin n, s) := by
  induction n generalizing lin with
  | zero => rfl
  | succ n ih => simp [translateAll, translate_off h, ih, spanOf_succ]

theorem checkAccess_ok {s : State} {r : Sreg} {off : Dword} {n : Nat} {wr : Bool}
    (h : s.accessExc r off n wr = none) : checkAccess r off n wr s = .ok ((), s) := by simp [checkAccess, h]

theorem checkAccess_exc {s : State} {r : Sreg} {off : Dword} {n : Nat} {wr : Bool} {e : Exc}
    (h : s.accessExc r off n wr = some e) : checkAccess r off n wr s = .error (.exc e s false) := by
  simp [checkAccess, h]

/-- An access that passes its segment checks, paging off: consecutive addresses, nothing changed. -/
theorem openMem_off {s : State} {r : Sreg} {off : Dword} {n : Nat} {wr : Bool} (hp : s.cr0.pg = false)
    (h : s.accessExc r off n wr = none) : openMem r off n wr s = .ok (spanOf (s.linear r off) n, s) := by
  simp [openMem, checkAccess_ok h, translateAll_off hp]

/-- An access that fails its segment checks raises their exception before anything changes. -/
theorem openMem_exc {s : State} {r : Sreg} {off : Dword} {n : Nat} {wr : Bool} {e : Exc}
    (h : s.accessExc r off n wr = some e) : openMem r off n wr s = .error (.exc e s false) := by
  simp [openMem, checkAccess_exc h]

theorem memBytes_off {s : State} {r : Sreg} {off : Dword} {n : Nat} (hp : s.cr0.pg = false)
    (h : s.accessExc r off n false = none) :
    memBytes r off n s = .ok ((spanOf (s.linear r off) n).map s.byte, s) := by
  simp [memBytes, openMem_off hp h]

theorem memStore_off {s : State} {r : Sreg} {off : Dword} {bs : List Byte} (hp : s.cr0.pg = false)
    (h : s.accessExc r off bs.length true = none) :
    memStore r off bs s = .ok ((), s.setBytes (spanOf (s.linear r off) bs.length) bs) := by
  simp [memStore, openMem_off hp h]

theorem linBytes_off {s : State} (hp : s.cr0.pg = false) (lin : Dword) (n : Nat) (user : Bool) :
    linBytes lin n user s = .ok ((spanOf lin n).map s.byte, s) := by simp [linBytes, translateAll_off hp]

theorem linRead_off {s : State} (hp : s.cr0.pg = false) (lin : Dword) (n : Nat) :
    linRead lin n s = .ok (leValue _ ((spanOf lin n).map s.byte), s) := by simp [linRead, linBytes_off hp]

theorem linWrite_off {s : State} (hp : s.cr0.pg = false) (lin : Dword) (n : Nat) {k : Nat} (v : BitVec k) :
    linWrite lin n v s = .ok ((), s.setBytes (spanOf lin n) (leBytes n v)) := by
  simp [linWrite, linStore, translateAll_off hp]

/-! ## The stack, paging off -/

theorem push_off {s : State} {sz : Sz} {v : Dword} (hp : s.cr0.pg = false)
    (h : s.accessExc .ss (truncSz s.ssSize (s.sp - BitVec.ofNat 32 sz.bytes)) sz.bytes true = none) :
    push sz v s = .ok ((), (s.setBytes (spanOf (s.linear .ss (truncSz s.ssSize (s.sp - BitVec.ofNat 32 sz.bytes))) sz.bytes)
      (leBytes sz.bytes v)).setSp (truncSz s.ssSize (s.sp - BitVec.ofNat 32 sz.bytes))) := by
  have h' : s.accessExc .ss (truncSz s.ssSize (s.sp - BitVec.ofNat 32 sz.bytes)) (leBytes sz.bytes v).length true = none := by
    rwa [leBytes_length]
  simp only [push, M.bind_run, M.get_run, memStore_off hp h', leBytes_length, setStackPtr, M.modify_run]

theorem stackRead_off {s : State} {sz : Sz} {d : Nat} (hp : s.cr0.pg = false)
    (h : s.accessExc .ss (truncSz s.ssSize (s.sp + BitVec.ofNat 32 d)) sz.bytes false = none) :
    stackRead sz d s = .ok (leValue 32
      ((spanOf (s.linear .ss (truncSz s.ssSize (s.sp + BitVec.ofNat 32 d))) sz.bytes).map s.byte), s) := by
  simp [stackRead, memBytes_off hp h]

@[simp] theorem addStackPtr_run (n : Nat) (s : State) : addStackPtr n s = .ok ((), s.setSp (s.sp + BitVec.ofNat 32 n)) := rfl
@[simp] theorem setStackPtr_run (v : Dword) (s : State) : setStackPtr v s = .ok ((), s.setSp v) := rfl
@[simp] theorem jumpTo_run (off : Dword) (s : State) : jumpTo off s =
    .ok ((), { s with eip := off, queue := { stale := [], flushed := true, jumpNeeded := false } }) := rfl

/-! ## Everything an access can do -/

/-- What a memory access may change of a state: memory, the record of page-table changes, the count of free values, and
CR2. -/
def Touches (s t : State) : Prop :=
  t = { s with mem := t.mem, tlb := t.tlb, draws := t.draws, cr2 := t.cr2 }

theorem Touches.refl (s : State) : Touches s s := rfl

theorem Touches.trans {s t u : State} (h : Touches s t) (h' : Touches t u) : Touches s u := by
  have h' : u = { t with mem := u.mem, tlb := u.tlb, draws := u.draws, cr2 := u.cr2 } := h'
  exact h'.trans (by rw [show t = { s with mem := t.mem, tlb := t.tlb, draws := t.draws, cr2 := t.cr2 } from h])

/-- All that an operation made of memory accesses can do: it answers a value with `post`, having changed only memory, the record
of page-table changes and the count of free values, and kept the canonical form; or it raises a page fault, CR2 changed too, no task switch
committed; it never refuses. -/
def Accesses {α : Type} (post : α → Prop) (m : M α) : Prop :=
  ∀ s, match m s with
  | .ok (a, t) => Touches s t ∧ t.cr2 = s.cr2 ∧ (Memory.wf s.mem = true → Memory.wf t.mem = true) ∧ post a
  | .error (.exc _ st c) => Touches s st ∧ (Memory.wf s.mem = true → Memory.wf st.mem = true) ∧ c = false
  | .error (.refuse _) => False

theorem Accesses.pure' {α : Type} {post : α → Prop} {a : α} (h : post a) : Accesses post (pure a) :=
  fun s => ⟨Touches.refl s, rfl, id, h⟩

theorem Accesses.bind' {α β : Type} {post : α → Prop} {post' : β → Prop} {m : M α} {f : α → M β}
    (hm : Accesses post m) (hf : ∀ a, post a → Accesses post' (f a)) : Accesses post' (m >>= f) := by
  intro s
  rw [M.bind_run]
  have h := hm s
  rcases hms : m s with (⟨e, st, c⟩ | r) | ⟨a, t⟩
  · simpa only [hms] using h
  · simp only [hms] at h
  · simp only [hms] at h
    have h' := hf a h.2.2.2 t
    rcases hft : f a t with (⟨e, st, c⟩ | r) | ⟨b, u⟩ <;> simp only [hft] at h' ⊢
    · exact ⟨h.1.trans h'.1, fun hw => h'.2.1 (h.2.2.1 hw), h'.2.2⟩
    · exact ⟨h.1.trans h'.1, h'.2.1.trans h.2.1, fun hw => h'.2.2.1 (h.2.2.1 hw), h'.2.2.2⟩

theorem Accesses.mono {α : Type} {post post' : α → Prop} {m : M α} (hm : Accesses post m) (h : ∀ a, post a → post' a) :
    Accesses post' m := by
  intro s
  have hs := hm s
  rcases hms : m s with (⟨e, st, c⟩ | r) | ⟨a, t⟩ <;> simp only [hms] at hs ⊢
  · exact hs
  · exact ⟨hs.1, hs.2.1, hs.2.2.1, h _ hs.2.2.2⟩

theorem Accesses.get' {β : Type} {post : β → Prop} {f : State → M β} (h : ∀ s, Accesses post (f s)) :
    Accesses post (get >>= f) := fun s => h s s

theorem draw_accesses (n : Nat) : Accesses (fun _ => True) (draw n) := fun _ => ⟨rfl, rfl, id, trivial⟩

theorem pageFault_accesses {α : Type} {post : α → Prop} (lin : Dword) (p wr user : Bool) :
    Accesses post (pageFault (α := α) lin p wr user) := fun _ => ⟨rfl, id, rfl⟩

theorem phys_lt (e : TlbEntry) (lin : Dword) : e.phys lin < 2 ^ 32 := (e.frame ++ lin.extractLsb' 0 12).isLt

theorem useEntry_accesses (e : TlbEntry) (lin : Dword) (wr user : Bool) :
    Accesses (· < 2 ^ 32) (useEntry e lin wr user) := by
  unfold useEntry
  split
  · exact Accesses.pure' (BitVec.isLt _)
  · exact pageFault_accesses _ _ _ _

/-- A page-table walk that succeeds sets the accessed and dirty bits. -/
theorem useWalk_found {s : State} {lin pdeAddr pteAddr pde pte : Dword} {wr user : Bool}
    (h : s.walk lin = .found pdeAddr pteAddr pde pte) (hp : (entryOf pde pte).permits wr user = true) :
    useWalk lin wr user s = .ok ((entryOf pde pte).phys lin,
      (s.setPhysDword pdeAddr (pde ||| 0x20#32)).setPhysDword pteAddr (pte ||| (if wr then 0x60#32 else 0x20#32))) := by
  simp only [useWalk, M.bind_run, M.get_run, h, hp, if_true, M.set_run, M.pure_run]

theorem useWalk_forbidden {s : State} {lin pdeAddr pteAddr pde pte : Dword} {wr user : Bool}
    (h : s.walk lin = .found pdeAddr pteAddr pde pte) (hp : (entryOf pde pte).permits wr user = false) :
    useWalk lin wr user s = pageFault lin true wr user s := by
  simp only [useWalk, M.bind_run, M.get_run, h, hp, Bool.false_eq_true, if_false]

theorem useWalk_absent {s : State} {lin : Dword} {wr user : Bool} (h : s.walk lin = .absent) :
    useWalk lin wr user s = pageFault lin false wr user s := by
  simp only [useWalk, M.bind_run, M.get_run, h]

theorem useWalk_touches (s : State) (a v b w : Dword) : Touches s ((s.setPhysDword a v).setPhysDword b w) := by
  unfold Touches
  rw [setPhysDword_eq, setPhysDword_eq]

theorem useWalk_wf (s : State) (a v b w : Dword) (h : Memory.wf s.mem = true) :
    Memory.wf ((s.setPhysDword a v).setPhysDword b w).mem = true := by
  apply wf_setPhysDword
  apply wf_setPhysDword
  exact h

theorem useWalk_accesses (lin : Dword) (wr user : Bool) : Accesses (· < 2 ^ 32) (useWalk lin wr user) := by
  intro s
  cases hw : s.walk lin with
  | absent => rw [useWalk_absent hw]; exact pageFault_accesses (α := Nat) (post := (· < 2 ^ 32)) lin false wr user s
  | found pdeAddr pteAddr pde pte =>
    cases hp : (entryOf pde pte).permits wr user with
    | false =>
      rw [useWalk_forbidden hw hp]
      exact pageFault_accesses (α := Nat) (post := (· < 2 ^ 32)) lin true wr user s
    | true =>
      rw [useWalk_found hw hp]
      refine ⟨useWalk_touches .., ?_, ?_, phys_lt (entryOf pde pte) lin⟩
      · simp only [setPhysDword_cr2]
      · exact useWalk_wf s pdeAddr (pde ||| 0x20#32) pteAddr _

theorem translate_accesses (lin : Dword) (wr user : Bool) : Accesses (· < 2 ^ 32) (translate lin wr user) := by
  refine Accesses.get' fun s => ?_
  split
  · split
    · refine Accesses.bind' (draw_accesses _) fun _ _ => ?_
      split
      · exact useWalk_accesses _ _ _
      · split
        · exact pageFault_accesses _ _ _ _
        · exact useEntry_accesses _ _ _ _
    · split
      · exact useWalk_accesses _ _ _
      · refine Accesses.bind' (draw_accesses _) fun u _ => ?_
        split
        · exact useEntry_accesses _ _ _ _
        · exact useWalk_accesses _ _ _
  · exact Accesses.pure' lin.isLt

/-- An operation that leaves the record of page-table changes alone. -/
def KeepsTlb {α : Type} (m : M α) : Prop := ∀ s a t, m s = .ok (a, t) → t.tlb = s.tlb

theorem KeepsTlb.pure' {α : Type} (a : α) : KeepsTlb (pure a) := by rintro s b t ⟨⟩; rfl

theorem KeepsTlb.bind' {α β : Type} {m : M α} {f : α → M β} (hm : KeepsTlb m) (hf : ∀ a, KeepsTlb (f a)) :
    KeepsTlb (m >>= f) := by
  intro s b u h
  rw [M.bind_run] at h
  rcases hms : m s with e | ⟨a, t⟩
  · simp [hms] at h
  · simp only [hms] at h
    exact (hf a t b u h).trans (hm s a t hms)

theorem KeepsTlb.get' {β : Type} {f : State → M β} (h : ∀ s, KeepsTlb (f s)) : KeepsTlb (get >>= f) := fun s => h s s

theorem draw_keepsTlb (n : Nat) : KeepsTlb (draw n) := by rintro s a t ⟨⟩; rfl

theorem pageFault_keepsTlb {α : Type} (lin : Dword) (p wr user : Bool) : KeepsTlb (pageFault (α := α) lin p wr user) := by
  intro s a t h
  simp [pageFault] at h

theorem useEntry_keepsTlb (e : TlbEntry) (lin : Dword) (wr user : Bool) : KeepsTlb (useEntry e lin wr user) := by
  unfold useEntry
  split
  · exact KeepsTlb.pure' _
  · exact pageFault_keepsTlb _ _ _ _

theorem useWalk_keepsTlb (lin : Dword) (wr user : Bool) : KeepsTlb (useWalk lin wr user) := by
  intro s a t h
  cases hw : s.walk lin with
  | absent => rw [useWalk_absent hw] at h; exact pageFault_keepsTlb _ _ _ _ s a t h
  | found pdeAddr pteAddr pde pte =>
    cases hp : (entryOf pde pte).permits wr user with
    | false => rw [useWalk_forbidden hw hp] at h; exact pageFault_keepsTlb _ _ _ _ s a t h
    | true => rw [useWalk_found hw hp] at h; cases h; simp only [setPhysDword_tlb]

theorem translate_keepsTlb (lin : Dword) (wr user : Bool) : KeepsTlb (translate lin wr user) := by
  refine KeepsTlb.get' fun s => ?_
  split
  · split
    · refine KeepsTlb.bind' (draw_keepsTlb _) fun _ => ?_
      split
      · exact useWalk_keepsTlb _ _ _
      · split
        · exact pageFault_keepsTlb _ _ _ _
        · exact useEntry_keepsTlb _ _ _ _
    · split
      · exact useWalk_keepsTlb _ _ _
      · refine KeepsTlb.bind' (draw_keepsTlb _) fun u => ?_
        split
        · exact useEntry_keepsTlb _ _ _ _
        · exact useWalk_keepsTlb _ _ _
  · exact KeepsTlb.pure' _

/-- Finding the bytes of an access leaves the record of page-table changes alone. -/
theorem translateAll_keepsTlb (lin : Dword) (wr user : Bool) (n : Nat) : KeepsTlb (translateAll lin wr user n) := by
  induction n generalizing lin with
  | zero => exact KeepsTlb.pure' _
  | succ n ih =>
    exact KeepsTlb.bind' (translate_keepsTlb _ _ _) fun _ => KeepsTlb.bind' (ih _) fun _ => KeepsTlb.pure' _

theorem translateAll_accesses (lin : Dword) (wr user : Bool) (n : Nat) :
    Accesses (fun as => ∀ a ∈ as, a < 2 ^ 32) (translateAll lin wr user n) := by
  induction n generalizing lin with
  | zero => exact Accesses.pure' (by simp)
  | succ n ih =>
    refine Accesses.bind' (translate_accesses _ _ _) fun a ha => Accesses.bind' (ih _) fun as has => Accesses.pure' ?_
    simpa using And.intro ha has

theorem readPhys_accesses (as : List Nat) : Accesses (fun _ => True) (readPhys as) := fun _ => ⟨rfl, rfl, id, trivial⟩

theorem writePhys_accesses {as : List Nat} (h : ∀ a ∈ as, a < 2 ^ 32) (bs : List Byte) :
    Accesses (fun _ => True) (writePhys as bs) :=
  fun s => ⟨by simp only [Touches]; rw [setBytes_eq], by simp, fun hw => wf_setBytes hw h, trivial⟩

theorem linBytes_accesses (lin : Dword) (n : Nat) (user : Bool) : Accesses (fun _ => True) (linBytes lin n user) :=
  Accesses.bind' (translateAll_accesses _ _ _ _) fun _ _ => readPhys_accesses _

theorem linStore_accesses (lin : Dword) (bs : List Byte) (user : Bool) : Accesses (fun _ => True) (linStore lin bs user) :=
  Accesses.bind' (translateAll_accesses _ _ _ _) fun _ h => writePhys_accesses h _

theorem linRead_accesses (lin : Dword) (n : Nat) : Accesses (fun _ => True) (linRead lin n) :=
  Accesses.bind' (linBytes_accesses _ _ _) fun _ _ => Accesses.pure' trivial

theorem linWrite_accesses (lin : Dword) (n : Nat) {k : Nat} (v : BitVec k) :
    Accesses (fun _ => True) (linWrite lin n v) := linStore_accesses _ _ _

/-- With paging off nothing but a translation's own addresses comes of it: the state is the same. -/
theorem openMem_ok_off {r : Sreg} {off : Dword} {n : Nat} {wr : Bool} {s u : State} {as : List Nat}
    (hp : s.cr0.pg = false) (h : openMem r off n wr s = .ok (as, u)) :
    u = s ∧ as = spanOf (s.linear r off) n := by
  cases ha : s.accessExc r off n wr with
  | none =>
    rw [openMem_off hp ha] at h
    cases h
    exact ⟨rfl, rfl⟩
  | some e => rw [openMem_exc ha] at h; cases h

end Sys2Proof.Machine
end

