-- ==== Sys2Proof/Laws/Codec.lean ====
section
/-! SUPPORT. Reading back what the encoder writes: one lemma for each kind of operand field. -/

namespace Sys2Proof

/-! ## Parsers in sequence -/

theorem P.bind_apply {α β : Type} (m : P α) (f : α → P β) (bs : List Byte) :
    (m >>= f) bs = (match m bs with | .ok (a, t) => f a t | .error e => .error e) := by
  show Except.bind _ _ = _
  cases m bs <;> rfl

theorem P.pure_apply {α : Type} (a : α) (bs : List Byte) : (pure a : P α) bs = .ok (a, bs) := rfl

/-- A parser that succeeds, then another. -/
theorem P.bind_ok {α β : Type} {m : P α} {f : α → P β} {bs t : List Byte} {a : α} (h : m bs = .ok (a, t)) :
    (m >>= f) bs = f a t := by rw [P.bind_apply, h]

/-! ## Bytes, words, doublewords -/

theorem word_split (w : Word) : (w.extractLsb' 8 8 ++ w.extractLsb' 0 8 : BitVec 16) = w := by
  apply BitVec.eq_of_getLsbD_eq
  intro i hi
  simp only [BitVec.getLsbD_append, BitVec.getLsbD_extractLsb']
  grind

theorem dword_split (w : Dword) :
    (w.extractLsb' 24 8 ++ w.extractLsb' 16 8 ++ w.extractLsb' 8 8 ++ w.extractLsb' 0 8 : BitVec 32) = w := by
  apply BitVec.eq_of_getLsbD_eq
  intro i hi
  simp only [BitVec.getLsbD_append, BitVec.getLsbD_extractLsb']
  grind

theorem byteP_cons (b : Byte) (bs : List Byte) : byteP (b :: bs) = .ok (b, bs) := rfl

theorem wordP_le (w : Word) (bs : List Byte) : wordP (w.le ++ bs) = .ok (w, bs) := by
  simp only [Word.le, List.cons_append, List.nil_append, wordP, word_split]

theorem dwordP_le (w : Dword) (bs : List Byte) : dwordP (w.le ++ bs) = .ok (w, bs) := by
  simp only [Dword.le, List.cons_append, List.nil_append, dwordP, dword_split]

theorem immP_le {sz : Sz} {v : Imm} (h : v.wf sz = true) (bs : List Byte) : immP sz (v.le ++ bs) = .ok (v, bs) := by
  cases v <;> simp only [Imm.wf, decide_eq_true_eq] at h <;> subst h
  · exact (P.bind_ok (wordP_le _ _)).trans rfl
  · exact (P.bind_ok (dwordP_le _ _)).trans rfl

theorem farPtrP_le {sz : Sz} {p : FarPtr} (h : p.wf sz = true) (bs : List Byte) :
    farPtrP sz (p.le ++ bs) = .ok (p, bs) := by
  cases p <;> simp only [FarPtr.wf, decide_eq_true_eq] at h <;> subst h <;>
    simp only [FarPtr.le, List.append_assoc, farPtrP]
  · exact (P.bind_ok (wordP_le _ _)).trans ((P.bind_ok (wordP_le _ _)).trans rfl)
  · exact (P.bind_ok (dwordP_le _ _)).trans ((P.bind_ok (wordP_le _ _)).trans rfl)

/-! ## Register numbers -/

theorem Reg.ofBits_bits (r : Reg) : Reg.ofBits r.bits = r := by cases r <;> rfl
theorem Base16.ofBits_bits (r : Base16) : Base16.ofBits r.bits = r := by cases r <;> rfl
theorem CReg.ofBits_bits (r : CReg) : CReg.ofBits r.bits = some r := by cases r <;> rfl
theorem DReg.ofBits_bits (r : DReg) : DReg.ofBits r.bits = some r := by cases r <;> rfl
theorem TReg.ofBits_bits (r : TReg) : TReg.ofBits r.bits = some r := by cases r <;> rfl

/-! ## The ModRM byte and its operand -/

theorem modrmByte_md (md : BitVec 2) (g rm : BitVec 3) : (modrmByte md g rm).extractLsb' 6 2 = md := by
  ext i hi
  simp [modrmByte]
  grind

theorem modrmByte_reg (md : BitVec 2) (g rm : BitVec 3) : (modrmByte md g rm).extractLsb' 3 3 = g := by
  ext i hi
  simp [modrmByte]
  grind

theorem modrmByte_rm (md : BitVec 2) (g rm : BitVec 3) : (modrmByte md g rm).extractLsb' 0 3 = rm := by
  ext i hi
  simp [modrmByte]
  grind

theorem Disp16.md_ne (d : Disp16) : d.md ≠ 3#2 := by cases d <;> simp [Disp16.md]
theorem Disp32.md_ne (d : Disp32) : d.md ≠ 3#2 := by cases d <;> simp [Disp32.md]

theorem disp16P_le (d : Disp16) (bs : List Byte) : disp16P d.md (d.le ++ bs) = .ok (d, bs) := by
  cases d
  · rfl
  · rfl
  · exact (P.bind_ok (wordP_le _ _)).trans rfl

theorem disp32P_le (d : Disp32) (bs : List Byte) : disp32P d.md (d.le ++ bs) = .ok (d, bs) := by
  cases d
  · rfl
  · rfl
  · exact (P.bind_ok (dwordP_le _ _)).trans rfl

theorem mem16P_direct (d : Word) (bs : List Byte) : mem16P 0#2 6#3 (d.le ++ bs) = .ok (.direct16 d, bs) := by
  simp only [mem16P, and_self, if_true]
  exact (P.bind_ok (wordP_le _ _)).trans rfl

theorem mem16P_based {b : Base16} {d : Disp16} (h : ¬(b = .bp ∧ d = .none)) (bs : List Byte) :
    mem16P d.md b.bits (d.le ++ bs) = .ok (.based16 b d, bs) := by
  have : ¬(d.md = 0#2 ∧ b.bits = 6#3) := by
    intro ⟨h1, h2⟩
    apply h
    constructor
    · cases b <;> simp_all [Base16.bits]
    · cases d <;> simp_all [Disp16.md]
  simp only [mem16P, this, if_false, Base16.ofBits_bits]
  exact (P.bind_ok (disp16P_le _ _)).trans rfl

theorem mem32P_direct (d : Dword) (bs : List Byte) : mem32P 0#2 5#3 (d.le ++ bs) = .ok (.direct32 d, bs) := by
  simp only [mem32P, show ¬(5#3 = 4#3) by decide, if_false, and_self, if_true]
  exact (P.bind_ok (dwordP_le _ _)).trans rfl

theorem mem32P_based {b : Reg} {d : Disp32} (hsp : b ≠ .sp) (h : ¬(b = .bp ∧ d = .none)) (bs : List Byte) :
    mem32P d.md b.bits (d.le ++ bs) = .ok (.based32 b d, bs) := by
  have h1 : b.bits ≠ 4#3 := by cases b <;> simp_all [Reg.bits]
  have h2 : ¬(d.md = 0#2 ∧ b.bits = 5#3) := by
    intro ⟨h1, h2⟩
    apply h
    constructor
    · cases b <;> simp_all [Reg.bits]
    · cases d <;> simp_all [Disp32.md]
  simp only [mem32P, h1, h2, if_false, Reg.ofBits_bits]
  exact (P.bind_ok (disp32P_le _ _)).trans rfl

theorem sibP_based {scale : BitVec 2} {index base : Reg} {d : Disp32} (h : ¬(base = .bp ∧ d = .none))
    (bs : List Byte) :
    sibP d.md (modrmByte scale index.bits base.bits :: (d.le ++ bs)) = .ok (.sib scale index base d, bs) := by
  have h2 : ¬(d.md = 0#2 ∧ base.bits = 5#3) := by
    intro ⟨h1, h2⟩
    apply h
    constructor
    · cases base <;> simp_all [Reg.bits]
    · cases d <;> simp_all [Disp32.md]
  rw [sibP, P.bind_ok (byteP_cons _ _)]
  simp only [modrmByte_md, modrmByte_reg, modrmByte_rm, h2, if_false, Reg.ofBits_bits]
  exact (P.bind_ok (disp32P_le _ _)).trans rfl

theorem sibP_noBase (scale : BitVec 2) (index : Reg) (d : Dword) (bs : List Byte) :
    sibP 0#2 (modrmByte scale index.bits 5#3 :: (d.le ++ bs)) = .ok (.sibNoBase scale index d, bs) := by
  rw [sibP, P.bind_ok (byteP_cons _ _)]
  simp only [modrmByte_md, modrmByte_reg, modrmByte_rm, and_self, if_true, Reg.ofBits_bits]
  exact (P.bind_ok (dwordP_le _ _)).trans rfl

/-- The ModRM parser reads back what `Rm.enc` writes: the reg field and the operand. -/
theorem modrmP_enc {as : Sz} {rm : Rm} (g : BitVec 3) (h : rm.wf as = true) (bs : List Byte) :
    modrmP as (rm.enc g ++ bs) = .ok ((g, rm), bs) := by
  cases rm with
  | reg r =>
    rw [Rm.enc, List.cons_append, List.nil_append, modrmP, P.bind_ok (byteP_cons _ _)]
    simp only [modrmByte_md, modrmByte_reg, modrmByte_rm, if_true, Reg.ofBits_bits]
    rfl
  | mem m =>
    cases m <;> simp only [Rm.wf, Mem.wf, Bool.and_eq_true, decide_eq_true_eq, Bool.not_eq_true', ne_eq,
      Bool.and_eq_false_iff, decide_eq_false_iff_not] at h
    case direct16 d =>
      subst h
      rw [Rm.enc, Mem.enc, List.cons_append, modrmP, P.bind_ok (byteP_cons _ _)]
      simp only [modrmByte_md, modrmByte_reg, modrmByte_rm, show ¬(0#2 = 3#2) by decide, if_false]
      exact (P.bind_ok (mem16P_direct _ _)).trans rfl
    case based16 b d =>
      obtain ⟨rfl, h⟩ := h
      rw [Rm.enc, Mem.enc, List.cons_append, modrmP, P.bind_ok (byteP_cons _ _)]
      simp only [modrmByte_md, modrmByte_reg, modrmByte_rm, Disp16.md_ne, if_false]
      exact (P.bind_ok (mem16P_based (by simpa [Decidable.imp_iff_not_or] using h) _)).trans rfl
    case direct32 d =>
      subst h
      rw [Rm.enc, Mem.enc, List.cons_append, modrmP, P.bind_ok (byteP_cons _ _)]
      simp only [modrmByte_md, modrmByte_reg, modrmByte_rm, show ¬(0#2 = 3#2) by decide, if_false]
      exact (P.bind_ok (mem32P_direct _ _)).trans rfl
    case based32 b d =>
      obtain ⟨⟨rfl, h1⟩, h⟩ := h
      rw [Rm.enc, Mem.enc, List.cons_append, modrmP, P.bind_ok (byteP_cons _ _)]
      simp only [modrmByte_md, modrmByte_reg, modrmByte_rm, Disp32.md_ne, if_false]
      exact (P.bind_ok (mem32P_based h1 (by simpa [Decidable.imp_iff_not_or] using h) _)).trans rfl
    case sib scale index base d =>
      obtain ⟨rfl, h⟩ := h
      rw [Rm.enc, Mem.enc, List.cons_append, List.cons_append, modrmP, P.bind_ok (byteP_cons _ _)]
      simp only [modrmByte_md, modrmByte_reg, modrmByte_rm, Disp32.md_ne, if_false]
      exact (P.bind_ok (sibP_based (by simpa [Decidable.imp_iff_not_or] using h) _)).trans rfl
    case sibNoBase scale index d =>
      subst h
      rw [Rm.enc, Mem.enc, List.cons_append, List.cons_append, modrmP, P.bind_ok (byteP_cons _ _)]
      simp only [modrmByte_md, modrmByte_reg, modrmByte_rm, show ¬(0#2 = 3#2) by decide, if_false]
      exact (P.bind_ok (sibP_noBase _ _ _ _)).trans rfl

/-- The same for a row whose operand is memory only. -/
theorem modrmP_mem {as : Sz} {m : Mem} (g : BitVec 3) (h : m.wf as = true) (bs : List Byte) :
    modrmP as (m.enc g ++ bs) = .ok ((g, .mem m), bs) := modrmP_enc (rm := .mem m) g h bs

end Sys2Proof
end

