-- ==== Sys2Proof/Laws/Operand.lean ====
section
/-! SUPPORT. What finding an operand can do, and reading and writing at its place. -/

namespace Sys2Proof.Machine

/-- A check of an access answers without changing anything, or raises an exception. -/
theorem checkAccess_accesses (r : Sreg) (off : Dword) (n : Nat) (wr : Bool) (s : State) :
    checkAccess r off n wr s = .ok ((), s) ∨ ∃ e, checkAccess r off n wr s = .error (.exc e s false) := by
  cases h : s.accessExc r off n wr with
  | none => exact .inl (checkAccess_ok h)
  | some e => exact .inr ⟨e, checkAccess_exc h⟩

theorem checkAccess_keepsTlb (r : Sreg) (off : Dword) (n : Nat) (wr : Bool) : KeepsTlb (checkAccess r off n wr) := by
  intro s a t h
  rcases checkAccess_accesses r off n wr s with h' | ⟨e, h'⟩ <;> rw [h'] at h <;> cases h
  rfl

theorem openMem_keepsTlb (r : Sreg) (off : Dword) (n : Nat) (wr : Bool) : KeepsTlb (openMem r off n wr) :=
  KeepsTlb.bind' (checkAccess_keepsTlb _ _ _ _) fun _ => KeepsTlb.get' fun _ => translateAll_keepsTlb _ _ _ _

theorem openTail_keepsTlb (r : Sreg) (off : Dword) (k n : Nat) (wr : Bool) : KeepsTlb (openTail r off k n wr) :=
  KeepsTlb.bind' (checkAccess_keepsTlb _ _ _ _) fun _ => KeepsTlb.get' fun _ => translateAll_keepsTlb _ _ _ _

theorem resolve_keepsTlb (m : Mem) : KeepsTlb (resolve m) := by
  refine KeepsTlb.bind' ?_ fun _ => KeepsTlb.get' fun _ => KeepsTlb.pure' _
  unfold effAddr
  split
  · exact draw_keepsTlb _
  · rintro s a t ⟨⟩; rfl

/-- Finding an r/m operand leaves the record of page-table changes alone. -/
theorem openRm_keepsTlb (w : Width) (rm : Rm) (wr : Bool) : KeepsTlb (openRm w rm wr) := by
  cases rm with
  | reg r => exact KeepsTlb.pure' _
  | mem m =>
    exact KeepsTlb.bind' (resolve_keepsTlb m) fun _ => KeepsTlb.bind' (openMem_keepsTlb _ _ _ _) fun _ => KeepsTlb.pure' _

/-- All that opening memory can do. -/
theorem openMem_accesses (r : Sreg) (off : Dword) (n : Nat) (wr : Bool) :
    Accesses (fun as => ∀ a ∈ as, a < 2 ^ 32) (openMem r off n wr) := by
  intro s
  simp only [openMem]
  rw [M.bind_run]
  rcases checkAccess_accesses r off n wr s with h | ⟨e, h⟩
  · rw [h]
    exact Accesses.get' (fun t => translateAll_accesses (t.linear r off) wr t.user n) s
  · rw [h]
    exact ⟨Touches.refl s, id, rfl⟩

/-- The same for the part of an operand after its first bytes. -/
theorem openTail_accesses (r : Sreg) (off : Dword) (k n : Nat) (wr : Bool) :
    Accesses (fun as => ∀ a ∈ as, a < 2 ^ 32) (openTail r off k n wr) := by
  intro s
  simp only [openTail]
  rw [M.bind_run]
  rcases checkAccess_accesses r off (k + n) wr s with h | ⟨e, h⟩
  · rw [h]
    exact Accesses.get' (fun t => translateAll_accesses (t.linear r off + BitVec.ofNat 32 k) wr t.user n) s
  · rw [h]
    exact ⟨Touches.refl s, id, rfl⟩

/-- The tail of an operand that passes its segment checks, paging off: the addresses after its first part's. -/
theorem openTail_off {s : State} {r : Sreg} {off : Dword} {k n : Nat} {wr : Bool} (hp : s.cr0.pg = false)
    (h : s.accessExc r off (k + n) wr = none) :
    openTail r off k n wr s = .ok (spanOf (s.linear r off + BitVec.ofNat 32 k) n, s) := by
  simp [openTail, checkAccess_ok h, translateAll_off hp]

theorem effAddr_accesses (m : Mem) : Accesses (fun _ => True) (effAddr m) := by
  unfold effAddr
  split
  · exact draw_accesses _
  · exact fun s => ⟨Touches.refl s, rfl, id, trivial⟩

theorem resolve_accesses (m : Mem) : Accesses (fun _ => True) (resolve m) :=
  Accesses.bind' (effAddr_accesses m) fun _ _ => Accesses.get' fun _ => Accesses.pure' trivial

/-- All that finding an r/m operand can do. -/
theorem openRm_accesses (w : Width) (rm : Rm) (wr : Bool) :
    Accesses (fun p => ∀ as, p = .mem as → ∀ a ∈ as, a < 2 ^ 32) (openRm w rm wr) := by
  cases rm with
  | reg r => exact Accesses.pure' (by simp)
  | mem m =>
    refine Accesses.bind' (resolve_accesses m) fun x _ => ?_
    refine Accesses.bind' (openMem_accesses _ _ _ _) fun as h => Accesses.pure' ?_
    rintro _ ⟨⟩
    exact h

theorem memBytes_accesses (r : Sreg) (off : Dword) (n : Nat) : Accesses (fun _ => True) (memBytes r off n) :=
  Accesses.bind' (openMem_accesses _ _ _ _) fun _ _ => readPhys_accesses _

theorem memParts_accesses (r : Sreg) (off : Dword) (k n : Nat) : Accesses (fun _ => True) (memParts r off k n) :=
  Accesses.bind' (memBytes_accesses _ _ _) fun _ _ =>
    Accesses.bind' (openTail_accesses _ _ _ _ _) fun _ _ =>
      Accesses.bind' (readPhys_accesses _) fun _ _ => Accesses.pure' trivial

theorem memStore_accesses (r : Sreg) (off : Dword) (bs : List Byte) : Accesses (fun _ => True) (memStore r off bs) :=
  Accesses.bind' (openMem_accesses _ _ _ _) fun _ h => writePhys_accesses h _

/-- An operation of memory accesses that completes: what it changed. -/
theorem Accesses.ok {α : Type} {post : α → Prop} {m : M α} (hm : Accesses post m) {s t : State} {a : α}
    (h : m s = .ok (a, t)) :
    t = { s with mem := t.mem, tlb := t.tlb, draws := t.draws } ∧ (Memory.wf s.mem = true → Memory.wf t.mem = true) ∧
      post a := by
  have hs := hm s
  rw [h] at hs
  refine ⟨?_, hs.2.2.1, hs.2.2.2⟩
  have ht : t = { s with mem := t.mem, tlb := t.tlb, draws := t.draws, cr2 := t.cr2 } := hs.1
  rw [ht]
  simp only [hs.2.1]

/-- An operation of memory accesses that fails raises an exception, no task switch committed. -/
theorem Accesses.error {α : Type} {post : α → Prop} {m : M α} (hm : Accesses post m) {s : State} {x : Stop}
    (h : m s = .error x) :
    ∃ e st, x = .exc e st false ∧ Touches s st ∧ (Memory.wf s.mem = true → Memory.wf st.mem = true) := by
  have hs := hm s
  rw [h] at hs
  rcases x with ⟨e, st, c⟩ | r
  · obtain ⟨h1, h2, rfl⟩ := hs
    exact ⟨e, st, rfl, h1, h2⟩
  · exact hs.elim

theorem effAddr_ok_off {m : Mem} {s u : State} {off : Dword} (h : effAddr m s = .ok (off, u)) :
    u = { s with draws := u.draws } := by
  unfold effAddr at h
  split at h
  · cases h; rfl
  · cases h; rfl

theorem resolve_ok_off {m : Mem} {s u : State} {x : Sreg × Dword} (h : resolve m s = .ok (x, u)) :
    u = { s with draws := u.draws } := by
  simp only [resolve, M.bind_run, M.get_run, M.pure_run] at h
  cases he : effAddr m s with
  | error e => simp [he] at h
  | ok p =>
    obtain ⟨off, t⟩ := p
    simp only [he] at h
    cases h
    exact effAddr_ok_off he

/-- With paging off, finding an operand changes nothing but the count of free values. -/
theorem openRm_ok_off {w : Width} {rm : Rm} {wr : Bool} {s u : State} {p : Place} (hp : s.cr0.pg = false)
    (h : openRm w rm wr s = .ok (p, u)) : u = { s with draws := u.draws } := by
  cases rm with
  | reg r => cases h; rfl
  | mem m =>
    simp only [openRm, M.bind_run] at h
    cases hr : resolve m s with
    | error e => simp [hr] at h
    | ok x =>
      obtain ⟨⟨seg, off⟩, t⟩ := x
      have ht := resolve_ok_off hr
      simp only [hr] at h
      cases ho : openMem seg off w.bytes wr t with
      | error e => simp [ho] at h
      | ok y =>
        obtain ⟨as, v⟩ := y
        simp only [ho, M.pure_run] at h
        cases h
        have hpt : t.cr0.pg = false := by rw [ht]; exact hp
        rw [(openMem_ok_off hpt ho).1]
        exact ht

/-- A memory operand with a defined address that passes its checks, paging off: its bytes are consecutive from the linear
address of its effective address. -/
theorem openRm_mem_off {w : Width} {m : Mem} {wr : Bool} {s : State} (hp : s.cr0.pg = false)
    (hm : openAddress m = false) (h : s.accessExc (s.dataSeg (defaultSeg m)) (s.regs.ea m) w.bytes wr = none) :
    openRm w (.mem m) wr s = .ok (.mem (spanOf (s.linear (s.dataSeg (defaultSeg m)) (s.regs.ea m)) w.bytes), s) := by
  simp [openRm, resolve_ok hm, openMem_off hp h]

/-- A memory operand with a defined address that fails its segment checks raises their exception. -/
theorem openRm_mem_exc {w : Width} {m : Mem} {wr : Bool} {s : State} {e : Exc} (hm : openAddress m = false)
    (h : s.accessExc (s.dataSeg (defaultSeg m)) (s.regs.ea m) w.bytes wr = some e) :
    openRm w (.mem m) wr s = .error (.exc e s false) := by
  simp [openRm, resolve_ok hm, openMem_exc h]

end Sys2Proof.Machine
end

