-- ==== Sys2Proof/Laws/Stack.lean ====
section
/-! SUPPORT. The stack pointer, pushes and pops: what each does once its access passes. -/

namespace Sys2Proof.Machine

theorem truncSz_sub (z : Sz) (a : Dword) (n m : Nat) :
    truncSz z (truncSz z (a - BitVec.ofNat 32 n) - BitVec.ofNat 32 m) = truncSz z (a - BitVec.ofNat 32 (n + m)) := by
  cases z <;> simp only [truncSz] <;> bv_omega

theorem truncSz_truncSz_sub (z : Sz) (a : Dword) (n : Nat) :
    truncSz z (truncSz z a - BitVec.ofNat 32 n) = truncSz z (a - BitVec.ofNat 32 n) := by
  cases z
  · simp only [truncSz]; bv_omega
  · rfl

theorem setWidth_append_low (x y : Word) : (x ++ y : Dword).setWidth 16 = y := by
  apply BitVec.eq_of_getLsbD_eq
  intro i hi
  rw [BitVec.getLsbD_setWidth, BitVec.getLsbD_append]
  simp [hi]

theorem sp_trunc (s : State) : truncSz s.ssSize s.sp = s.sp := by
  unfold State.sp
  cases s.ssSize <;> simp [truncSz]

/-- The stack pointer written is read back at the stack's size. -/
theorem setSp_sp (s : State) (v : Dword) : (s.setSp v).sp = truncSz s.ssSize v := by
  have : (s.setSp v).ssSize = s.ssSize := rfl
  unfold State.sp
  rw [this]
  unfold State.setSp
  cases h : s.ssSize
  · show ((s.regs.write .b16 .sp (v.setWidth 16)).get .sp |>.setWidth 16).setWidth 32 = _
    simp only [GeneralRegs.write, GeneralRegs.set, GeneralRegs.get, setLow16, setWidth_append_low, truncSz]
  · simp [State.setReg, GeneralRegs.write, GeneralRegs.set, truncSz]

/-- What a push does once the place below the top passes its checks, paging on or off. -/
theorem push_ok {sz : Sz} {v : Dword} {s u : State} {as : List Nat}
    (h : openMem .ss (truncSz s.ssSize (s.sp - BitVec.ofNat 32 sz.bytes)) sz.bytes true s = .ok (as, u)) :
    push sz v s =
      .ok ((), (u.setBytes as (leBytes sz.bytes v)).setSp (truncSz s.ssSize (s.sp - BitVec.ofNat 32 sz.bytes))) := by
  simp only [push, M.bind_run, M.get_run, memStore, leBytes_length, h, writePhys_run, setStackPtr_run]

/-- What a pop does once the top passes its checks, paging on or off. -/
theorem pop_ok {sz : Sz} {s u : State} {as : List Nat} (h : openMem .ss s.sp sz.bytes false s = .ok (as, u)) :
    pop sz s = .ok (leValue 32 (as.map u.byte), u.setSp (u.sp + BitVec.ofNat 32 sz.bytes)) := by
  have : truncSz s.ssSize (s.sp + BitVec.ofNat 32 0) = s.sp := by simp [sp_trunc]
  simp only [pop, stackRead, M.bind_run, M.get_run, this, memBytes, h, readPhys_run, M.pure_run, addStackPtr_run]

/-- An access finds as many addresses as it has bytes. -/
theorem openMem_length {s u : State} {r : Sreg} {off : Dword} {n : Nat} {wr : Bool} {as : List Nat}
    (h : openMem r off n wr s = .ok (as, u)) : as.length = n := by
  have hT : ∀ (n : Nat) lin wr us (s u : State) as, translateAll lin wr us n s = .ok (as, u) → as.length = n := by
    intro n
    induction n with
    | zero => intro lin wr us s u as h; cases h; rfl
    | succ n ih =>
      intro lin wr us s u as h
      simp only [translateAll, M.bind_run] at h
      cases h1 : translate lin wr us s with
      | error e => simp [h1] at h
      | ok x =>
        simp only [h1] at h
        cases h2 : translateAll (lin + 1#32) wr us n x.2 with
        | error e => simp [h2] at h
        | ok y => simp only [h2, M.pure_run] at h; cases h; simp [ih _ _ _ _ _ _ h2]
  simp only [openMem, M.bind_run] at h
  rcases checkAccess_accesses r off n wr s with h1 | ⟨e, h1⟩
  · simp only [h1, M.get_run] at h; exact hT _ _ _ _ _ _ _ h
  · simp [h1] at h

/-- Storing elements leaves every byte outside their places. -/
theorem setElements_byte {sz : Sz} {ps : List (List Nat)} {vs : List Dword} {s : State} {a : Nat} (h : a ∉ ps.flatten) :
    (s.setElements sz ps vs).byte a = s.byte a := by
  induction ps generalizing vs s with
  | nil => rfl
  | cons p ps ih =>
    simp only [List.flatten_cons, List.mem_append, not_or] at h
    cases vs with
    | nil => rfl
    | cons v vs => exact (ih (vs := vs) (s := s.setBytes p (leBytes sz.bytes v)) h.2).trans (byte_setBytes_other h.1)

/-- All that opening the elements of several pushes can do. -/
theorem openBelow_accesses (sz : Sz) (n k : Nat) : Accesses (fun ps => ∀ as ∈ ps, ∀ a ∈ as, a < 2 ^ 32) (openBelow sz n k) := by
  induction n generalizing k with
  | zero => exact Accesses.pure' (by simp)
  | succ n ih =>
    refine Accesses.get' fun s => Accesses.bind' (openMem_accesses _ _ _ _) fun as has => Accesses.bind' (ih _) fun ps hps =>
      Accesses.pure' ?_
    simpa using ⟨has, hps⟩

theorem openBelow_keepsTlb (sz : Sz) (n k : Nat) : KeepsTlb (openBelow sz n k) := by
  induction n generalizing k with
  | zero => exact KeepsTlb.pure' _
  | succ n ih =>
    exact KeepsTlb.get' fun _ => KeepsTlb.bind' (openMem_keepsTlb _ _ _ _) fun _ => KeepsTlb.bind' (ih _) fun _ =>
      KeepsTlb.pure' _

end Sys2Proof.Machine
end

