-- ==== Sys2Proof/Laws/Segment.lean ====
section
/-! SUPPORT. Selectors, descriptors and the loading of segment registers, paging off. -/

namespace Sys2Proof.Machine

theorem selNull_iff (sel : Word) : selNull sel = true ↔ sel.toNat / 4 = 0 := by
  unfold selNull
  rw [decide_eq_true_eq, ← BitVec.toNat_inj]
  have := sel.isLt
  simp [BitVec.extractLsb'_toNat, Nat.shiftRight_eq_div_pow]
  omega

/-- The offset of a descriptor in its table: 8 times the selector's index. -/
theorem selOffset_eq (sel : Word) : selOffset sel = BitVec.ofNat 32 (sel.toNat / 8 * 8) := by
  have h : sel &&& 0xFFF8#16 = (sel >>> 3) <<< 3 := by
    apply BitVec.eq_of_getLsbD_eq
    intro i hi
    simp only [BitVec.getLsbD_and, BitVec.getLsbD_shiftLeft, BitVec.getLsbD_ushiftRight]
    interval_cases i <;> simp
  unfold selOffset
  apply BitVec.eq_of_toNat_eq
  rw [BitVec.toNat_setWidth, h, BitVec.toNat_shiftLeft, BitVec.toNat_ushiftRight, Nat.shiftLeft_eq,
    Nat.shiftRight_eq_div_pow, BitVec.toNat_ofNat]
  have := sel.isLt
  omega

/-- The two doublewords of eight bytes. -/
theorem leValue_halves (bs : List Byte) (h : bs.length = 8) :
    (leValue 64 bs).extractLsb' 0 32 = leValue 32 (bs.take 4) ∧
      (leValue 64 bs).extractLsb' 32 32 = leValue 32 (bs.drop 4) := by
  match bs, h with
  | [b0, b1, b2, b3, b4, b5, b6, b7], _ =>
    have h0 := b0.isLt; have h1 := b1.isLt; have h2 := b2.isLt; have h3 := b3.isLt
    have h4 := b4.isLt; have h5 := b5.isLt; have h6 := b6.isLt; have h7 := b7.isLt
    constructor <;> apply BitVec.eq_of_toNat_eq <;>
      simp [leValue, leNat, BitVec.extractLsb'_toNat, Nat.shiftRight_eq_div_pow] <;> omega

/-- A descriptor read with paging off: its two doublewords, little-endian; nothing changes. -/
theorem readDescAt_off {s : State} (hp : s.cr0.pg = false) (a : Dword) :
    readDescAt a s = .ok
      ({ lo := leValue 32 (((spanOf a 8).map s.byte).take 4), hi := leValue 32 (((spanOf a 8).map s.byte).drop 4) }, s) := by
  have h := leValue_halves ((spanOf a 8).map s.byte) (by simp)
  simp only [readDescAt, M.bind_run, linRead_off hp, M.pure_run]
  rw [show (8 * 8 : Nat) = 64 from rfl, h.1, h.2]

theorem readDesc_eq (s : State) (sel : Word) : readDesc sel s = readDescAt (s.descAddr sel) s := by
  simp only [readDesc, M.bind_run, M.get_run]

theorem fetchDesc_ok {s : State} {sel : Word} (e : Exc) (h : s.selInTable sel = true) :
    fetchDesc sel e s = readDesc sel s := by
  simp only [fetchDesc, M.bind_run, M.get_run, require_run, h, if_true]

theorem fetchDesc_exc {s : State} {sel : Word} {e : Exc} (h : s.selInTable sel = false) :
    fetchDesc sel e s = .error (.exc e s false) := by simp [fetchDesc, h]

/-- A segment register loaded from a descriptor, paging off: the accessed bit is set in memory if it was 0, then the register
takes the descriptor. -/
theorem loadSeg_off {s : State} (hp : s.cr0.pg = false) (r : Sreg) (sel : Word) (d : Desc) :
    loadSeg r sel d s = .ok ((),
      (if d.typ.getLsbD 0 then s else
        s.setBytes (spanOf (s.descAddr sel + 5#32) 1) (leBytes 1 (d.hi.extractLsb' 8 8 ||| 1#8))).setSeg r
          (d.toAccessed sel)) := by
  simp only [loadSeg, markAccessed, M.bind_run, M.get_run, M.ite_run, M.pure_run]
  by_cases h : d.typ.getLsbD 0 = true
  · rw [if_pos h, if_pos h]; rfl
  · rw [if_neg h, if_neg h, linWrite_off hp]; rfl

end Sys2Proof.Machine
end

