-- ==== Sys2Proof/Tests/Slice0.lean ====
section
/-! SUPPORT. Tests: ill-formed terms refused, one word of every opcode-table row decoded, single instructions and single steps
with the expected results of spec/95_test_vectors.md (a test's name begins with its vector's number), and for every
statement with hypotheses a state and operands that meet them (`witness_<statement>`). -/

namespace Sys2Proof.Tests
open Sys2Proof.Machine

noncomputable section

set_option Elab.async false

/-! ## Well-formedness

One ill-formed instruction for each check of WellFormed.lean, and the same check passed beside it. -/

/-- Each is refused under the sizes beside it. -/
def illFormed : List (Sz × Sz × Instr) := [
  (.s16, .s16, .addAccImm (.i32 1#32)), (.s32, .s16, .addAccImm (.i16 1#16)),
  (.s16, .s16, .jmpFarPtr (.p32 0#32 0#16)), (.s32, .s32, .jmpFarPtr (.p16 0#16 0#16)),
  (.s16, .s32, .incRm8 (.mem (.direct16 0#16))), (.s16, .s16, .incRm8 (.mem (.direct32 0#32))),
  (.s16, .s32, .incRm8 (.mem (.based16 .si .none))), (.s16, .s16, .incRm8 (.mem (.based16 .bp .none))),
  (.s16, .s16, .incRm8 (.mem (.based32 .ax .none))), (.s16, .s32, .incRm8 (.mem (.based32 .sp .none))),
  (.s16, .s32, .incRm8 (.mem (.based32 .bp .none))), (.s16, .s16, .incRm8 (.mem (.sib 0#2 .ax .ax .none))),
  (.s16, .s32, .incRm8 (.mem (.sib 0#2 .ax .bp .none))), (.s16, .s16, .incRm8 (.mem (.sibNoBase 0#2 .ax 0#32))),
  (.s16, .s16, .incRm .s32 (.reg .ax)), (.s32, .s16, .cbw .s16), (.s16, .s16, .movsb .s32), (.s16, .s32, .movsw .s16 .s16),
  (.s16, .s16, .movAlMoffs (.i32 0#32)), (.s16, .s16, .xchgAccR .s16 .ax), (.s16, .s16, .movsxR32Rm16 .ax (.reg .bx)),
  (.s16, .s16, .movzxR32Rm16 .ax (.reg .bx)), (.s16, .s16, .popMem .s16 (.based16 .bp .none)), (.s16, .s16, .joRel8 .s32 0#8),
  (.s16, .s16, .pushImm (.i32 0#32))]

theorem test_wf_refuses : illFormed.all (fun x => !x.2.2.wf x.1 x.2.1) = true := by decide

theorem test_wf_accepts : ([
    (.s32, .s16, .addAccImm (.i32 1#32)), (.s32, .s32, .jmpFarPtr (.p32 0#32 0#16)),
    (.s16, .s16, .incRm8 (.mem (.based16 .bp (.d8 0#8)))), (.s16, .s32, .incRm8 (.mem (.sib 0#2 .sp .sp .none))),
    (.s16, .s16, .xchgAccR .s16 .cx), (.s32, .s16, .movsxR32Rm16 .ax (.reg .bx))] : List (Sz × Sz × Instr)).all
      (fun x => x.2.2.wf x.1 x.2.1) = true := by decide

/-! ## Decoding

For every row of spec/opcode_table.json one instruction, its bytes assembled from the row's opcode column and the ModRM and
SIB tables (30_encoding.md R130 to R151), not by `encode`. -/

/-- Each list of bytes decodes to its instruction, with nothing left over. -/
def Reads (os as : Sz) : List (List Byte × Instr) → Prop
  | [] => True
  | (bs, i) :: rest => decodeOne os as bs = .ok (i, []) ∧ Reads os as rest

theorem test_decode_lockPrefix_to_orRRm : Reads .s16 .s16 [
    ([0xF0], .lockPrefix),
    ([0xF2], .repnePrefix),
    ([0xF3], .repPrefix),
    ([0x26], .esPrefix),
    ([0x2E], .csPrefix),
    ([0x36], .ssPrefix),
    ([0x3E], .dsPrefix),
    ([0x64], .fsPrefix),
    ([0x65], .gsPrefix),
    ([0x66], .operandSizePrefix),
    ([0x67], .addressSizePrefix),
    ([0x00, 0xEA], .addRm8R8 (.reg .dx) .bp),
    ([0x01, 0x35], .addRmR .s16 (.mem (.based16 .di .none)) .si),
    ([0x02, 0x41, 0xBB], .addR8Rm8 .ax (.mem (.based16 .bxdi (.d8 0xbb#8)))),
    ([0x03, 0xC3], .addRRm .s16 .ax (.reg .bx)),
    ([0x04, 0x13], .addAlImm8 0x13#8),
    ([0x05, 0x01, 0x2C], .addAccImm (.i16 0x2c01#16)),
    ([0x80, 0xC6, 0xD6], .addRm8Imm8 (.reg .si) 0xd6#8),
    ([0x81, 0x83, 0x71, 0x2E, 0x5A, 0xD9], .addRmImm (.mem (.based16 .bpdi (.d16 0x2e71#16))) (.i16 0xd95a#16)),
    ([0x83, 0x06, 0x43, 0x1E, 0x3F], .addRmImm8 .s16 (.mem (.direct16 0x1e43#16)) 0x3f#8),
    ([0x08, 0xD8], .orRm8R8 (.reg .ax) .bx),
    ([0x09, 0x73, 0x17], .orRmR .s16 (.mem (.based16 .bpdi (.d8 0x17#8))) .si),
    ([0x0A, 0x96, 0xDB, 0x49], .orR8Rm8 .dx (.mem (.based16 .bp (.d16 0x49db#16)))),
    ([0x0B, 0xCC], .orRRm .s16 .cx (.reg .sp))] :=
  ⟨rfl, rfl, rfl, rfl, rfl, rfl, rfl, rfl, rfl, rfl, rfl, rfl, 
    rfl, rfl, rfl, rfl, rfl, rfl, rfl, rfl, rfl, rfl, rfl, rfl, trivial⟩

theorem test_decode_orAlImm8_to_andRm8R8 : Reads .s32 .s32 [
    ([0x0C, 0x5C], .orAlImm8 0x5c#8),
    ([0x0D, 0xC5, 0x50, 0x18, 0x30], .orAccImm (.i32 0x301850c5#32)),
    ([0x80, 0xC9, 0x20], .orRm8Imm8 (.reg .cx) 0x20#8),
    ([0x81, 0x0C, 0x1B, 0xEF, 0xF2, 0x6B, 0x50], .orRmImm (.mem (.sib 0#2 .bx .bx .none)) (.i32 0x506bf2ef#32)),
    ([0x83, 0x4C, 0xEC, 0x7F, 0x5C], .orRmImm8 .s32 (.mem (.sib 3#2 .bp .sp (.d8 0x7f#8))) 0x5c#8),
    ([0x10, 0xD9], .adcRm8R8 (.reg .cx) .bx),
    ([0x11, 0x24, 0xED, 0x20, 0xED, 0xBC, 0xBA], .adcRmR .s32 (.mem (.sibNoBase 3#2 .bp 0xbabced20#32)) .sp),
    ([0x12, 0x25, 0xCE, 0x4A, 0xBD, 0x12], .adcR8Rm8 .sp (.mem (.direct32 0x12bd4ace#32))),
    ([0x13, 0xF2], .adcRRm .s32 .si (.reg .dx)),
    ([0x14, 0xAF], .adcAlImm8 0xaf#8),
    ([0x15, 0x82, 0xAF, 0x2C, 0x7D], .adcAccImm (.i32 0x7d2caf82#32)),
    ([0x80, 0xD0, 0x27], .adcRm8Imm8 (.reg .ax) 0x27#8),
    ([0x81, 0x54, 0xAD, 0xFE, 0x6A, 0xDF, 0xC9, 0x74], .adcRmImm (.mem (.sib 2#2 .bp .bp (.d8 0xfe#8))) (.i32 0x74c9df6a#32)),
    ([0x83, 0x94, 0xB9, 0x36, 0xFB, 0x94, 0xB3, 0xE4], .adcRmImm8 .s32 (.mem (.sib 2#2 .di .cx (.d32 0xb394fb36#32))) 0xe4#8),
    ([0x18, 0xE6], .sbbRm8R8 (.reg .si) .sp),
    ([0x19, 0x2D, 0x92, 0xA9, 0x31, 0x76], .sbbRmR .s32 (.mem (.direct32 0x7631a992#32)) .bp),
    ([0x1A, 0x16], .sbbR8Rm8 .dx (.mem (.based32 .si .none))),
    ([0x1B, 0xCF], .sbbRRm .s32 .cx (.reg .di)),
    ([0x1C, 0x1E], .sbbAlImm8 0x1e#8),
    ([0x1D, 0x99, 0x23, 0x95, 0x49], .sbbAccImm (.i32 0x49952399#32)),
    ([0x80, 0xDB, 0xCB], .sbbRm8Imm8 (.reg .bx) 0xcb#8),
    ([0x81, 0x9C, 0xCA, 0x02, 0xF2, 0xFD, 0x72, 0x11, 0x18, 0xA8, 0x8C], .sbbRmImm (.mem (.sib 3#2 .cx .dx (.d32 0x72fdf202#32))) (.i32 0x8ca81811#32)),
    ([0x83, 0x1C, 0xE5, 0x3A, 0x6A, 0xD6, 0xB4, 0xB7], .sbbRmImm8 .s32 (.mem (.sibNoBase 3#2 .sp 0xb4d66a3a#32)) 0xb7#8),
    ([0x20, 0xF3], .andRm8R8 (.reg .bx) .si)] :=
  ⟨rfl, rfl, rfl, rfl, rfl, rfl, rfl, rfl, rfl, rfl, rfl, rfl, 
    rfl, rfl, rfl, rfl, rfl, rfl, rfl, rfl, rfl, rfl, rfl, rfl, trivial⟩

theorem test_decode_andRmR_to_xorRm8Imm8 : Reads .s32 .s16 [
    ([0x21, 0x10], .andRmR .s32 (.mem (.based16 .bxsi .none)) .dx),
    ([0x22, 0x53, 0x77], .andR8Rm8 .dx (.mem (.based16 .bpdi (.d8 0x77#8)))),
    ([0x23, 0xC7], .andRRm .s32 .ax (.reg .di)),
    ([0x24, 0x5D], .andAlImm8 0x5d#8),
    ([0x25, 0xC5, 0x5C, 0x43, 0x43], .andAccImm (.i32 0x43435cc5#32)),
    ([0x80, 0xE0, 0x4A], .andRm8Imm8 (.reg .ax) 0x4a#8),
    ([0x81, 0xA5, 0x21, 0xA3, 0xC0, 0x39, 0xFE, 0xF3], .andRmImm (.mem (.based16 .di (.d16 0xa321#16))) (.i32 0xf3fe39c0#32)),
    ([0x83, 0x26, 0xA4, 0x1B, 0xE9], .andRmImm8 .s32 (.mem (.direct16 0x1ba4#16)) 0xe9#8),
    ([0x28, 0xF6], .subRm8R8 (.reg .si) .si),
    ([0x29, 0x71, 0xF6], .subRmR .s32 (.mem (.based16 .bxdi (.d8 0xf6#8))) .si),
    ([0x2A, 0xB3, 0x7B, 0x22], .subR8Rm8 .si (.mem (.based16 .bpdi (.d16 0x227b#16)))),
    ([0x2B, 0xDF], .subRRm .s32 .bx (.reg .di)),
    ([0x2C, 0x53], .subAlImm8 0x53#8),
    ([0x2D, 0xF9, 0x42, 0x24, 0x1C], .subAccImm (.i32 0x1c2442f9#32)),
    ([0x80, 0xE8, 0x34], .subRm8Imm8 (.reg .ax) 0x34#8),
    ([0x81, 0x2E, 0x1E, 0x00, 0x16, 0xBB, 0x18, 0x91], .subRmImm (.mem (.direct16 0x1e#16)) (.i32 0x9118bb16#32)),
    ([0x83, 0x2C, 0x33], .subRmImm8 .s32 (.mem (.based16 .si .none)) 0x33#8),
    ([0x30, 0xE8], .xorRm8R8 (.reg .ax) .bp),
    ([0x31, 0x8B, 0xA1, 0xC0], .xorRmR .s32 (.mem (.based16 .bpdi (.d16 0xc0a1#16))) .cx),
    ([0x32, 0x16, 0x27, 0x81], .xorR8Rm8 .dx (.mem (.direct16 0x8127#16))),
    ([0x33, 0xED], .xorRRm .s32 .bp (.reg .bp)),
    ([0x34, 0xF2], .xorAlImm8 0xf2#8),
    ([0x35, 0xAB, 0x96, 0x72, 0x1F], .xorAccImm (.i32 0x1f7296ab#32)),
    ([0x80, 0xF7, 0xEE], .xorRm8Imm8 (.reg .di) 0xee#8)] :=
  ⟨rfl, rfl, rfl, rfl, rfl, rfl, rfl, rfl, rfl, rfl, rfl, rfl, 
    rfl, rfl, rfl, rfl, rfl, rfl, rfl, rfl, rfl, rfl, rfl, rfl, trivial⟩

theorem test_decode_xorRmImm_to_btcRmR : Reads .s16 .s32 [
    ([0x81, 0x33, 0xB9, 0xF7], .xorRmImm (.mem (.based32 .bx .none)) (.i16 0xf7b9#16)),
    ([0x83, 0x70, 0x49, 0x34], .xorRmImm8 .s16 (.mem (.based32 .ax (.d8 0x49#8))) 0x34#8),
    ([0x38, 0xEC], .cmpRm8R8 (.reg .sp) .bp),
    ([0x39, 0x3C, 0x41], .cmpRmR .s16 (.mem (.sib 1#2 .ax .cx .none)) .di),
    ([0x3A, 0x6C, 0x21, 0x85], .cmpR8Rm8 .bp (.mem (.sib 0#2 .sp .cx (.d8 0x85#8)))),
    ([0x3B, 0xEA], .cmpRRm .s16 .bp (.reg .dx)),
    ([0x3C, 0xB6], .cmpAlImm8 0xb6#8),
    ([0x3D, 0x11, 0x72], .cmpAccImm (.i16 0x7211#16)),
    ([0x80, 0xFD, 0x72], .cmpRm8Imm8 (.reg .bp) 0x72#8),
    ([0x81, 0x7F, 0x63, 0x91, 0x7A], .cmpRmImm (.mem (.based32 .di (.d8 0x63#8))) (.i16 0x7a91#16)),
    ([0x83, 0xBD, 0x65, 0x99, 0x0B, 0x3A, 0xFC], .cmpRmImm8 .s16 (.mem (.based32 .bp (.d32 0x3a0b9965#32))) 0xfc#8),
    ([0x37], .aaa),
    ([0x3F], .aas),
    ([0xD5, 0x0A], .aad),
    ([0xD4, 0x0A], .aam),
    ([0x27], .daa),
    ([0x2F], .das),
    ([0x63, 0xE8], .arplRmR (.reg .ax) .bp),
    ([0x62, 0x85, 0x8D, 0xB9, 0xE4, 0x78], .bound .s16 .ax (.mem (.based32 .bp (.d32 0x78e4b98d#32)))),
    ([0x0F, 0xBC, 0x1C, 0xBF], .bsfRRm .s16 .bx (.mem (.sib 2#2 .di .di .none))),
    ([0x0F, 0xBD, 0xED], .bsrRRm .s16 .bp (.reg .bp)),
    ([0x0F, 0xA3, 0x8C, 0x1F, 0xDD, 0x55, 0x5B, 0x32], .btRmR .s16 (.mem (.sib 0#2 .bx .di (.d32 0x325b55dd#32))) .cx),
    ([0x0F, 0xBA, 0x24, 0xC5, 0xB9, 0x91, 0x29, 0xA7, 0x2B], .btRmImm8 .s16 (.mem (.sibNoBase 3#2 .ax 0xa72991b9#32)) 0x2b#8),
    ([0x0F, 0xBB, 0xCE], .btcRmR .s16 (.reg .si) .cx)] :=
  ⟨rfl, rfl, rfl, rfl, rfl, rfl, rfl, rfl, rfl, rfl, rfl, rfl, 
    rfl, rfl, rfl, rfl, rfl, rfl, rfl, rfl, rfl, rfl, rfl, rfl, trivial⟩

theorem test_decode_btcRmImm8_to_enter : Reads .s16 .s16 [
    ([0x0F, 0xBA, 0x3F, 0x66], .btcRmImm8 .s16 (.mem (.based16 .bx .none)) 0x66#8),
    ([0x0F, 0xB3, 0x7E, 0xAA], .btrRmR .s16 (.mem (.based16 .bp (.d8 0xaa#8))) .di),
    ([0x0F, 0xBA, 0xF1, 0xCA], .btrRmImm8 .s16 (.reg .cx) 0xca#8),
    ([0x0F, 0xAB, 0x3E, 0x82, 0xCD], .btsRmR .s16 (.mem (.direct16 0xcd82#16)) .di),
    ([0x0F, 0xBA, 0x2D, 0x2B], .btsRmImm8 .s16 (.mem (.based16 .di .none)) 0x2b#8),
    ([0xE8, 0x55, 0x51], .callRel (.i16 0x5155#16)),
    ([0xFF, 0x92, 0x1A, 0x0E], .callRm .s16 (.mem (.based16 .bpsi (.d16 0xe1a#16)))),
    ([0x9A, 0x63, 0x4D, 0x42, 0xEE], .callFarPtr (.p16 0x4d63#16 0xee42#16)),
    ([0xFF, 0xDA], .callFarMem .s16 (.reg .dx)),
    ([0x98], .cbw .s16),
    ([0xF8], .clc),
    ([0xFC], .cld),
    ([0xFA], .cli),
    ([0x0F, 0x06], .clts),
    ([0xF5], .cmc),
    ([0xA6], .cmpsb .s16),
    ([0xA7], .cmpsw .s16 .s16),
    ([0x99], .cwd .s16),
    ([0xFE, 0x8F, 0x68, 0xB3], .decRm8 (.mem (.based16 .bx (.d16 0xb368#16)))),
    ([0xFF, 0x0E, 0xD3, 0x4F], .decRm .s16 (.mem (.direct16 0x4fd3#16))),
    ([0x4D], .decR .s16 .bp),
    ([0xF6, 0x72, 0x0A], .divRm8 (.mem (.based16 .bpsi (.d8 0xa#8)))),
    ([0xF7, 0xB1, 0x4B, 0x47], .divRm .s16 (.mem (.based16 .bxdi (.d16 0x474b#16)))),
    ([0xC8, 0x1C, 0xDE, 0x63], .enter .s16 0xde1c#16 0x63#8)] :=
  ⟨rfl, rfl, rfl, rfl, rfl, rfl, rfl, rfl, rfl, rfl, rfl, rfl, 
    rfl, rfl, rfl, rfl, rfl, rfl, rfl, rfl, rfl, rfl, rfl, rfl, trivial⟩

theorem test_decode_hlt_to_jbRel8 : Reads .s32 .s32 [
    ([0xF4], .hlt),
    ([0xF6, 0x78, 0x80], .idivRm8 (.mem (.based32 .ax (.d8 0x80#8)))),
    ([0xF7, 0xFB], .idivRm .s32 (.reg .bx)),
    ([0xF6, 0x2C, 0x6A], .imulRm8 (.mem (.sib 1#2 .bp .dx .none))),
    ([0xF7, 0x6C, 0xD0, 0xB5], .imulRm .s32 (.mem (.sib 3#2 .dx .ax (.d8 0xb5#8)))),
    ([0x0F, 0xAF, 0xFE], .imulRRm .s32 .di (.reg .si)),
    ([0x6B, 0x14, 0x45, 0x17, 0x30, 0x70, 0xDF, 0x5D], .imulRRmImm8 .s32 .dx (.mem (.sibNoBase 1#2 .ax 0xdf703017#32)) 0x5d#8),
    ([0x69, 0x05, 0xA7, 0x74, 0x59, 0x26, 0x70, 0x35, 0x3D, 0x24], .imulRRmImm .ax (.mem (.direct32 0x265974a7#32)) (.i32 0x243d3570#32)),
    ([0xE4, 0x3D], .inAlImm8 0x3d#8),
    ([0xE5, 0x1F], .inAccImm8 .s32 0x1f#8),
    ([0xEC], .inAlDx),
    ([0xED], .inAccDx .s32),
    ([0xFE, 0x44, 0xC8, 0x7F], .incRm8 (.mem (.sib 3#2 .cx .ax (.d8 0x7f#8)))),
    ([0xFF, 0x84, 0x81, 0x52, 0x8B, 0xF9, 0x81], .incRm .s32 (.mem (.sib 2#2 .ax .cx (.d32 0x81f98b52#32)))),
    ([0x45], .incR .s32 .bp),
    ([0x6C], .insb .s32),
    ([0x6D], .insw .s32 .s32),
    ([0xCC], .int3),
    ([0xCD, 0x0E], .intImm8 0xe#8),
    ([0xCE], .into),
    ([0xCF], .iret .s32),
    ([0x70, 0x20], .joRel8 .s32 0x20#8),
    ([0x71, 0xE2], .jnoRel8 .s32 0xe2#8),
    ([0x72, 0xA6], .jbRel8 .s32 0xa6#8)] :=
  ⟨rfl, rfl, rfl, rfl, rfl, rfl, rfl, rfl, rfl, rfl, rfl, rfl, 
    rfl, rfl, rfl, rfl, rfl, rfl, rfl, rfl, rfl, rfl, rfl, rfl, trivial⟩

theorem test_decode_jaeRel8_to_jpRel : Reads .s32 .s16 [
    ([0x73, 0x66], .jaeRel8 .s32 0x66#8),
    ([0x74, 0x8D], .jeRel8 .s32 0x8d#8),
    ([0x75, 0xE7], .jneRel8 .s32 0xe7#8),
    ([0x76, 0xF4], .jbeRel8 .s32 0xf4#8),
    ([0x77, 0x7E], .jaRel8 .s32 0x7e#8),
    ([0x78, 0x84], .jsRel8 .s32 0x84#8),
    ([0x79, 0x67], .jnsRel8 .s32 0x67#8),
    ([0x7A, 0xE5], .jpRel8 .s32 0xe5#8),
    ([0x7B, 0x46], .jnpRel8 .s32 0x46#8),
    ([0x7C, 0xD5], .jlRel8 .s32 0xd5#8),
    ([0x7D, 0x3E], .jgeRel8 .s32 0x3e#8),
    ([0x7E, 0xC8], .jleRel8 .s32 0xc8#8),
    ([0x7F, 0xE2], .jgRel8 .s32 0xe2#8),
    ([0x0F, 0x80, 0x54, 0x0D, 0xE4, 0x50], .joRel (.i32 0x50e40d54#32)),
    ([0x0F, 0x81, 0xFB, 0xD7, 0xD0, 0xAB], .jnoRel (.i32 0xabd0d7fb#32)),
    ([0x0F, 0x82, 0x87, 0x9A, 0xA7, 0x6D], .jbRel (.i32 0x6da79a87#32)),
    ([0x0F, 0x83, 0xF2, 0x0D, 0xE5, 0xC6], .jaeRel (.i32 0xc6e50df2#32)),
    ([0x0F, 0x84, 0x23, 0x30, 0xBE, 0x5D], .jeRel (.i32 0x5dbe3023#32)),
    ([0x0F, 0x85, 0x1F, 0x89, 0xBD, 0x77], .jneRel (.i32 0x77bd891f#32)),
    ([0x0F, 0x86, 0xF4, 0x9A, 0x18, 0x18], .jbeRel (.i32 0x18189af4#32)),
    ([0x0F, 0x87, 0x04, 0xF6, 0x8A, 0xE2], .jaRel (.i32 0xe28af604#32)),
    ([0x0F, 0x88, 0x6B, 0x33, 0x45, 0x39], .jsRel (.i32 0x3945336b#32)),
    ([0x0F, 0x89, 0xC1, 0x9E, 0xD1, 0xB4], .jnsRel (.i32 0xb4d19ec1#32)),
    ([0x0F, 0x8A, 0x67, 0x13, 0x60, 0x67], .jpRel (.i32 0x67601367#32))] :=
  ⟨rfl, rfl, rfl, rfl, rfl, rfl, rfl, rfl, rfl, rfl, rfl, rfl, 
    rfl, rfl, rfl, rfl, rfl, rfl, rfl, rfl, rfl, rfl, rfl, rfl, trivial⟩

theorem test_decode_jnpRel_to_lmsw : Reads .s16 .s32 [
    ([0x0F, 0x8B, 0xB1, 0xD7], .jnpRel (.i16 0xd7b1#16)),
    ([0x0F, 0x8C, 0x38, 0x64], .jlRel (.i16 0x6438#16)),
    ([0x0F, 0x8D, 0x96, 0xB6], .jgeRel (.i16 0xb696#16)),
    ([0x0F, 0x8E, 0x15, 0xA3], .jleRel (.i16 0xa315#16)),
    ([0x0F, 0x8F, 0x34, 0x2F], .jgRel (.i16 0x2f34#16)),
    ([0xE3, 0xBB], .jcxz .s16 .s32 0xbb#8),
    ([0xEB, 0x09], .jmpRel8 .s16 0x9#8),
    ([0xE9, 0x0B, 0xAD], .jmpRel (.i16 0xad0b#16)),
    ([0xFF, 0xE7], .jmpRm .s16 (.reg .di)),
    ([0xEA, 0x83, 0xE1, 0x42, 0x09], .jmpFarPtr (.p16 0xe183#16 0x942#16)),
    ([0xFF, 0xAD, 0x50, 0xAF, 0xB9, 0x9F], .jmpFarMem .s16 (.mem (.based32 .bp (.d32 0x9fb9af50#32)))),
    ([0x9F], .lahf),
    ([0x0F, 0x02, 0x4C, 0x49, 0x87], .larRRm .s16 .cx (.mem (.sib 1#2 .cx .cx (.d8 0x87#8)))),
    ([0x8D, 0xA4, 0x62, 0x53, 0xEC, 0xDC, 0xD1], .lea .s16 .sp (.mem (.sib 1#2 .sp .dx (.d32 0xd1dcec53#32)))),
    ([0xC9], .leave .s16),
    ([0x0F, 0x01, 0x15, 0x82, 0x28, 0x2D, 0xF2], .lgdt .s16 (.mem (.direct32 0xf22d2882#32))),
    ([0x0F, 0x01, 0x1B], .lidt .s16 (.mem (.based32 .bx .none))),
    ([0xC5, 0xD7], .lds .s16 .dx (.reg .di)),
    ([0xC4, 0xAD, 0x87, 0xA0, 0x70, 0x47], .les .s16 .bp (.mem (.based32 .bp (.d32 0x4770a087#32)))),
    ([0x0F, 0xB4, 0x14, 0x20], .lfs .s16 .dx (.mem (.sib 0#2 .sp .ax .none))),
    ([0x0F, 0xB5, 0xCC], .lgs .s16 .cx (.reg .sp)),
    ([0x0F, 0xB2, 0x8C, 0x4C, 0x04, 0xD2, 0xDE, 0xDC], .lss .s16 .cx (.mem (.sib 1#2 .cx .sp (.d32 0xdcded204#32)))),
    ([0x0F, 0x00, 0x14, 0x2D, 0x9A, 0x67, 0x59, 0xEA], .lldt (.mem (.sibNoBase 0#2 .bp 0xea59679a#32))),
    ([0x0F, 0x01, 0xF2], .lmsw (.reg .dx))] :=
  ⟨rfl, rfl, rfl, rfl, rfl, rfl, rfl, rfl, rfl, rfl, rfl, rfl, 
    rfl, rfl, rfl, rfl, rfl, rfl, rfl, rfl, rfl, rfl, rfl, rfl, trivial⟩

theorem test_decode_lodsb_to_movRDr : Reads .s16 .s16 [
    ([0xAC], .lodsb .s16),
    ([0xAD], .lodsw .s16 .s16),
    ([0xE2, 0x16], .loop .s16 .s16 0x16#8),
    ([0xE1, 0x7A], .loope .s16 .s16 0x7a#8),
    ([0xE0, 0x38], .loopne .s16 .s16 0x38#8),
    ([0x0F, 0x03, 0xD4], .lslRRm .s16 .dx (.reg .sp)),
    ([0x0F, 0x00, 0x9A, 0x4E, 0x67], .ltr (.mem (.based16 .bpsi (.d16 0x674e#16)))),
    ([0x88, 0x26, 0x29, 0x9C], .movRm8R8 (.mem (.direct16 0x9c29#16)) .sp),
    ([0x89, 0xDC], .movRmR .s16 (.reg .sp) .bx),
    ([0x8A, 0x7A, 0x8A], .movR8Rm8 .di (.mem (.based16 .bpsi (.d8 0x8a#8)))),
    ([0x8B, 0xA8, 0x3A, 0x80], .movRRm .s16 .bp (.mem (.based16 .bxsi (.d16 0x803a#16)))),
    ([0x8C, 0xC0], .movRmSreg .s16 (.reg .ax) 0#3),
    ([0x8E, 0x05], .movSregRm 0#3 (.mem (.based16 .di .none))),
    ([0xA0, 0x00, 0x61], .movAlMoffs (.i16 0x6100#16)),
    ([0xA1, 0x13, 0xF3], .movAccMoffs .s16 (.i16 0xf313#16)),
    ([0xA2, 0xC9, 0x7D], .movMoffsAl (.i16 0x7dc9#16)),
    ([0xA3, 0xE4, 0xE4], .movMoffsAcc .s16 (.i16 0xe4e4#16)),
    ([0xB1, 0xDD], .movR8Imm8 .cx 0xdd#8),
    ([0xBE, 0x70, 0xFD], .movRImm .si (.i16 0xfd70#16)),
    ([0xC6, 0x06, 0x42, 0xC9, 0x9D], .movRm8Imm8 (.mem (.direct16 0xc942#16)) 0x9d#8),
    ([0xC7, 0xC3, 0x89, 0x75], .movRmImm (.reg .bx) (.i16 0x7589#16)),
    ([0x0F, 0x20, 0xC5], .movRCr .bp .cr0),
    ([0x0F, 0x22, 0xDA], .movCrR .cr3 .dx),
    ([0x0F, 0x21, 0xD6], .movRDr .si .dr2)] :=
  ⟨rfl, rfl, rfl, rfl, rfl, rfl, rfl, rfl, rfl, rfl, rfl, rfl, 
    rfl, rfl, rfl, rfl, rfl, rfl, rfl, rfl, rfl, rfl, rfl, rfl, trivial⟩

theorem test_decode_movDrR_to_popR : Reads .s32 .s32 [
    ([0x0F, 0x23, 0xC2], .movDrR .dr0 .dx),
    ([0x0F, 0x24, 0xF0], .movRTr .ax .tr6),
    ([0x0F, 0x26, 0xFE], .movTrR .tr7 .si),
    ([0xA4], .movsb .s32),
    ([0xA5], .movsw .s32 .s32),
    ([0x0F, 0xBE, 0xD0], .movsxRRm8 .s32 .dx (.reg .ax)),
    ([0x0F, 0xBF, 0x0C, 0xE5, 0xC4, 0x8A, 0x49, 0x99], .movsxR32Rm16 .cx (.mem (.sibNoBase 3#2 .sp 0x99498ac4#32))),
    ([0x0F, 0xB6, 0x25, 0x3A, 0xAF, 0x94, 0x0B], .movzxRRm8 .s32 .sp (.mem (.direct32 0xb94af3a#32))),
    ([0x0F, 0xB7, 0xD2], .movzxR32Rm16 .dx (.reg .dx)),
    ([0xF6, 0x63, 0x01], .mulRm8 (.mem (.based32 .bx (.d8 0x1#8)))),
    ([0xF7, 0xA5, 0x1B, 0x1E, 0xD3, 0x52], .mulRm .s32 (.mem (.based32 .bp (.d32 0x52d31e1b#32)))),
    ([0xF6, 0xD8], .negRm8 (.reg .ax)),
    ([0xF7, 0x5C, 0x6A, 0x00], .negRm .s32 (.mem (.sib 1#2 .bp .dx (.d8 0x0#8)))),
    ([0x90], .nop),
    ([0xF6, 0xD5], .notRm8 (.reg .bp)),
    ([0xF7, 0x15, 0x0C, 0x48, 0xB2, 0x61], .notRm .s32 (.mem (.direct32 0x61b2480c#32))),
    ([0xE6, 0xF3], .outImm8Al 0xf3#8),
    ([0xE7, 0x8E], .outImm8Acc .s32 0x8e#8),
    ([0xEE], .outDxAl),
    ([0xEF], .outDxAcc .s32),
    ([0x6E], .outsb .s32),
    ([0x6F], .outsw .s32 .s32),
    ([0x8F, 0x04, 0x5D, 0x2B, 0x70, 0x44, 0x01], .popMem .s32 (.sibNoBase 1#2 .bx 0x144702b#32)),
    ([0x5B], .popR .s32 .bx)] :=
  ⟨rfl, rfl, rfl, rfl, rfl, rfl, rfl, rfl, rfl, rfl, rfl, rfl, 
    rfl, rfl, rfl, rfl, rfl, rfl, rfl, rfl, rfl, rfl, rfl, rfl, trivial⟩

theorem test_decode_popDs_to_rolRmCl : Reads .s32 .s16 [
    ([0x1F], .popDs .s32),
    ([0x07], .popEs .s32),
    ([0x17], .popSs .s32),
    ([0x0F, 0xA1], .popFs .s32),
    ([0x0F, 0xA9], .popGs .s32),
    ([0x61], .popa .s32),
    ([0x9D], .popf .s32),
    ([0xFF, 0x36, 0xF4, 0x2D], .pushMem .s32 (.direct16 0x2df4#16)),
    ([0x52], .pushR .s32 .dx),
    ([0x6A, 0xCC], .pushImm8 .s32 0xcc#8),
    ([0x68, 0xA7, 0x92, 0x38, 0x96], .pushImm (.i32 0x963892a7#32)),
    ([0x0E], .pushCs .s32),
    ([0x16], .pushSs .s32),
    ([0x1E], .pushDs .s32),
    ([0x06], .pushEs .s32),
    ([0x0F, 0xA0], .pushFs .s32),
    ([0x0F, 0xA8], .pushGs .s32),
    ([0x60], .pusha .s32),
    ([0x9C], .pushf .s32),
    ([0xD0, 0x06, 0xB7, 0xC9], .rolRm8One (.mem (.direct16 0xc9b7#16))),
    ([0xD2, 0xC0], .rolRm8Cl (.reg .ax)),
    ([0xC0, 0x44, 0x77, 0x2B], .rolRm8Imm8 (.mem (.based16 .si (.d8 0x77#8))) 0x2b#8),
    ([0xD1, 0x82, 0x6E, 0xC7], .rolRmOne .s32 (.mem (.based16 .bpsi (.d16 0xc76e#16)))),
    ([0xD3, 0xC5], .rolRmCl .s32 (.reg .bp))] :=
  ⟨rfl, rfl, rfl, rfl, rfl, rfl, rfl, rfl, rfl, rfl, rfl, rfl, 
    rfl, rfl, rfl, rfl, rfl, rfl, rfl, rfl, rfl, rfl, rfl, rfl, trivial⟩

theorem test_decode_rolRmImm8_to_salRmCl : Reads .s16 .s32 [
    ([0xC1, 0x07, 0xFD], .rolRmImm8 .s16 (.mem (.based32 .di .none)) 0xfd#8),
    ([0xD0, 0x4A, 0x4A], .rorRm8One (.mem (.based32 .dx (.d8 0x4a#8)))),
    ([0xD2, 0xC8], .rorRm8Cl (.reg .ax)),
    ([0xC0, 0x0C, 0xD4, 0x08], .rorRm8Imm8 (.mem (.sib 3#2 .dx .sp .none)) 0x8#8),
    ([0xD1, 0x4C, 0x48, 0x15], .rorRmOne .s16 (.mem (.sib 1#2 .cx .ax (.d8 0x15#8)))),
    ([0xD3, 0xCA], .rorRmCl .s16 (.reg .dx)),
    ([0xC1, 0x0C, 0x8D, 0x8F, 0x76, 0x9B, 0x3E, 0x87], .rorRmImm8 .s16 (.mem (.sibNoBase 2#2 .cx 0x3e9b768f#32)) 0x87#8),
    ([0xD0, 0x15, 0x34, 0x35, 0xD9, 0x00], .rclRm8One (.mem (.direct32 0xd93534#32))),
    ([0xD2, 0xD1], .rclRm8Cl (.reg .cx)),
    ([0xC0, 0x55, 0x2F, 0x21], .rclRm8Imm8 (.mem (.based32 .bp (.d8 0x2f#8))) 0x21#8),
    ([0xD1, 0x95, 0xEA, 0x28, 0x9E, 0xBC], .rclRmOne .s16 (.mem (.based32 .bp (.d32 0xbc9e28ea#32)))),
    ([0xD3, 0xD4], .rclRmCl .s16 (.reg .sp)),
    ([0xC1, 0x54, 0x9B, 0x76, 0xEB], .rclRmImm8 .s16 (.mem (.sib 2#2 .bx .bx (.d8 0x76#8))) 0xeb#8),
    ([0xD0, 0x9C, 0xCF, 0x44, 0x24, 0xC3, 0x32], .rcrRm8One (.mem (.sib 3#2 .cx .di (.d32 0x32c32444#32)))),
    ([0xD2, 0xDA], .rcrRm8Cl (.reg .dx)),
    ([0xC0, 0x1D, 0x5A, 0x12, 0xEF, 0x54, 0x9B], .rcrRm8Imm8 (.mem (.direct32 0x54ef125a#32)) 0x9b#8),
    ([0xD1, 0x1E], .rcrRmOne .s16 (.mem (.based32 .si .none))),
    ([0xD3, 0xDA], .rcrRmCl .s16 (.reg .dx)),
    ([0xC1, 0x9D, 0x4B, 0xEC, 0x7F, 0x7B, 0xF8], .rcrRmImm8 .s16 (.mem (.based32 .bp (.d32 0x7b7fec4b#32))) 0xf8#8),
    ([0xD0, 0x24, 0x1E], .salRm8One (.mem (.sib 0#2 .bx .si .none))),
    ([0xD2, 0xE7], .salRm8Cl (.reg .di)),
    ([0xC0, 0xA4, 0xBF, 0xCD, 0x0C, 0x02, 0x33, 0x2B], .salRm8Imm8 (.mem (.sib 2#2 .di .di (.d32 0x33020ccd#32))) 0x2b#8),
    ([0xD1, 0x24, 0x25, 0xBA, 0x1C, 0x7F, 0x75], .salRmOne .s16 (.mem (.sibNoBase 0#2 .sp 0x757f1cba#32))),
    ([0xD3, 0xE7], .salRmCl .s16 (.reg .di))] :=
  ⟨rfl, rfl, rfl, rfl, rfl, rfl, rfl, rfl, rfl, rfl, rfl, rfl, 
    rfl, rfl, rfl, rfl, rfl, rfl, rfl, rfl, rfl, rfl, rfl, rfl, trivial⟩

theorem test_decode_salRmImm8_to_setae : Reads .s16 .s16 [
    ([0xC1, 0x22, 0xC6], .salRmImm8 .s16 (.mem (.based16 .bpsi .none)) 0xc6#8),
    ([0xD0, 0x6B, 0x26], .shrRm8One (.mem (.based16 .bpdi (.d8 0x26#8)))),
    ([0xD2, 0xE9], .shrRm8Cl (.reg .cx)),
    ([0xC0, 0x2E, 0x92, 0x48, 0x86], .shrRm8Imm8 (.mem (.direct16 0x4892#16)) 0x86#8),
    ([0xD1, 0x2A], .shrRmOne .s16 (.mem (.based16 .bpsi .none))),
    ([0xD3, 0xEA], .shrRmCl .s16 (.reg .dx)),
    ([0xC1, 0xAC, 0xB0, 0x39, 0xBA], .shrRmImm8 .s16 (.mem (.based16 .si (.d16 0x39b0#16))) 0xba#8),
    ([0xD0, 0x3E, 0x77, 0x76], .sarRm8One (.mem (.direct16 0x7677#16))),
    ([0xD2, 0xFF], .sarRm8Cl (.reg .di)),
    ([0xC0, 0x7E, 0x0C, 0x51], .sarRm8Imm8 (.mem (.based16 .bp (.d8 0xc#8))) 0x51#8),
    ([0xD1, 0xBF, 0xCA, 0xE6], .sarRmOne .s16 (.mem (.based16 .bx (.d16 0xe6ca#16)))),
    ([0xD3, 0xFE], .sarRmCl .s16 (.reg .si)),
    ([0xC1, 0x3A, 0x48], .sarRmImm8 .s16 (.mem (.based16 .bpsi .none)) 0x48#8),
    ([0xC3], .retNear .s16),
    ([0xC2, 0x15, 0xD5], .retNearImm .s16 0xd515#16),
    ([0xCB], .retFar .s16),
    ([0xCA, 0x1B, 0xB0], .retFarImm .s16 0xb01b#16),
    ([0x9E], .sahf),
    ([0xAE], .scasb .s16),
    ([0xAF], .scasw .s16 .s16),
    ([0x0F, 0x90, 0xC6], .seto (.reg .si)),
    ([0x0F, 0x91, 0x41, 0xA9], .setno (.mem (.based16 .bxdi (.d8 0xa9#8)))),
    ([0x0F, 0x92, 0x85, 0x32, 0xAD], .setb (.mem (.based16 .di (.d16 0xad32#16)))),
    ([0x0F, 0x93, 0xC6], .setae (.reg .si))] :=
  ⟨rfl, rfl, rfl, rfl, rfl, rfl, rfl, rfl, rfl, rfl, rfl, rfl, 
    rfl, rfl, rfl, rfl, rfl, rfl, rfl, rfl, rfl, rfl, rfl, rfl, trivial⟩

theorem test_decode_sete_to_stosb : Reads .s32 .s32 [
    ([0x0F, 0x94, 0x00], .sete (.mem (.based32 .ax .none))),
    ([0x0F, 0x95, 0x46, 0x06], .setne (.mem (.based32 .si (.d8 0x6#8)))),
    ([0x0F, 0x96, 0xC4], .setbe (.reg .sp)),
    ([0x0F, 0x97, 0x04, 0x8B], .seta (.mem (.sib 2#2 .cx .bx .none))),
    ([0x0F, 0x98, 0x44, 0x2E, 0x8C], .sets (.mem (.sib 0#2 .bp .si (.d8 0x8c#8)))),
    ([0x0F, 0x99, 0xC0], .setns (.reg .ax)),
    ([0x0F, 0x9A, 0x04, 0x05, 0xA3, 0xD1, 0x82, 0xEF], .setp (.mem (.sibNoBase 0#2 .ax 0xef82d1a3#32))),
    ([0x0F, 0x9B, 0x05, 0x53, 0xC0, 0x06, 0x44], .setnp (.mem (.direct32 0x4406c053#32))),
    ([0x0F, 0x9C, 0xC5], .setl (.reg .bp)),
    ([0x0F, 0x9D, 0x47, 0xBF], .setge (.mem (.based32 .di (.d8 0xbf#8)))),
    ([0x0F, 0x9E, 0x85, 0x1C, 0x4B, 0x5F, 0xE2], .setle (.mem (.based32 .bp (.d32 0xe25f4b1c#32)))),
    ([0x0F, 0x9F, 0xC6], .setg (.reg .si)),
    ([0x0F, 0x01, 0x44, 0x48, 0xD2], .sgdt .s32 (.mem (.sib 1#2 .cx .ax (.d8 0xd2#8)))),
    ([0x0F, 0x01, 0x8C, 0x67, 0x8C, 0x79, 0x97, 0x20], .sidt .s32 (.mem (.sib 1#2 .sp .di (.d32 0x2097798c#32)))),
    ([0x0F, 0xA4, 0xFE, 0xAF], .shldRmRImm8 .s32 (.reg .si) .di 0xaf#8),
    ([0x0F, 0xA5, 0x25, 0xFC, 0xC6, 0x3A, 0x4C], .shldRmRCl .s32 (.mem (.direct32 0x4c3ac6fc#32)) .sp),
    ([0x0F, 0xAC, 0x23, 0x7A], .shrdRmRImm8 .s32 (.mem (.based32 .bx .none)) .sp 0x7a#8),
    ([0x0F, 0xAD, 0xE7], .shrdRmRCl .s32 (.reg .di) .sp),
    ([0x0F, 0x00, 0x85, 0xFE, 0x74, 0x3B, 0xAB], .sldt (.mem (.based32 .bp (.d32 0xab3b74fe#32)))),
    ([0x0F, 0x01, 0x24, 0x50], .smsw (.mem (.sib 1#2 .dx .ax .none))),
    ([0xF9], .stc),
    ([0xFD], .std),
    ([0xFB], .sti),
    ([0xAA], .stosb .s32)] :=
  ⟨rfl, rfl, rfl, rfl, rfl, rfl, rfl, rfl, rfl, rfl, rfl, rfl, 
    rfl, rfl, rfl, rfl, rfl, rfl, rfl, rfl, rfl, rfl, rfl, rfl, trivial⟩

theorem test_decode_stosw_to_unassignedF1 : Reads .s32 .s16 [
    ([0xAB], .stosw .s32 .s16),
    ([0x0F, 0x00, 0x4F, 0x70], .str (.mem (.based16 .bx (.d8 0x70#8)))),
    ([0xA8, 0xE7], .testAlImm8 0xe7#8),
    ([0xA9, 0x90, 0x9D, 0x00, 0xE8], .testAccImm (.i32 0xe8009d90#32)),
    ([0xF6, 0x07, 0xE6], .testRm8Imm8 (.mem (.based16 .bx .none)) 0xe6#8),
    ([0xF7, 0xC6, 0x75, 0x97, 0x41, 0x31], .testRmImm (.reg .si) (.i32 0x31419775#32)),
    ([0x84, 0x8D, 0xA3, 0x2E], .testRm8R8 (.mem (.based16 .di (.d16 0x2ea3#16))) .cx),
    ([0x85, 0x2E, 0x6E, 0x7A], .testRmR .s32 (.mem (.direct16 0x7a6e#16)) .bp),
    ([0x0F, 0x00, 0xE5], .verr (.reg .bp)),
    ([0x0F, 0x00, 0x6B, 0x0A], .verw (.mem (.based16 .bpdi (.d8 0xa#8)))),
    ([0x9B], .wait),
    ([0x96], .xchgAccR .s32 .si),
    ([0x86, 0x33], .xchgRm8R8 (.mem (.based16 .bpdi .none)) .si),
    ([0x87, 0x73, 0xC0], .xchgRmR .s32 (.mem (.based16 .bpdi (.d8 0xc0#8))) .si),
    ([0xD7], .xlat .s16),
    ([0xDC], .esc 4#3),
    ([0x82], .unassigned82),
    ([0xD6], .unassignedD6),
    ([0xF1], .unassignedF1)] :=
  ⟨rfl, rfl, rfl, rfl, rfl, rfl, rfl, 
    rfl, rfl, rfl, rfl, rfl, rfl, rfl, rfl, rfl, rfl, rfl, rfl, trivial⟩

/-! ## One instruction -/

/-- A segment register of the real-mode test state. -/
def seg (sel : Word) : SegReg := SegReg.real sel 0#2

/-- The start of 95_test_vectors.md part 3: real mode, CS 1000, DS and ES 2000, SS 3000, SP 0100, IP 0100, IF = 1, every other
register 0; the instruction is two bytes long. -/
def st : State :=
  { State.reset with
    regs := { eax := 0#32, ecx := 0#32, edx := 0#32, ebx := 0#32, esp := 0x100#32, ebp := 0#32, esi := 0#32, edi := 0#32 }
    cs := seg 0x1000#16, ds := seg 0x2000#16, es := seg 0x2000#16, ss := seg 0x3000#16
    eip := 0x100#32, next := 0x102#32, flags := { State.reset.flags with ie := true } }

/-- A general register set. -/
def set (r : Reg) (v : Dword) (s : State) : State := s.setReg .b32 r v

/-- The flags changed. -/
def flags (f : Flags → Flags) (s : State) : State := { s with flags := f s.flags }

/-- Bytes placed in memory. -/
def bytes (a : Nat) (bs : List Byte) (s : State) : State := s.putBytes (List.range' a bs.length) bs

/-- The offset of the byte after the instruction. -/
def nextAt (n : Dword) (s : State) : State := { s with next := n }

/-- A repeat prefix. -/
def repeated (r : Rep) (s : State) : State := { s with pfx := { s.pfx with rep := some r } }

/-- A flat 32-bit segment. -/
def flat (sel : Word) (typ : BitVec 4) (dpl : BitVec 2) : SegReg :=
  { sel := sel, base := 0#32, limit := 0xFFFFFFFF#32, typ := typ, s := true, dpl := dpl, p := true, db := true, g := true,
    valid := true }

/-- The bytes from an address on, as memory in canonical form. -/
def cells (a : Nat) : List Byte → List Host.Cell
  | [] => []
  | b :: bs => if b = 0#8 then cells (a + 1) bs else (a, b) :: cells (a + 1) bs

/-- The start of program P8 of 95_test_vectors.md: protected mode, CPL 0, its GDT (room for six entries) and its gate 13. -/
def prot : State :=
  { st with
    cr0 := { st.cr0 with pe := true }
    gdtr := { base := 0x1000#32, limit := 0x2F#16 }, idtr := { base := 0x2000#32, limit := 0x7FF#16 }
    cs := flat 8#16 0xB#4 0#2, ss := flat 0x10#16 3#4 0#2, ds := flat 0x10#16 3#4 0#2, es := flat 0x10#16 3#4 0#2
    eip := 0x10005#32, next := 0x10007#32, regs := { st.regs with esp := 0x20000#32 }
    mem := cells 0x1008 [0xFF, 0xFF, 0, 0, 0, 0x9A, 0xCF, 0, 0xFF, 0xFF, 0, 0, 0, 0x92, 0xCF, 0] ++
      cells 0x2068 [0, 0x30, 8, 0, 0, 0x8E, 0, 0] }

/-- The same at CPL 3, with a TSS at 4000 whose SS0:ESP0 is 0010:00020000 and whose permission map lies beyond its limit. -/
def user : State :=
  { prot with
    cpl := 3#2, cs := flat 0x1B#16 0xB#4 3#2, ss := flat 0x23#16 3#4 3#2
    tr := { SegReg.empty with sel := 0x18#16, base := 0x4000#32, limit := 0x67#32, typ := 0xB#4, p := true, valid := true }
    mem := prot.mem ++ cells 0x4004 [0, 0, 2, 0, 0x10, 0] ++ cells 0x4066 [0x68] }

/-- What `f` sees of the next state, if there is one. -/
def after {α : Type} (i : Instr) (s : State) (f : State → α) : Option α :=
  match exec i s with
  | .next t => some (f t)
  | .fault _ => none
  | .refused _ => none

/-- OF SF ZF AF PF CF. -/
def status (t : State) : BitVec 6 :=
  BitVec.ofBool t.flags.ov ++ BitVec.ofBool t.flags.sf ++ BitVec.ofBool t.flags.zf ++ BitVec.ofBool t.flags.af
    ++ BitVec.ofBool t.flags.pf ++ BitVec.ofBool t.flags.cf

theorem test_V1_1_aaa : after (.aaa) (st |> set .ax 0x000E#32)
    (fun t => (t.regs.eax, t.flags.af, t.flags.cf)) = some (0x0104#32, true, true) := by decide +kernel
theorem test_V1_3_aaa_af : after (.aaa) ((st |> set .ax 0x00F3#32) |> flags fun f => { f with af := true })
    (fun t => t.regs.eax) = some 0x0109#32 := by decide +kernel
theorem test_V1_4_aas : after (.aas) ((st |> set .ax 0x02FF#32) |> flags fun f => { f with af := true })
    (fun t => (t.regs.eax, t.flags.cf)) = some (0x0109#32, true) := by decide +kernel
theorem test_V1_6_aad : after (.aad) (st |> set .ax 0x0205#32)
    (fun t => (t.regs.eax, t.flags.pf)) = some (0x0019#32, false) := by decide +kernel
theorem test_V1_8_aam : after (.aam) (st |> set .ax 0x3F#32)
    (fun t => (t.regs.eax, t.flags.pf)) = some (0x0603#32, true) := by decide +kernel
theorem test_V1_10_daa : after (.daa) (st |> set .ax 0xAE#32)
    (fun t => (t.regs.eax, t.flags.af, t.flags.cf)) = some (0x14#32, true, true) := by decide +kernel
theorem test_V1_13_das : after (.das) ((st |> set .ax 0xEE#32) |> flags fun f => { f with af := true, cf := true })
    (fun t => (t.regs.eax, t.flags.af, t.flags.cf, t.flags.sf)) = some (0x88#32, true, true, true) := by decide +kernel
theorem test_V2_1_add : after (.addRm8R8 (.reg .ax) .bx) (st |> set .ax 0x7F#32 |> set .bx 1#32)
    (fun t => (t.regs.eax, status t)) = some (0x80#32, 0b110100#6) := by decide +kernel
theorem test_V2_6_add_extended : after (.addRmImm8 .s32 (.reg .ax) 1#8) (st |> set .ax 0xFFFFFFFF#32)
    (fun t => (t.regs.eax, status t)) = some (0#32, 0b001111#6) := by decide +kernel
theorem test_V2_9_adc :
    after (.adcRm8R8 (.reg .ax) .bx) ((st |> set .ax 0x7F#32 |> set .bx 0x7F#32) |> flags fun f => { f with cf := true })
    (fun t => (t.regs.eax, status t)) = some (0xFF#32, 0b110110#6) := by decide +kernel
theorem test_V2_13_sub : after (.subAccImm (.i16 1#16)) (st |> set .ax 0x8000#32)
    (fun t => (t.regs.eax, status t)) = some (0x7FFF#32, 0b100110#6) := by decide +kernel
theorem test_V2_15_sbb : after (.sbbAlImm8 0x0F#8) ((st |> set .ax 0x10#32) |> flags fun f => { f with cf := true })
    (fun t => (t.regs.eax, status t)) = some (0#32, 0b001110#6) := by decide +kernel
theorem test_V2_17_cmp : after (.cmpAlImm8 0xFF#8) (st |> set .ax 0x7F#32)
    (fun t => (t.regs.eax, status t)) = some (0x7F#32, 0b110001#6) := by decide +kernel
theorem test_V2_18_cmp_extended : after (.cmpRmImm8 .s16 (.reg .ax) 0xFF#8) (st |> set .ax 0xFFFF#32)
    (fun t => (t.regs.eax, status t)) = some (0xFFFF#32, 0b001010#6) := by decide +kernel
theorem test_V2_19_neg : after (.negRm8 (.reg .ax)) (st |> set .ax 0x80#32)
    (fun t => (t.regs.eax, status t)) = some (0x80#32, 0b110001#6) := by decide +kernel
theorem test_V2_22_inc : after (.incR .s16 .ax) ((st |> set .ax 0x7FFF#32) |> flags fun f => { f with cf := true })
    (fun t => (t.regs.eax, status t)) = some (0x8000#32, 0b110111#6) := by decide +kernel
theorem test_V2_24_dec : after (.decR .s16 .ax) (st |> set .ax 0#32)
    (fun t => (t.regs.eax, status t)) = some (0xFFFF#32, 0b010110#6) := by decide +kernel
theorem test_V2_27_add_high : after (.addRm8R8 (.reg .ax) .sp) (st |> set .ax 0x0102#32)
    (fun t => (t.regs.eax, status t)) = some (0x0103#32, 0b000010#6) := by decide +kernel
theorem test_V3_2_and : after (.andAccImm (.i16 0x0FF0#16)) (st |> set .ax 0xFF00#32)
    (fun t => (t.regs.eax, t.flags.sf, t.flags.zf, t.flags.pf, t.flags.cf, t.flags.ov)) =
      some (0x0F00#32, false, false, true, false, false) := by decide +kernel
theorem test_V3_9_and_extended : after (.andRmImm8 .s16 (.reg .ax) 0xF0#8) (st |> set .ax 0x1234#32)
    (fun t => (t.regs.eax, t.flags.sf, t.flags.zf, t.flags.pf, t.flags.cf, t.flags.ov)) =
      some (0x1230#32, false, false, true, false, false) := by decide +kernel
theorem test_V3_3_or : after (.orAlImm8 0x30#8) (st |> set .ax 5#32)
    (fun t => (t.regs.eax, t.flags.sf, t.flags.zf, t.flags.pf, t.flags.cf, t.flags.ov)) =
      some (0x35#32, false, false, true, false, false) := by decide +kernel
theorem test_V3_4_xor : after (.xorAlImm8 0xFF#8) (st |> set .ax 0x0F#32)
    (fun t => (t.regs.eax, t.flags.sf, t.flags.zf, t.flags.pf, t.flags.cf, t.flags.ov)) =
      some (0xF0#32, true, false, true, false, false) := by decide +kernel
theorem test_V3_6_test : after (.testAlImm8 0x80#8) (st |> set .ax 0x81#32)
    (fun t => (t.regs.eax, t.flags.sf, t.flags.zf, t.flags.pf, t.flags.cf, t.flags.ov)) =
      some (0x81#32, true, false, false, false, false) := by decide +kernel
theorem test_V3_8_not : after (.notRm .s16 (.reg .ax)) (st |> set .ax 0x00FF#32)
    (fun t => (t.regs.eax, decide (t.flags = st.flags))) = some (0xFF00#32, true) := by decide +kernel
theorem test_V4_1_bt : after (.btRmR .s16 (.reg .ax) .cx) (st |> set .ax 4#32 |> set .cx 0x12#32)
    (fun t => (t.regs.eax, t.flags.cf)) = some (4#32, true) := by decide +kernel
theorem test_V4_4_bt_below :
    after (.btRmR .s16 (.mem (.direct16 0x1000#16)) .ax) ((st |> set .ax 0xFFFF#32) |> bytes 0x20FFE [0, 0x80])
    (fun t => (t.regs.eax, t.flags.cf)) = some (0xFFFF#32, true) := by decide +kernel
theorem test_V4_6_btc : after (.btcRmImm8 .s16 (.reg .ax) 3#8) (st |> set .ax 8#32)
    (fun t => (t.regs.eax, t.flags.cf)) = some (0#32, true) := by decide +kernel
theorem test_V4_7_btr : after (.btrRmImm8 .s16 (.reg .ax) 0#8) (st |> set .ax 1#32)
    (fun t => (t.regs.eax, t.flags.cf)) = some (0#32, true) := by decide +kernel
theorem test_V4_9_bts_memory : after (.btsRmR .s16 (.mem (.direct16 0x1000#16)) .ax) (st |> set .ax 0x11#32)
    (fun t => (t.byte 0x21002, t.flags.cf)) = some (2#8, false) := by decide +kernel
theorem test_V4_10_bsf : after (.bsfRRm .s16 .ax (.reg .bx)) (st |> set .bx 0x28#32)
    (fun t => (t.regs.eax, t.flags.zf)) = some (3#32, false) := by decide +kernel
theorem test_V4_11_bsf_zero : after (.bsfRRm .s16 .ax (.reg .bx)) (st |> set .ax 7#32)
    (fun t => t.flags.zf) = some true := by decide +kernel
theorem test_V4_13_bsr : after (.bsrRRm .s32 .ax (.reg .bx)) (st |> set .bx 0x80000000#32)
    (fun t => (t.regs.eax, t.flags.zf)) = some (31#32, false) := by decide +kernel
theorem test_V5_3_mul : after (.mulRm .s32 (.reg .ax)) (st |> set .ax 0xFFFFFFFF#32)
    (fun t => (t.regs.edx, t.regs.eax, t.flags.cf, t.flags.ov)) =
      some (0xFFFFFFFE#32, 1#32, true, true) := by decide +kernel
theorem test_V5_4_imul : after (.imulRm8 (.reg .bx)) (st |> set .ax 0x80#32 |> set .bx 0xFF#32)
    (fun t => (t.regs.eax, t.flags.cf)) = some (0x80#32, true) := by decide +kernel
theorem test_V5_7_imul_imm : after (.imulRRmImm8 .s16 .ax (.reg .bx) 10#8) (st |> set .bx 0x4000#32)
    (fun t => (t.regs.eax, t.flags.cf)) = some (0x8000#32, true) := by decide +kernel
theorem test_V5_10_div : after (.divRm8 (.reg .bx)) (st |> set .ax 0x64#32 |> set .bx 7#32)
    (fun t => t.regs.eax) = some 0x020E#32 := by decide +kernel
theorem test_V5_11_div_overflow :
    after (.divRm8 (.reg .bx)) ((st |> set .ax 0x400#32 |> set .bx 2#32) |> bytes 0 [0x20, 0, 0x50, 0])
    (fun t => (t.regs.eax, t.eip, t.cs.sel, t.byte 0x300FA)) =
      some (0x400#32, 0x20#32, 0x50#16, 0#8) := by decide +kernel
theorem test_V5_13_idiv : after (.idivRm8 (.reg .bx)) (st |> set .ax 0xFFF9#32 |> set .bx 2#32)
    (fun t => t.regs.eax) = some 0xFFFD#32 := by decide +kernel
theorem test_V5_14_idiv_corner : after (.idivRm8 (.reg .bx)) (st |> set .ax 0x80#32 |> set .bx 0xFF#32)
    (fun t => t.regs.eax) = some 0x80#32 := by decide +kernel
theorem test_V6_1_shl : after (.salRm8One (.reg .ax)) (st |> set .ax 0x81#32)
    (fun t => (t.regs.eax, t.flags.cf, t.flags.ov)) = some (2#32, true, true) := by decide +kernel
theorem test_V6_3_shl_beyond : after (.salRm8Cl (.reg .ax)) (st |> set .ax 0xFF#32 |> set .cx 9#32)
    (fun t => (t.regs.eax, t.flags.cf)) = some (0#32, false) := by decide +kernel
theorem test_V6_6_sar : after (.sarRm8One (.reg .ax)) (st |> set .ax 0x81#32)
    (fun t => (t.regs.eax, t.flags.cf, t.flags.ov)) = some (0xC0#32, true, false) := by decide +kernel
theorem test_V6_9_sar_beyond : after (.sarRmImm8 .s16 (.reg .ax) 31#8) (st |> set .ax 0x8000#32)
    (fun t => (t.regs.eax, t.flags.cf)) = some (0xFFFF#32, true) := by decide +kernel
theorem test_V6_11_shr : after (.shrRm8One (.reg .ax)) (st |> set .ax 0x81#32)
    (fun t => (t.regs.eax, t.flags.cf, t.flags.ov)) = some (0x40#32, true, true) := by decide +kernel
theorem test_V6_13_shr_all : after (.shrRm8Imm8 (.reg .ax) 8#8) (st |> set .ax 0x80#32)
    (fun t => (t.regs.eax, t.flags.cf)) = some (0#32, true) := by decide +kernel
theorem test_V7_2_rol : after (.rolRmImm8 .s16 (.reg .ax) 4#8) (st |> set .ax 0x1234#32)
    (fun t => (t.regs.eax, t.flags.cf)) = some (0x2341#32, true) := by decide +kernel
theorem test_V7_4_rol_beyond : after (.rolRm8Imm8 (.reg .ax) 9#8) (st |> set .ax 0x81#32)
    (fun t => (t.regs.eax, t.flags.cf)) = some (0x03#32, true) := by decide +kernel
theorem test_V7_5_ror : after (.rorRm8One (.reg .ax)) (st |> set .ax 1#32)
    (fun t => (t.regs.eax, t.flags.cf, t.flags.ov)) = some (0x80#32, true, true) := by decide +kernel
theorem test_V7_9_rcl :
    after (.rclRm8Imm8 (.reg .ax) 2#8) ((st |> set .ax 1#32) |> flags fun f => { f with cf := true })
    (fun t => (t.regs.eax, t.flags.cf)) = some (6#32, false) := by decide +kernel
theorem test_V7_13_rcr : after (.rcrRm8One (.reg .ax)) ((st) |> flags fun f => { f with cf := true })
    (fun t => (t.regs.eax, t.flags.cf, t.flags.ov)) = some (0x80#32, false, true) := by decide +kernel
theorem test_V7_15_rcr_wide : after (.rcrRmOne .s32 (.reg .ax)) (st |> set .ax 1#32)
    (fun t => (t.regs.eax, t.flags.cf)) = some (0#32, true) := by decide +kernel
theorem test_V8_1_shld :
    after (.shldRmRImm8 .s32 (.reg .ax) .bx 8#8) (st |> set .ax 0x12345678#32 |> set .bx 0x9ABCDEF0#32)
    (fun t => (t.regs.eax, t.flags.cf)) = some (0x3456789A#32, false) := by decide +kernel
theorem test_V8_4_shrd :
    after (.shrdRmRImm8 .s32 (.reg .ax) .bx 4#8) (st |> set .ax 0x12345678#32 |> set .bx 0x9ABCDEF0#32)
    (fun t => (t.regs.eax, t.flags.cf)) = some (0x01234567#32, true) := by decide +kernel
theorem test_V8_5_shld_zero : after (.shldRmRCl .s32 (.reg .ax) .bx) (st |> set .ax 5#32 |> set .cx 0x20#32)
    (fun t => (t.regs.eax, decide (t.flags = st.flags))) = some (5#32, true) := by decide +kernel
theorem test_V9_3_mov_stack_segment :
    after (.movRRm .s16 .ax (.mem (.based16 .bp (.d8 4#8)))) ((st |> set .bp 0xF8#32) |> bytes 0x300FC [5, 0])
    (fun t => t.regs.eax) = some 5#32 := by decide +kernel
theorem test_V9_6_mov_high : after (.movR8Imm8 .sp 9#8) (st |> set .ax 0x1234#32)
    (fun t => t.regs.eax) = some 0x0934#32 := by decide +kernel
theorem test_V9_9_mov_beyond_limit :
    after (.movRRm .s16 .ax (.mem (.direct16 0xFFFF#16))) ((st) |> bytes 0x34 [0x78, 0x56, 0x34, 0x12])
    (fun t => (t.eip, t.cs.sel)) = some (0x5678#32, 0x1234#16) := by decide +kernel
theorem test_V9_11_movsx : after (.movsxRRm8 .s16 .ax (.reg .bx)) (st |> set .bx 0x80#32)
    (fun t => t.regs.eax) = some 0xFF80#32 := by decide +kernel
theorem test_V9_13_movzx : after (.movzxR32Rm16 .ax (.reg .bx)) (st |> set .ax 0x12345678#32 |> set .bx 0xAAAAFFFF#32)
    (fun t => t.regs.eax) = some 0xFFFF#32 := by decide +kernel
theorem test_V9_16_lea : after (.lea .s16 .ax (.mem (.sib 2#2 .bx .bx .none))) (st |> set .bx 0x00010007#32)
    (fun t => t.regs.eax) = some 0x0023#32 := by decide +kernel
theorem test_V9_17_lea_wraps :
    after (.lea .s32 .ax (.mem (.based16 .bxsi (.d8 5#8)))) (st |> set .ax 0xAAAAAAAA#32 |> set .bx 0xFFFF#32 |> set .si 1#32)
    (fun t => t.regs.eax) = some 5#32 := by decide +kernel
theorem test_V9_19_xchg : after (.xchgAccR .s16 .bx) (st |> set .ax 0x1111#32 |> set .bx 0x2222#32)
    (fun t => (t.regs.eax, t.regs.ebx)) = some (0x2222#32, 0x1111#32) := by decide +kernel
theorem test_V9_20_xchg_bytes : after (.xchgRm8R8 (.reg .ax) .sp) (st |> set .ax 0x1234#32)
    (fun t => t.regs.eax) = some 0x3412#32 := by decide +kernel
theorem test_V9_24_xlat_wraps : after (.xlat .s16) ((st |> set .ax 2#32 |> set .bx 0xFFFF#32) |> bytes 0x20001 [0x7A])
    (fun t => t.regs.eax) = some 0x7A#32 := by decide +kernel
theorem test_V9_25_cbw : after (.cbw .s16) (st |> set .ax 0x80#32)
    (fun t => t.regs.eax) = some 0xFF80#32 := by decide +kernel
theorem test_V9_28_cdq : after (.cwd .s32) (st |> set .ax 0x80000000#32)
    (fun t => t.regs.edx) = some 0xFFFFFFFF#32 := by decide +kernel
theorem test_V9_29_lahf : after (.lahf) ((st) |> flags fun f => { f with sf := true, af := true, cf := true })
    (fun t => t.regs.eax) = some 0x9300#32 := by decide +kernel
theorem test_V9_31_sahf :
    after (.sahf) ((st |> set .ax 0x2A00#32) |> flags fun f => { f with sf := true, zf := true, af := true, pf := true, cf := true, ov := true })
    (fun t => status t) = some 0b100000#6 := by decide +kernel
theorem test_V10_2_push_sp : after (.pushR .s16 .sp) (st)
    (fun t => (t.regs.esp, t.byte 0x300FE, t.byte 0x300FF)) = some (0xFE#32, 0#8, 1#8) := by decide +kernel
theorem test_V10_4_push_shutdown : after (.pushR .s16 .ax) (st |> set .sp 1#32)
    (fun t => (t.shutdown, t.regs.esp)) = some (true, 1#32) := by decide +kernel
theorem test_V10_10_pop_sp : after (.popR .s16 .sp) ((st) |> bytes 0x30100 [0x34, 0x12])
    (fun t => t.regs.esp) = some 0x1234#32 := by decide +kernel
theorem test_V10_12_pop_memory :
    after (.popMem .s16 (.direct16 0x2000#16)) ((st |> set .sp 0xFFE#32) |> bytes 0x30FFE [0xEF, 0xBE])
    (fun t => (t.regs.esp, t.byte 0x22000, t.byte 0x22001)) = some (0x1000#32, 0xEF#8, 0xBE#8) := by decide +kernel
theorem test_V10_13_pop_es : after (.popEs .s16) ((st) |> bytes 0x30100 [0, 0x30])
    (fun t => (t.es.sel, t.es.base, t.regs.esp)) = some (0x3000#16, 0x30000#32, 0x102#32) := by decide +kernel
theorem test_V10_15_pusha :
    after (.pusha .s16) (st |> set .sp 0x1000#32 |> set .ax 0#32 |> set .cx 1#32 |> set .dx 2#32 |> set .bx 3#32 |> set .bp 5#32 |> set .si 6#32 |> set .di 7#32)
    (fun t => (t.regs.esp, (List.range 16).map fun i => (t.byte (0x30FF0 + i)).toNat)) =
      some (0xFF0#32, [7, 0, 6, 0, 5, 0, 0, 0x10, 3, 0, 2, 0, 1, 0, 0, 0]) := by decide +kernel
theorem test_V10_16_popa :
    after (.popa .s16) ((st |> set .sp 0xFF0#32) |> bytes 0x30FF0 [7, 0, 6, 0, 5, 0, 0xAA, 0xAA, 3, 0, 2, 0, 1, 0, 9, 0])
    (fun t => (t.regs.esp, t.regs.eax, t.regs.edi, t.regs.ebx)) =
      some (0x1000#32, 9#32, 7#32, 3#32) := by decide +kernel
theorem test_V10_18_pushf : after (.pushf .s16) ((st) |> flags fun f => { f with cf := true, zf := true })
    (fun t => (t.byte 0x300FE, t.byte 0x300FF)) = some (0x43#8, 2#8) := by decide +kernel
theorem test_V10_20_popf : after (.popf .s16) ((st) |> bytes 0x30100 [0xFF, 0xFF])
    (fun t => eflags t.flags) = some 0x7FD7#32 := by decide +kernel
theorem test_V10_22_enter : after (.enter .s16 12#16 1#8) (st |> set .bp 0x200#32)
    (fun t => (t.regs.ebp, t.regs.esp, t.byte 0x300FF, t.byte 0x300FC)) =
      some (0xFE#32, 0xF0#32, 2#8, 0xFE#8) := by decide +kernel
theorem test_V10_23_leave : after (.leave .s16) ((st |> set .bp 0xFF0#32) |> bytes 0x30FF0 [0x34, 0x12])
    (fun t => (t.regs.ebp, t.regs.esp)) = some (0x1234#32, 0xFF2#32) := by decide +kernel
theorem test_V11_3_jmp_wraps : after (.jmpRel (.i16 0xF000#16)) ((st) |> nextAt 0x2003)
    (fun t => t.eip) = some 0x1003#32 := by decide +kernel
theorem test_V11_4_jmp_register :
    after (.jmpRm .s16 (.reg .bx)) ((st |> set .bp 1#32 |> set .bx 0x1234#32) |> nextAt 0x102)
    (fun t => t.eip) = some 0x1234#32 := by decide +kernel
theorem test_V11_5_jmp_far : after (.jmpFarPtr (.p16 0#16 0xFFFF#16)) (st)
    (fun t => (t.eip, t.cs.sel, t.cs.base)) = some (0#32, 0xFFFF#16, 0xFFFF0#32) := by decide +kernel
theorem test_V11_6_jz : after (.jeRel8 .s16 5#8) (((st) |> flags fun f => { f with zf := true }) |> nextAt 0x102)
    (fun t => t.eip) = some 0x107#32 := by decide +kernel
theorem test_V11_7_jl : after (.jlRel8 .s16 0x10#8) (((st) |> flags fun f => { f with sf := true }) |> nextAt 0x102)
    (fun t => t.eip) = some 0x112#32 := by decide +kernel
theorem test_V11_8_jg :
    after (.jgRel8 .s16 0x10#8) (((st) |> flags fun f => { f with sf := true, ov := true, zf := true }) |> nextAt 0x102)
    (fun t => t.eip) = some 0x102#32 := by decide +kernel
theorem test_V11_9_jbe : after (.jbeRel8 .s16 0x10#8) (((st) |> flags fun f => { f with zf := true }) |> nextAt 0x102)
    (fun t => t.eip) = some 0x112#32 := by decide +kernel
theorem test_V11_11_jcxz : after (.jcxz .s16 .s16 0x10#8) ((st |> set .cx 0x10000#32) |> nextAt 2)
    (fun t => t.eip) = some 0x12#32 := by decide +kernel
theorem test_V11_12_jecxz : after (.jcxz .s16 .s32 0x10#8) ((st |> set .cx 0x10000#32) |> nextAt 3)
    (fun t => t.eip) = some 3#32 := by decide +kernel
theorem test_V11_13_loop : after (.loop .s16 .s16 0xFE#8) ((st |> set .cx 3#32) |> nextAt 0x102)
    (fun t => (t.eip, t.regs.ecx)) = some (0x100#32, 2#32) := by decide +kernel
theorem test_V11_15_loope : after (.loope .s16 .s16 0xF0#8) ((st |> set .cx 5#32) |> nextAt 0x112)
    (fun t => (t.eip, t.regs.ecx)) = some (0x112#32, 4#32) := by decide +kernel
theorem test_V11_16_loopne : after (.loopne .s16 .s16 0xF0#8) ((st |> set .cx 5#32) |> nextAt 0x112)
    (fun t => (t.eip, t.regs.ecx)) = some (0x102#32, 4#32) := by decide +kernel
theorem test_V11_17_call : after (.callRel (.i16 0xFFFD#16)) ((st |> set .sp 0x2000#32) |> nextAt 0x103)
    (fun t => (t.eip, t.regs.esp, t.byte 0x31FFE, t.byte 0x31FFF)) =
      some (0x100#32, 0x1FFE#32, 3#8, 1#8) := by decide +kernel
theorem test_V11_19_call_far : after (.callFarPtr (.p16 0x1000#16 0xF000#16)) (st |> nextAt 0x55)
    (fun t => (t.eip, t.cs.sel, t.byte 0x300FF, t.byte 0x300FC)) =
      some (0x1000#32, 0xF000#16, 0x10#8, 0x55#8) := by decide +kernel
theorem test_V11_21_ret_imm : after (.retNearImm .s16 4#16) ((st |> set .sp 0xFC#32) |> bytes 0x300FC [0x23, 1])
    (fun t => (t.eip, t.regs.esp)) = some (0x123#32, 0x102#32) := by decide +kernel
theorem test_V11_22_retf : after (.retFar .s16) ((st |> set .sp 0xF8#32) |> bytes 0x300F8 [0x10, 0, 0, 0x20])
    (fun t => (t.eip, t.cs.sel, t.regs.esp)) = some (0x10#32, 0x2000#16, 0xFC#32) := by decide +kernel
theorem test_V11_23_int : after (.intImm8 0x21#8) ((st |> set .sp 0x200#32) |> bytes 0x84 [0x78, 0x56, 0x34, 0x12])
    (fun t => (t.eip, t.cs.sel, t.regs.esp, t.flags.ie, (List.range 6).map fun i => (t.byte (0x301FA + i)).toNat)) =
      some (0x5678#32, 0x1234#16, 0x1FA#32, false, [2, 1, 0, 0x10, 2, 2]) := by decide +kernel
theorem test_V11_24_int3 : after (.int3) ((st |> nextAt 0x101) |> bytes 0x0C [0x78, 0x56, 0x34, 0x12])
    (fun t => (t.eip, t.cs.sel, t.byte 0x300FA)) = some (0x5678#32, 0x1234#16, 1#8) := by decide +kernel
/-- 42_i.md R287 with 10_state.md R39: in Real Address Mode a delivery clears IF and TF, and NT stays. -/
theorem test_int3_real_keeps_nt : after (.int3) (st |> nextAt 0x101 |> flags fun f => { f with nt := true, tf := true })
    (fun t => (t.flags.nt, t.flags.ie, t.flags.tf)) = some (true, false, false) := by decide +kernel
theorem test_V11_25_into : after (.into) ((st) |> nextAt 0x101)
    (fun t => t.eip) = some 0x101#32 := by decide +kernel
theorem test_V11_27_iret :
    after (.iret .s16) ((st |> set .sp 0x1FA#32) |> bytes 0x301FA [0x78, 0x56, 0x34, 0x12, 2, 2])
    (fun t => (t.eip, t.cs.sel, eflags t.flags, t.regs.esp)) =
      some (0x5678#32, 0x1234#16, 0x202#32, 0x200#32) := by decide +kernel
theorem test_V11_28_bound :
    after (.bound .s16 .ax (.mem (.direct16 0x1000#16))) (((st |> set .ax 0xA#32) |> bytes 0x14 [0x78, 0x56, 0x34, 0x12]) |> bytes 0x21000 [0, 0, 9, 0])
    (fun t => (t.eip, t.cs.sel)) = some (0x5678#32, 0x1234#16) := by decide +kernel
theorem test_V11_30_bound_signed :
    after (.bound .s16 .ax (.mem (.direct16 0x1000#16))) (((st |> set .ax 0xFFFF#32) |> bytes 0x21000 [0xFE, 0xFF, 2, 0]) |> nextAt 0x104)
    (fun t => t.eip) = some 0x104#32 := by decide +kernel
theorem test_V12_1_movsw :
    after (.movsw .s16 .s16) ((st |> set .si 0x100#32 |> set .di 0x200#32) |> bytes 0x20100 [0x34, 0x12])
    (fun t => (t.byte 0x20200, t.byte 0x20201, t.regs.esi, t.regs.edi)) =
      some (0x34#8, 0x12#8, 0x102#32, 0x202#32) := by decide +kernel
theorem test_V12_2_movsb_down :
    after (.movsb .s16) (((st |> set .si 0x100#32 |> set .di 0x200#32) |> flags fun f => { f with df := true }) |> bytes 0x20100 [0x34])
    (fun t => (t.byte 0x20200, t.regs.esi, t.regs.edi)) = some (0x34#8, 0xFF#32, 0x1FF#32) := by decide +kernel
theorem test_V12_5_cmpsb :
    after (.cmpsb .s16) (((st |> set .si 0x100#32 |> set .di 0x200#32) |> bytes 0x20100 [0x4C]) |> bytes 0x20200 [0x58])
    (fun t => (status t, t.regs.esi)) = some (0b010001#6, 0x101#32) := by decide +kernel
theorem test_V12_6_scasb : after (.scasb .s16) ((st |> set .ax 0x41#32 |> set .di 0x200#32) |> bytes 0x20200 [0x42])
    (fun t => (t.flags.cf, t.flags.sf, t.flags.zf, t.regs.edi)) =
      some (true, true, false, 0x201#32) := by decide +kernel
theorem test_V12_7_lodsw :
    after (.lodsw .s16 .s16) (((st |> set .si 0x10#32) |> flags fun f => { f with df := true }) |> bytes 0x20010 [0x78, 0x56])
    (fun t => (t.regs.eax, t.regs.esi)) = some (0x5678#32, 0xE#32) := by decide +kernel
theorem test_V12_8_stosw : after (.stosw .s16 .s16) (st |> set .ax 0x1234#32 |> set .di 0x100#32)
    (fun t => (t.byte 0x20100, t.byte 0x20101, t.regs.edi)) = some (0x34#8, 0x12#8, 0x102#32) := by decide +kernel
theorem test_V12_9_insb : after (.insb .s16) (st |> set .dx 0x3F8#32 |> set .di 0x100#32)
    (fun t => (t.regs.edi, t.ioLog.length)) = some (0x101#32, 1) := by decide +kernel
theorem test_V12_10_outsb : after (.outsb .s16) ((st |> set .dx 0x3F8#32 |> set .si 0x100#32) |> bytes 0x20100 [0x41])
    (fun t => (t.ioLog, t.regs.esi)) = some ([.write 0x3F8#16 .b8 0x41#32], 0x101#32) := by decide +kernel
theorem test_V12_11_rep_movsb :
    after (.movsb .s16) (((st |> set .cx 3#32 |> set .si 0x100#32 |> set .di 0x200#32) |> repeated .repe) |> bytes 0x20100 [0x34])
    (fun t => (t.eip, t.regs.ecx, t.byte 0x20200, t.regs.esi)) =
      some (0x100#32, 2#32, 0x34#8, 0x101#32) := by decide +kernel
theorem test_V12_13_repe_cmpsb_ends :
    after (.cmpsb .s16) (((st |> set .cx 3#32 |> set .si 0x100#32 |> set .di 0x200#32) |> repeated .repe) |> bytes 0x20100 [0x34])
    (fun t => (t.eip, t.regs.ecx, t.flags.zf)) = some (0x102#32, 2#32, false) := by decide +kernel
theorem test_V13_1_cmc : after (.cmc) ((st) |> flags fun f => { f with cf := true })
    (fun t => t.flags.cf) = some false := by decide +kernel
theorem test_V13_1_stc : after (.stc) (st)
    (fun t => t.flags.cf) = some true := by decide +kernel
theorem test_V13_1_clc : after (.clc) ((st) |> flags fun f => { f with cf := true })
    (fun t => t.flags.cf) = some false := by decide +kernel
theorem test_V13_2_cld : after (.cld) ((st) |> flags fun f => { f with df := true })
    (fun t => t.flags.df) = some false := by decide +kernel
theorem test_V13_2_std : after (.std) (st)
    (fun t => t.flags.df) = some true := by decide +kernel
theorem test_V13_3_cli : after (.cli) (st)
    (fun t => t.flags.ie) = some false := by decide +kernel
theorem test_V13_6_sti : after (.sti) ((st) |> flags fun f => { f with ie := false })
    (fun t => (t.flags.ie, t.inhibit)) = some (true, .sti) := by decide +kernel
theorem test_V13_8_sete : after (.sete (.reg .ax)) ((st) |> flags fun f => { f with zf := true })
    (fun t => t.regs.eax) = some 1#32 := by decide +kernel
theorem test_V13_9_setl : after (.setl (.reg .ax)) ((st) |> flags fun f => { f with sf := true })
    (fun t => t.regs.eax) = some 1#32 := by decide +kernel
theorem test_V14_1_mov_ds : after (.movSregRm 3#3 (.reg .ax)) (st |> set .ax 0x4000#32)
    (fun t => (t.ds.sel, t.ds.base)) = some (0x4000#16, 0x40000#32) := by decide +kernel
theorem test_V13_7_mov_ss_shadow : after (.movSregRm 2#3 (.reg .ax)) (st |> set .ax 0x4000#32)
    (fun t => (t.ss.sel, t.inhibit)) = some (0x4000#16, .all) := by decide +kernel
theorem test_V14_2_mov_cs : after (.movSregRm 1#3 (.reg .ax)) ((st) |> bytes 0x18 [0x78, 0x56, 0x34, 0x12])
    (fun t => (t.eip, t.cs.sel)) = some (0x5678#32, 0x1234#16) := by decide +kernel
theorem test_V14_4_mov_null : after (.movSregRm 3#3 (.reg .ax)) (prot)
    (fun t => (t.ds.sel, t.ds.valid)) = some (0#16, false) := by decide +kernel
theorem test_V14_5_mov_from_ds : after (.movRmSreg .s16 (.reg .ax) 3#3) (st |> set .ax 0x12345678#32)
    (fun t => t.regs.eax) = some 0x12342000#32 := by decide +kernel
theorem test_V14_6_lds :
    after (.lds .s16 .si (.mem (.direct16 0x200#16))) ((st) |> bytes 0x20200 [0x34, 0x12, 0, 0xB8])
    (fun t => (t.regs.esi, t.ds.sel, t.ds.base)) = some (0x1234#32, 0xB800#16, 0xB8000#32) := by decide +kernel
theorem test_V14_7_les :
    after (.les .s16 .di (.mem (.direct16 0x200#16))) ((st) |> bytes 0x20200 [0x34, 0x12, 0, 0xB8])
    (fun t => (t.regs.edi, t.es.sel)) = some (0x1234#32, 0xB800#16) := by decide +kernel
theorem test_V14_8_lss : after (.lss .s16 .sp (.mem (.direct16 0x200#16))) ((st) |> bytes 0x20200 [0, 1, 0, 0x30])
    (fun t => (t.regs.esp, t.ss.sel)) = some (0x100#32, 0x3000#16) := by decide +kernel
theorem test_V14_10_arpl : after (.arplRmR (.reg .ax) .cx) (prot |> set .ax 0x10#32 |> set .cx 0x23#32)
    (fun t => (t.regs.eax, t.flags.zf)) = some (0x13#32, true) := by decide +kernel
theorem test_V14_11_arpl_no : after (.arplRmR (.reg .ax) .cx) (prot |> set .ax 0x13#32 |> set .cx 0x20#32)
    (fun t => (t.regs.eax, t.flags.zf)) = some (0x13#32, false) := by decide +kernel
theorem test_V15_1_lgdt :
    after (.lgdt .s16 (.mem (.direct16 0x100#16))) ((st) |> bytes 0x20100 [0xFF, 3, 0, 0x10, 0x20, 0x99])
    (fun t => t.gdtr) = some { base := 0x00201000#32, limit := 0x03FF#16 } := by decide +kernel
theorem test_V15_2_lgdt_wide :
    after (.lgdt .s32 (.mem (.direct16 0x100#16))) ((st) |> bytes 0x20100 [0xFF, 3, 0, 0x10, 0x20, 0x99])
    (fun t => t.gdtr) = some { base := 0x99201000#32, limit := 0x03FF#16 } := by decide +kernel
theorem test_V15_3_lidt :
    after (.lidt .s16 (.mem (.direct16 0x100#16))) ((st) |> bytes 0x20100 [0xFF, 3, 0, 0x10, 0x20, 0x99])
    (fun t => t.idtr) = some { base := 0x00201000#32, limit := 0x03FF#16 } := by decide +kernel
theorem test_V15_4_sgdt :
    after (.sgdt .s32 (.mem (.direct16 0x1000#16))) ({ st with gdtr := { base := 0x00012340#32, limit := 0xFF#16 } })
    (fun t => (List.range 6).map fun i => (t.byte (0x21000 + i)).toNat) =
      some [0xFF, 0, 0x40, 0x23, 1, 0] := by decide +kernel
theorem test_V15_5_sidt :
    after (.sidt .s16 (.mem (.direct16 0x1000#16))) ({ st with idtr := { base := 0x12345678#32, limit := 0x7FF#16 } })
    (fun t => (List.range 6).map fun i => (t.byte (0x21000 + i)).toNat) =
      some [0xFF, 7, 0x78, 0x56, 0x34, 0] := by decide +kernel
theorem test_V15_8_lmsw : after (.lmsw (.reg .ax)) (prot)
    (fun t => t.cr0.pe) = some true := by decide +kernel
theorem test_V15_9_smsw : after (.smsw (.reg .ax)) (prot)
    (fun t => t.regs.eax &&& 0xFFEF#32) = some 1#32 := by decide +kernel
theorem test_V15_10_mov_cr0 : after (.movCrR .cr0 .ax) (st |> set .ax 0x11#32)
    (fun t => (t.cr0.pe, t.cs.sel, t.queue.jumpNeeded)) = some (true, 0x1000#16, true) := by decide +kernel
theorem test_V15_11_mov_cr0_user : after (.movCrR .cr0 .ax) (user)
    (fun t => (t.eip, t.cr0.pe, t.regs.esp)) = some (0x3000#32, true, 0x1FFE8#32) := by decide +kernel
theorem test_V15_12_clts : after (.clts) ({ prot with cr0 := { prot.cr0 with ts := true } })
    (fun t => t.cr0.ts) = some false := by decide +kernel
theorem test_V15_13_lldt :
    after (.lldt (.reg .ax)) ((prot |> set .ax 0x28#32) |> bytes 0x1028 [0xFF, 0, 0, 0, 3, 0x82, 0, 0])
    (fun t => (t.ldtr.sel, t.ldtr.base, t.ldtr.limit)) = some (0x28#16, 0x30000#32, 0xFF#32) := by decide +kernel
theorem test_V15_14_ltr :
    after (.ltr (.reg .ax)) ((prot |> set .ax 0x18#32) |> bytes 0x1018 [0x67, 0, 0, 0x40, 0, 0x89, 0, 0])
    (fun t => (t.tr.sel, t.tr.base, t.tr.typ, t.byte 0x101D)) =
      some (0x18#16, 0x4000#32, 0xB#4, 0x8B#8) := by decide +kernel
theorem test_V15_15_sldt : after (.sldt (.reg .ax)) ({ prot with ldtr := { prot.ldtr with sel := 0x28#16 } })
    (fun t => t.regs.eax) = some 0x28#32 := by decide +kernel
theorem test_V15_15_str : after (.str (.reg .ax)) ({ prot with tr := { prot.tr with sel := 0x30#16 } })
    (fun t => t.regs.eax) = some 0x30#32 := by decide +kernel
theorem test_V15_16_lar : after (.larRRm .s32 .ax (.reg .bx)) (prot |> set .bx 8#32)
    (fun t => (t.flags.zf, t.regs.ebx)) = some (true, 8#32) := by decide +kernel
theorem test_V15_17_lsl :
    after (.lslRRm .s32 .ax (.reg .bx)) ((prot |> set .bx 0x18#32) |> bytes 0x1018 [0xFF, 3, 0, 0, 0, 0x92, 0x80, 0])
    (fun t => (t.regs.eax, t.flags.zf)) = some (0x003FFFFF#32, true) := by decide +kernel
theorem test_V15_18_verr : after (.verr (.reg .ax)) (user |> set .ax 8#32)
    (fun t => t.flags.zf) = some false := by decide +kernel
theorem test_V15_19_verw :
    after (.verw (.reg .ax)) ((user |> set .ax 0x1B#32) |> bytes 0x1018 [0xFF, 3, 0, 0, 0, 0xF2, 0x80, 0])
    (fun t => t.flags.zf) = some true := by decide +kernel
theorem test_V15_20_hlt : after (.hlt) (st |> nextAt 0x101)
    (fun t => (t.halted, t.eip)) = some (true, 0x101#32) := by decide +kernel
theorem test_V15_21_wait : after (.wait) (({ st with cr0 := { st.cr0 with ts := true } }) |> nextAt 0x101)
    (fun t => t.eip) = some 0x101#32 := by decide +kernel
theorem test_V15_22_mov_dr : after (.movDrR .dr0 .ax) (st |> set .ax 0x12345#32)
    (fun t => t.dr0) = some 0x12345#32 := by decide +kernel
theorem test_mov_tr : after (.movTrR .tr6 .ax) (st |> set .ax 0x12345#32)
    (fun t => t.tr6) = some 0x12345#32 := by decide +kernel
theorem test_mov_from_cr3 : after (.movRCr .bx .cr3) ({ st with cr3 := 0x5000#32 })
    (fun t => t.regs.ebx) = some 0x5000#32 := by decide +kernel
theorem test_V16_1_in : after (.inAlImm8 0x60#8) (st |> set .ax 0x1200#32)
    (fun t => t.ioLog.length) = some 1 := by decide +kernel
theorem test_V16_3_out : after (.outImm8Al 0x80#8) (st |> set .ax 0x55#32)
    (fun t => t.ioLog) = some [.write 0x80#16 .b8 0x55#32] := by decide +kernel
theorem test_V16_5_in_denied : after (.inAlDx) (user |> set .dx 0x3F8#32)
    (fun t => (t.eip, t.ioLog)) = some (0x3000#32, []) := by decide +kernel
theorem test_V17_1_lock_nop :
    after (.nop) (({ st with pfx := { st.pfx with lock := true } }) |> bytes 0x18 [0x78, 0x56, 0x34, 0x12])
    (fun t => (t.eip, t.cs.sel)) = some (0x5678#32, 0x1234#16) := by decide +kernel
theorem test_V17_2_lock_bts :
    after (.btsRmR .s16 (.mem (.direct16 0x1000#16)) .ax) ({ st with pfx := { st.pfx with lock := true } })
    (fun t => t.byte 0x21000) = some 1#8 := by decide +kernel
theorem test_V18_3_gp_gate :
    after (.movSregRm 3#3 (.reg .ax)) ({ prot with gdtr := { prot.gdtr with limit := 0x17#16 } } |> set .ax 0x18#32)
    (fun t => (t.eip, t.regs.esp, t.ds.sel, t.flags.ie)) =
      some (0x3000#32, 0x1FFF0#32, 0x10#16, false) := by decide +kernel
theorem test_esc_unavailable :
    after (.esc 0#3) (({ st with cr0 := { st.cr0 with em := true } }) |> bytes 0x1C [0x78, 0x56, 0x34, 0x12])
    (fun t => (t.eip, t.cs.sel)) = some (0x5678#32, 0x1234#16) := by decide +kernel

/-! ## Concrete states and operands that meet the hypotheses of each statement -/

open Sys2Proof.Claims

theorem accepts {s : State} (h : s.pfx = Prefixes.none) (l : Bool) : Accepts s l := by
  unfold Accepts; rw [h]; exact ⟨fun h => absurd h (by decide), rfl⟩

theorem opened {s : State} {r : Sreg} {off : Dword} {n : Nat} {wr : Bool} (hp : s.cr0.pg = false)
    (h : s.accessExc r off n wr = none) : OpensMem s r off n wr (spanOf (s.linear r off) n) s := openMem_off hp h

theorem unopened {s : State} {r : Sreg} {off : Dword} {n : Nat} {wr : Bool} {e : Exc} (h : s.accessExc r off n wr = some e) :
    FailsMem s r off n wr e s := openMem_exc h

/-- The test state with LOCK. -/
def locked : State := { st with pfx := { Prefixes.none with lock := true } }

theorem witness_AluOperations_memory :
    Accepts locked true ∧ Opens (begun locked) .b16 (.mem (.direct16 0xFFFE#16)) true (.mem [0x2FFFE, 0x2FFFF]) (begun locked) :=
  ⟨⟨fun _ => rfl, rfl⟩, openRm_mem_off rfl rfl (by decide +kernel)⟩

theorem witness_AluOperations_register :
    Accepts st false ∧ Opens (begun st) .b8 (.mem (.direct16 0xFFFF#16)) false (.mem [0x2FFFF]) (begun st) :=
  ⟨accepts rfl _, openRm_mem_off rfl rfl (by decide +kernel)⟩

theorem witness_UnaryOperations :
    Accepts locked true ∧ Opens (begun locked) .b32 (.mem (.direct16 0xFFFC#16)) true
      (.mem [0x2FFFC, 0x2FFFD, 0x2FFFE, 0x2FFFF]) (begun locked) :=
  ⟨⟨fun _ => rfl, rfl⟩, openRm_mem_off rfl rfl (by decide +kernel)⟩

theorem witness_TestFlags : Accepts st false ∧ Opens (begun st) .b8 (.reg .ax) false (.reg .ax) (begun st) :=
  ⟨accepts rfl _, rfl⟩

theorem witness_Multiplication : Accepts st false ∧ Opens (begun st) .b16 (.reg .bx) false (.reg .bx) (begun st) :=
  ⟨accepts rfl _, rfl⟩

/-- AX and BX set. -/
def axbx (a b : Dword) : State := st |> set .ax a |> set .bx b

theorem witness_Division_completes :
    Accepts (axbx 0x1FF 2) false ∧ Opens (begun (axbx 0x1FF 2)) .b8 (.reg .bx) false (.reg .bx) (begun (axbx 0x1FF 2)) ∧
      divFits (begun (axbx 0x1FF 2)) .b8 (at' (begun (axbx 0x1FF 2)) .b8 (.reg .bx)) ∧
      idivFits (begun (axbx 0x80 0xFF)) .b8 (at' (begun (axbx 0x80 0xFF)) .b8 (.reg .bx)) :=
  ⟨accepts rfl _, rfl, by unfold divFits; decide +kernel, by unfold idivFits; decide +kernel⟩

theorem witness_Division_traps :
    Accepts (axbx 0x200 2) false ∧ Opens (begun (axbx 0x200 2)) .b8 (.reg .bx) false (.reg .bx) (begun (axbx 0x200 2)) ∧
      ¬ divFits (begun (axbx 0x200 2)) .b8 (at' (begun (axbx 0x200 2)) .b8 (.reg .bx)) ∧
      ¬ idivFits (begun (axbx 0xFF80 0xFF)) .b8 (at' (begun (axbx 0xFF80 0xFF)) .b8 (.reg .bx)) :=
  ⟨accepts rfl _, rfl, by unfold divFits; decide +kernel, by unfold idivFits; decide +kernel⟩

theorem witness_DecimalAdjustment : Accepts st false := accepts rfl _

theorem witness_ShiftsAndRotates : Accepts st false ∧ Opens (begun st) .b8 (.reg .ax) true (.reg .ax) (begun st) :=
  ⟨accepts rfl _, rfl⟩

theorem witness_DoubleShiftCompletes : Accepts st false ∧ Opens (begun st) .b16 (.reg .ax) true (.reg .ax) (begun st) :=
  ⟨accepts rfl _, rfl⟩

/-- A bit offset of -1 from address 2 selects the word at 0. -/
theorem witness_BitTests :
    Accepts locked true ∧ Opens (begun locked) .b16 (.mem (.direct16 0xFFFE#16)) true (.mem [0x2FFFE, 0x2FFFF]) (begun locked) ∧
      Addressed (begun (set .ax 0xFFFF#32 st)) (.direct16 2#16) .ds 2#32 (begun (set .ax 0xFFFF#32 st)) ∧
      OpensMem (begun (set .ax 0xFFFF#32 st)) .ds
        (truncSz .s16 (2#32 + BitVec.ofInt 32 (((set .ax 0xFFFF#32 st).reg .b16 .ax).toInt / Sz.s16.bits * Sz.s16.bytes)))
        2 true [0x20000, 0x20001] (begun (set .ax 0xFFFF#32 st)) :=
  ⟨⟨fun _ => rfl, rfl⟩, openRm_mem_off rfl rfl (by decide +kernel), rfl, opened rfl (by decide +kernel)⟩

theorem witness_BitScans :
    Accepts st false ∧ Opens (begun st) .b16 (.reg .bx) false (.reg .bx) (begun st) ∧ at' (begun st) .b16 (.reg .bx) = 0#_ ∧
      (let v := at' (begun (axbx 0 0x8000)) .b16 (.reg .bx)
       v.getLsbD 15 = true ∧ ∀ j, j < 15 → v.getLsbD j = false) ∧
      (let v := at' (begun (axbx 0 1)) .b16 (.reg .bx)
       v.getLsbD 0 = true ∧ ∀ j, 0 < j → v.getLsbD j = false) := by
  refine ⟨accepts rfl _, rfl, by decide +kernel, by decide +kernel, by decide +kernel, fun j hj => ?_⟩
  show (1#16 : BitVec 16).getLsbD j = false
  rcases Nat.lt_or_ge j 16 with h | h
  · interval_cases j <;> rfl
  · exact BitVec.getLsbD_of_ge _ _ h

theorem witness_Moves :
    Accepts st false ∧ Opens (begun st) .b16 (.mem (.direct16 0xFFFE#16)) true (.mem [0x2FFFE, 0x2FFFF]) (begun st) ∧
      OpensMem (begun st) (st.dataSeg .ds) (immValue (.i16 0xFFFF#16)) 1 false [0x2FFFF] (begun st) ∧
      OpensMem (begun st) (st.dataSeg .ds) (immValue (.i16 0xFFFE#16)) 2 true [0x2FFFE, 0x2FFFF] (begun st) :=
  ⟨accepts rfl _, openRm_mem_off rfl rfl (by decide +kernel), opened rfl (by decide +kernel), opened rfl (by decide +kernel)⟩

theorem witness_AddressAndExchange :
    Accepts locked true ∧ Opens (begun locked) .b8 (.mem (.direct16 0#16)) true (.mem [0x20000]) (begun locked) ∧
      Accepts st false ∧ Addressed (begun st) (.based16 .bx .none) .ds 0#32 (begun st) ∧
      OpensMem (begun (axbx 0xFF 0xFF01)) ((axbx 0xFF 0xFF01).dataSeg .ds)
        (truncSz .s16 (((axbx 0xFF 0xFF01).reg .b16 .bx).setWidth 32 + ((axbx 0xFF 0xFF01).reg .b8 .ax).setWidth 32)) 1 false
        [0x20000] (begun (axbx 0xFF 0xFF01)) :=
  ⟨⟨fun _ => rfl, rfl⟩, openRm_mem_off rfl rfl (by decide +kernel), accepts rfl _, rfl, opened rfl (by decide +kernel)⟩

theorem witness_Conversions : Accepts st false := accepts rfl _

theorem witness_ConditionsAndSets : Accepts st false ∧ Opens (begun st) .b8 (.reg .sp) true (.reg .sp) (begun st) :=
  ⟨accepts rfl _, rfl⟩

/-- The bounds -1 and 1 at DS:FFFC, the last address whose two words lie within the limit. -/
def bounds (index : Dword) : State := st |> set .ax index |> bytes 0x2FFFC [0xFF, 0xFF, 1, 0]

theorem witness_Bound :
    Accepts (bounds 0xFFFF) false ∧ Addressed (begun (bounds 0xFFFF)) (.direct16 0xFFFC#16) .ds 0xFFFC#32 (begun (bounds 0xFFFF)) ∧
      ReadsParts (begun (bounds 0xFFFF)) .ds 0xFFFC#32 2 2 [0xFF, 0xFF] [1, 0] (begun (bounds 0xFFFF)) ∧
      (let lower : BitVec 16 := leValue _ [0xFF, 0xFF]
       let upper : BitVec 16 := leValue _ [1, 0]
       let index (v : Dword) : BitVec 16 := ((bounds v).reg .b32 .ax).setWidth _
       (lower.toInt ≤ (index 0xFFFF).toInt ∧ (index 0xFFFF).toInt ≤ upper.toInt) ∧
         (lower.toInt ≤ (index 1).toInt ∧ (index 1).toInt ≤ upper.toInt) ∧
         (index 0xFFFE).toInt < lower.toInt ∧ upper.toInt < (index 2).toInt) :=
  ⟨accepts rfl _, rfl, ⟨_, _, _, opened rfl (by decide +kernel), openTail_off rfl (by decide +kernel), by decide +kernel,
    by decide +kernel⟩, by decide +kernel⟩

/-- V86 mode with the given IOPL. -/
def v86 (iopl : BitVec 2) : State :=
  { st with cr0 := { st.cr0 with pe := true }, cpl := 3#2, flags := { st.flags with vm := true, iopl := iopl } }

/-- In V86 mode with IOPL 2 PUSHF, POPF, INT n and IRET trap. -/
theorem witness_sensitive_v86 :
    Accepts (v86 2#2) false ∧ (v86 2#2).mode = .v86 ∧ (v86 2#2).flags.iopl ≠ 3#2 ∧ ¬ FlagsAllowed (v86 2#2) ∧
      FlagsAllowed (v86 3#2) := by
  refine ⟨accepts rfl _, rfl, by decide, fun h => absurd (h rfl) (by decide), fun _ => rfl⟩

/-- The test state with another stack pointer. -/
def stackAt (sp : Dword) : State := set .sp sp st

theorem witness_Pushes :
    Accepts (stackAt 0) false ∧ FlagsAllowed (stackAt 0) ∧
      OpensMem (withFlags (begun (stackAt 0)) 0 (stackAt 0).flags) .ss (below (stackAt 0) .s16 1) 2 true [0x3FFFE, 0x3FFFF]
        (withFlags (begun (stackAt 0)) 0 (stackAt 0).flags) ∧
      Addressed (begun (stackAt 0)) (.direct16 0xFFFE#16) .ds 0xFFFE#32 (begun (stackAt 0)) ∧
      OpensMem (begun (stackAt 0)) .ds 0xFFFE#32 2 false [0x2FFFE, 0x2FFFF] (begun (stackAt 0)) ∧
      OpensMem (begun (stackAt 0)) .ss (below (begun (stackAt 0)) .s16 1) 2 true [0x3FFFE, 0x3FFFF] (begun (stackAt 0)) ∧
      (stackAt 16).cr0.pg = false ∧ Room (begun (stackAt 16)) .s16 8 :=
  ⟨accepts rfl _, fun h => absurd h (by decide +kernel), opened rfl (by decide +kernel), rfl, opened rfl (by decide +kernel),
    opened rfl (by decide +kernel), rfl, by unfold Room; decide +kernel⟩

/-- SP = 1 and an operand at DS:FFFF; PUSHA with room for three words only. -/
theorem witness_Pushes_fails :
    FailsMem (withFlags (begun (stackAt 1)) 0 (stackAt 1).flags) .ss (below (stackAt 1) .s16 1) 2 true (excGP 0#16)
        (withFlags (begun (stackAt 1)) 0 (stackAt 1).flags) ∧
      Addressed (begun st) (.direct16 0xFFFF#16) .ds 0xFFFF#32 (begun st) ∧
      FailsMem (begun st) .ds 0xFFFF#32 2 false (excGP 0#16) (begun st) ∧
      OpensMem (begun (stackAt 1)) .ds 0#32 2 false [0x20000, 0x20001] (begun (stackAt 1)) ∧
      FailsMem (begun (stackAt 1)) .ss (below (begun (stackAt 1)) .s16 1) 2 true (excGP 0#16) (begun (stackAt 1)) ∧
      Room (begun (stackAt 7)) .s16 3 ∧
      (begun (stackAt 7)).accessExc .ss (below (begun (stackAt 7)) .s16 (3 + 1)) 2 true = some (excGP 0#16) :=
  ⟨unopened (by decide +kernel), rfl, unopened (by decide +kernel), opened rfl (by decide +kernel), unopened (by decide +kernel),
    by unfold Room; decide +kernel, by decide +kernel⟩

/-- A word and the eight words of POPA one byte beyond SS; POP to DS:FFFF. -/
theorem witness_Pops_fails :
    FailsMem (begun (stackAt 0xFFFF)) .ss (stackAt 0xFFFF).sp 2 false (excGP 0#16) (begun (stackAt 0xFFFF)) ∧
      FailsMem (begun (stackAt 0xFFF1)) .ss (stackAt 0xFFF1).sp (8 * 2) false (excGP 0#16) (begun (stackAt 0xFFF1)) ∧
      (let b := raised (begun (stackAt 0)) 2
       Addressed b (.direct16 0xFFFF#16) .ds 0xFFFF#32 b ∧ FailsMem b .ds 0xFFFF#32 2 true (excGP 0#16) b) :=
  ⟨unopened (by decide +kernel), unopened (by decide +kernel), rfl, unopened (by decide +kernel)⟩

theorem witness_Pops :
    Accepts (stackAt 0xFFFE) false ∧ FlagsAllowed (stackAt 0xFFFE) ∧
      OpensMem (begun (stackAt 0xFFFE)) .ss (stackAt 0xFFFE).sp 2 false [0x3FFFE, 0x3FFFF] (begun (stackAt 0xFFFE)) ∧
      (let b := raised (begun (stackAt 0xFFFE)) 2
       Addressed b (.direct16 0#16) .ds 0#32 b ∧ OpensMem b .ds 0#32 2 true [0x20000, 0x20001] b) ∧
      OpensMem (begun (stackAt 0xFFF0)) .ss (stackAt 0xFFF0).sp 16 false (spanOf 0x3FFF0#32 16) (begun (stackAt 0xFFF0)) :=
  ⟨accepts rfl _, fun h => absurd h (by decide +kernel), opened rfl (by decide +kernel), ⟨rfl, opened rfl (by decide +kernel)⟩,
    opened rfl (by decide +kernel)⟩

/-- The stack pointer and BP set. -/
def frameAt (sp bp : Dword) : State := stackAt sp |> set .bp bp

theorem witness_Frames :
    Accepts (frameAt 2 0) false ∧ (frameAt 2 0).cr0.pg = false ∧
      (Room (begun (frameAt 2 0)) .s16 ((0#8).toNat % 32 + 1) ∧ DisplayReadable (begun (frameAt 2 0)) .s16 ((0#8).toNat % 32 - 1)) ∧
      (Room (begun (frameAt 0x40 0x80)) .s16 ((0x3F#8).toNat % 32 + 1) ∧
        DisplayReadable (begun (frameAt 0x40 0x80)) .s16 ((0x3F#8).toNat % 32 - 1)) ∧
      OpensMem (begun (frameAt 2 0xFFFE)) .ss (leaveOffset (frameAt 2 0xFFFE)) 2 false [0x3FFFE, 0x3FFFF]
        (begun (frameAt 2 0xFFFE)) :=
  ⟨accepts rfl _, rfl, ⟨by unfold Room; decide +kernel, by unfold DisplayReadable; decide +kernel⟩,
    ⟨by unfold Room; decide +kernel, by unfold DisplayReadable; decide +kernel⟩, opened rfl (by decide +kernel)⟩

theorem witness_ConditionalTransfers :
    (let s := nextAt 0xFF80 st
     Accepts s false ∧ s.reg .b16 .cx = 0#_ ∧ s.reg .b16 .cx ≠ 1#_ ∧ s.flags.zf = false ∧ condHolds .ne s.flags = true ∧
       InCode s (target s .s16 (BitVec.ofInt 32 (0x7F#8).toInt)) ∧ InCode s (target s .s16 (relOf (.i16 0x7F#16)))) ∧
    (let s := nextAt 0xFF81 (flags (fun f => { f with zf := true }) st)
     Accepts s false ∧ s.reg .b32 .cx = 0#_ ∧ s.reg .b32 .cx ≠ 1#_ ∧ s.flags.zf = true ∧ condHolds .e s.flags = true ∧
       ¬ InCode s (target s .s32 (BitVec.ofInt 32 (0x7F#8).toInt)) ∧ ¬ InCode s (target s .s32 (relOf (.i32 0x7F#32)))) ∧
    (let s := set .cx 1#32 st
     Accepts s false ∧ ¬ s.reg .b16 .cx = 0#_ ∧ ¬ s.reg .b16 .cx ≠ 1#_ ∧ ¬ condHolds .e s.flags = true) := by
  unfold InCode
  exact ⟨⟨accepts rfl _, by decide +kernel⟩, ⟨accepts rfl _, by decide +kernel⟩, accepts rfl _, by decide +kernel⟩

theorem witness_NearTransfers :
    (let s := axbx 0 0xFFFF
     Accepts s false ∧ Opens (begun s) .b16 (.reg .bx) false (.reg .bx) (begun s) ∧
       InCode s ((at' (begun s) .b16 (.reg .bx)).setWidth 32) ∧ InCode s (target s .s16 (relOf (.i16 0#16))) ∧
       OpensMem (begun s) .ss (below s .s16 1) 2 true [0x300FE, 0x300FF] (begun s)) ∧
    (let s := nextAt 0xFF81 st
     Accepts s false ∧ InCode s (target s .s16 (BitVec.ofInt 32 (0x7F#8).toInt)) ∧
       ¬ InCode s (target s .s32 (BitVec.ofInt 32 (0x7F#8).toInt))) ∧
    (let s := stackAt 0xFFFE |> bytes 0x3FFFE [0xFF, 0xFF]
     OpensMem (begun s) .ss s.sp 2 false [0x3FFFE, 0x3FFFF] (begun s) ∧
       InCode s (leValue 32 ([0x3FFFE, 0x3FFFF].map (begun s).byte))) ∧
    (let s := stackAt 0xFFFC |> set .bx 0x10000 |> bytes 0x3FFFC [0, 0, 1, 0]
     Accepts s false ∧ Opens (begun s) .b32 (.reg .bx) false (.reg .bx) (begun s) ∧
       ¬ InCode s ((at' (begun s) .b32 (.reg .bx)).setWidth 32) ∧ ¬ InCode s (target s .s32 (relOf (.i32 0xFFFF#32))) ∧
       OpensMem (begun s) .ss s.sp 4 false [0x3FFFC, 0x3FFFD, 0x3FFFE, 0x3FFFF] (begun s) ∧
       ¬ InCode s (leValue 32 ([0x3FFFC, 0x3FFFD, 0x3FFFE, 0x3FFFF].map (begun s).byte))) := by
  unfold InCode
  exact ⟨⟨accepts rfl _, rfl, by decide +kernel, by decide +kernel, opened rfl (by decide +kernel)⟩,
    ⟨accepts rfl _, by decide +kernel⟩, ⟨opened rfl (by decide +kernel), by decide +kernel⟩,
    accepts rfl _, rfl, by decide +kernel, by decide +kernel, opened rfl (by decide +kernel), by decide +kernel⟩

theorem witness_FarTransfersReal :
    Accepts st false ∧ st.mode ≠ .prot ∧ Accepts (v86 0#2) false ∧ (v86 0#2).mode ≠ .prot ∧
      (farParts (.p16 0xFFFF#16 0x1000#16)).1.toNat ≤ 0xFFFF ∧ st.cr0.pg = false ∧ Room (begun (stackAt 4)) .s16 2 ∧
      (let s := bytes 0x2FFFC [0xFF, 0xFF, 0, 0x50] st
       Addressed (begun s) (.direct16 0xFFFC#16) .ds 0xFFFC#32 (begun s) ∧
         OpensMem (begun s) .ds 0xFFFC#32 (2 + 2) false [0x2FFFC, 0x2FFFD, 0x2FFFE, 0x2FFFF] (begun s) ∧
         (leValue 32 (([0x2FFFC, 0x2FFFD, 0x2FFFE, 0x2FFFF].map (begun s).byte).take 2) : Dword).toNat ≤ 0xFFFF) ∧
      (let s := stackAt 0xFFFC |> bytes 0x3FFFC [0xFF, 0xFF, 0, 0x50]
       StackReadable (begun s) .s16 0 ∧ StackReadable (begun s) .s16 2 ∧ (stackElement (begun s) .s16 0).toNat ≤ 0xFFFF) := by
  refine ⟨accepts rfl _, by decide +kernel, accepts rfl _, by decide +kernel, by decide, rfl, ?_,
    ⟨rfl, opened rfl (by decide +kernel), by decide +kernel⟩, ?_⟩
  · unfold Room; decide +kernel
  · unfold StackReadable; decide +kernel

/-- The offset 10000: in the instruction, in memory, and on the stack. -/
theorem witness_FarTransfersReal_fails :
    ¬ (farParts (.p32 0x10000#32 0x1000#16)).1.toNat ≤ 0xFFFF ∧
      (let s := bytes 0x20002 [1] st
       OpensMem (begun s) .ds 0#32 (4 + 2) false [0x20000, 0x20001, 0x20002, 0x20003, 0x20004, 0x20005] (begun s) ∧
         ¬ (leValue 32 (([0x20000, 0x20001, 0x20002, 0x20003, 0x20004, 0x20005].map (begun s).byte).take 4) : Dword).toNat
           ≤ 0xFFFF) ∧
      (let s := stackAt 0 |> bytes 0x30002 [1]
       StackReadable (begun s) .s32 0 ∧ StackReadable (begun s) .s32 4 ∧ ¬ (stackElement (begun s) .s32 0).toNat ≤ 0xFFFF) := by
  refine ⟨by decide, ⟨opened rfl (by decide +kernel), by decide +kernel⟩, ?_⟩
  unfold StackReadable; decide +kernel

theorem deliverable {s : State} {v : Byte} (h : s.cr0.pe = false ∧ s.cr0.pg = false ∧ 4 * v.toNat + 3 ≤ s.idtr.limit.toNat ∧
    ∀ i, i < 3 → s.accessExc .ss (below s .s16 (i + 1)) 2 true = none) : Deliverable s v := h

theorem witness_SoftwareInterruptsReal :
    Accepts (stackAt 6) false ∧ Deliverable (begun (stackAt 6)) 0xFF#8 ∧ Deliverable (begun (stackAt 6)) 3#8 ∧
      (stackAt 6).flags.ov = false ∧
      (let s := flags (fun f => { f with ov := true }) (stackAt 6)
       Accepts s false ∧ s.flags.ov = true ∧ Deliverable (begun s) 4#8) :=
  ⟨accepts rfl _, deliverable (by decide +kernel), deliverable (by decide +kernel), rfl, accepts rfl _, rfl,
    deliverable (by decide +kernel)⟩

theorem witness_DeliveryReal : Deliverable (stackAt 6) 0xFF#8 ∧ (0xFF#8 : Byte) ≠ 8#8 ∧ Deliverable (stackAt 6) 1#8 :=
  ⟨deliverable (by decide +kernel), by decide, deliverable (by decide +kernel)⟩

/-- Frames at the end of the stack segment, and one that does not fit there though each element would. -/
theorem witness_InterruptReturn_real :
    (let s := stackAt 0xFFFA |> bytes 0x3FFFA [0xFF, 0xFF, 0, 0x50, 2, 2]
     Accepts s false ∧ s.mode = .real ∧ OpensMem (begun s) .ss s.sp 6 false (spanOf 0x3FFFA#32 6) (begun s) ∧
       (leValue 32 (((spanOf 0x3FFFA#32 6).map (begun s).byte).take 2) : Dword).toNat ≤ 0xFFFF) ∧
    (let s := stackAt 0xFFF4 |> bytes 0x3FFF4 [0, 0, 1, 0]
     OpensMem (begun s) .ss s.sp 12 false (spanOf 0x3FFF4#32 12) (begun s) ∧
       ¬ (leValue 32 (((spanOf 0x3FFF4#32 12).map (begun s).byte).take 4) : Dword).toNat ≤ 0xFFFF) ∧
    ((v86 3#2).mode = .v86 ∧ OpensMem (begun (v86 3#2)) .ss (v86 3#2).sp 12 false (spanOf 0x30100#32 12) (begun (v86 3#2))) ∧
    (stackAt 0xFFFC).accessExc .ss (stackAt 0xFFFC).sp (3 * Sz.s16.bytes) false = some (excGP 0#16) :=
  ⟨⟨accepts rfl _, rfl, opened rfl (by decide +kernel), by decide +kernel⟩,
    ⟨opened rfl (by decide +kernel), by decide +kernel⟩, ⟨rfl, opened rfl (by decide +kernel)⟩, by decide +kernel⟩

theorem portFree_real {s : State} (h : s.cr0.pe = false) : PortFree s := .inl h

/-- The user task's permission map made to lie within its TSS, whose last two bytes hold the bits of ports 3F8 to 407. -/
def mapped (bits : Byte) : State :=
  { user with tr := { user.tr with limit := 0xE8#32 } } |> bytes 0x40E7 [bits]

theorem witness_PortMoves :
    Accepts st false ∧ PortAllowed (begun st) 0x60#16 1 ∧
    Accepts (mapped 0xFE) false ∧ PortAllowed (begun (mapped 0xFE)) 0x3F8#16 1 ∧ PortDenied (begun (mapped 0xFE)) 0x3F9#16 1 ∧
      PortDenied (begun (mapped 0xFE)) 0x3F8#16 2 ∧ PortDenied (begun user) 0x3F8#16 1 := by
  refine ⟨accepts rfl _, .inl (portFree_real rfl), accepts rfl _, .inr ?_, ?_, ?_, ?_⟩ <;>
    first
      | (unfold PortDenied PortFree Mapped; decide +kernel)
      | (unfold Mapped; decide +kernel)

/-- Strings at DS:FFFF and ES:FFFF, the last bytes within the limits. -/
def strings : State := st |> set .si 0xFFFF |> set .di 0xFFFF

theorem string_source : Source .s16 .b8 (begun strings) [0x2FFFF] (begun strings) := opened rfl (by decide +kernel)
theorem string_destination (wr : Bool) : Destination .s16 .b8 wr (begun strings) [0x2FFFF] (begun strings) := by
  cases wr <;> exact opened rfl (by decide +kernel)
theorem string_port : PortAllowed (begun strings) ((begun strings).reg .b16 .dx) 1 := .inl (portFree_real rfl)

theorem witness_StringOperations :
    Accepts strings false ∧ ∀ op, ∃ u t stored, Operates op .s16 .b8 (begun strings) u t stored := by
  refine ⟨accepts rfl _, fun op => ?_⟩
  cases op
  · exact ⟨_, _, _, _, _, string_source, string_destination true, rfl⟩
  · exact ⟨_, _, _, _, _, _, string_source, string_destination false, rfl, rfl⟩
  · exact ⟨_, _, _, _, string_destination false, rfl, rfl⟩
  · exact ⟨_, _, _, _, string_source, rfl, rfl⟩
  · exact ⟨_, _, _, string_destination true, rfl⟩
  · exact ⟨_, _, _, string_port, string_destination true, rfl⟩
  · exact ⟨_, _, _, _, string_port, string_source, rfl, rfl⟩

/-- The permission map denies the port in DX. -/
theorem witness_StringOperations_denied :
    (let s := set .dx 0x3F9 (mapped 0xFE)
     Accepts s false ∧ PortDenied (begun s) (s.reg .b16 .dx) 1) ∧
    (let s := set .dx 0x3F8 (mapped 0xFE)
     PortDenied (begun s) (s.reg .b16 .dx) Sz.s16.bytes) := by
  refine ⟨⟨accepts rfl _, ?_⟩, ?_⟩ <;> unfold PortDenied PortFree Mapped <;> decide +kernel

theorem witness_StringRepetition :
    (let s := repeated .repe strings
     s.pfx.lock = false ∧ s.pfx.rep = some .repe ∧ s.reg .b16 .cx = 0#_) ∧
    (let s := repeated .repne (set .cx 1#32 strings)
     s.pfx.lock = false ∧ s.pfx.rep = some .repne ∧ scans .scas = true ∧ s.reg .b16 .cx ≠ 0#_ ∧
       ∃ u t stored, Operates .scas .s16 .b8 (begun s) u t stored) ∧
    (let s := repeated .repe (set .cx 0xFFFF#32 strings)
     s.pfx.lock = false ∧ s.pfx.rep = some .repe ∧ s.reg .b16 .cx ≠ 0#_ ∧
       ∃ u t stored, Operates .stos .s16 .b8 (begun s) u t stored) := by
  refine ⟨by decide +kernel, ⟨rfl, rfl, rfl, by decide +kernel, _, _, _, [0x2FFFF], opened rfl (by decide +kernel), rfl, rfl⟩,
    rfl, rfl, by decide +kernel, _, _, [0x2FFFF], opened rfl (by decide +kernel), rfl⟩

/-- Selectors 0018 (data, not present), 0020 (an LDT), 0028 (data, the last descriptor within the GDT), and the LDT: a
code segment of DPL 3 alone; EAX set. -/
def tables (ax : Dword) : State :=
  { prot with ldtr := { SegReg.empty with base := 0x1800#32, limit := 7#32, valid := true } }
  |> bytes 0x1018 [0xFF, 0xFF, 0, 0, 0, 0x12, 0xCF, 0]
  |> bytes 0x1020 [0xFF, 0, 0, 0, 3, 0x82, 0, 0]
  |> bytes 0x1028 [0xFF, 0xFF, 0, 0, 0, 0x93, 0xCF, 0]
  |> bytes 0x1800 [0xFF, 0xFF, 0, 0, 0, 0xFA, 0xCF, 0]
  |> set .ax ax

theorem segLoads {b : State} {r : Sreg} {sel : Word}
    (h : b.mode = .prot ∧ b.cr0.pg = false ∧ ¬ NullSel sel ∧ InTable b sel ∧ Loadable r b sel (descAt b sel) ∧
      (descAt b sel).p = true) : ∃ t stored, SegLoads r sel b t stored :=
  ⟨_, _, .inr (.inr ⟨h.1, h.2.1, h.2.2.1, h.2.2.2.1, h.2.2.2.2.1, h.2.2.2.2.2, rfl, rfl⟩)⟩

theorem segLoads_null {b : State} {r : Sreg} {sel : Word} (h : b.mode = .prot ∧ b.cr0.pg = false ∧ NullSel sel ∧ r ≠ .ss) :
    ∃ t stored, SegLoads r sel b t stored := ⟨_, _, .inr (.inl ⟨h.1, h.2.1, h.2.2.1, h.2.2.2, rfl, rfl⟩)⟩

theorem segLoads_real {b : State} {r : Sreg} {sel : Word} (h : b.mode ≠ .prot) : ∃ t stored, SegLoads r sel b t stored :=
  ⟨_, _, .inl ⟨h, rfl, rfl⟩⟩

/-- MOV: a load in real mode, of a null selector, of the first and last descriptors, into SS. -/
theorem witness_SegmentLoads_mov :
    (∀ v, Accepts (tables v) false ∧ Opens (begun (tables v)) .b16 (.reg .ax) false (.reg .ax) (begun (tables v))) ∧
      (∃ t stored, SegLoads .ds (at' (begun st) .b16 (.reg .ax)) (begun st) t stored) ∧
      (∃ t stored, SegLoads .ds (at' (begun (tables 3)) .b16 (.reg .ax)) (begun (tables 3)) t stored) ∧
      (∃ t stored, SegLoads .ds (at' (begun (tables 8)) .b16 (.reg .ax)) (begun (tables 8)) t stored) ∧
      (∃ t stored, SegLoads .ss (at' (begun (tables 0x28)) .b16 (.reg .ax)) (begun (tables 0x28)) t stored) ∧
      (∃ t stored, SegLoads .es (at' (begun (tables 7)) .b16 (.reg .ax)) (begun (tables 7)) t stored) := by
  refine ⟨fun v => ⟨accepts rfl _, rfl⟩, segLoads_real (by decide +kernel), segLoads_null ?_, segLoads ?_, segLoads ?_,
    segLoads ?_⟩
  · unfold NullSel; decide +kernel
  all_goals unfold NullSel InTable Loadable Visible; decide +kernel

/-- The failures: a null SS, a selector beyond the table, a descriptor that does not fit, one that is not present. -/
theorem witness_SegmentLoads_fails :
    (∃ e, SegFails .ss (at' (begun (tables 0)) .b16 (.reg .ax)) (begun (tables 0)) e) ∧
    (∃ e, SegFails .ds (at' (begun (tables 0x30)) .b16 (.reg .ax)) (begun (tables 0x30)) e) ∧
    (∃ e, SegFails .ds (at' (begun (tables 0x20)) .b16 (.reg .ax)) (begun (tables 0x20)) e) ∧
    (∃ e, SegFails .ss (at' (begun (tables 0x28)) .b16 (.reg .ax)) { begun (tables 0x28) with cpl := 1#2 } e) ∧
    (∃ e, SegFails .ds (at' (begun (tables 0x18)) .b16 (.reg .ax)) (begun (tables 0x18)) e) := by
  refine ⟨⟨_, rfl, rfl, .inl ⟨?_, rfl, rfl⟩⟩, ⟨_, rfl, rfl, .inr (.inl ⟨?_, ?_, rfl⟩)⟩,
    ⟨_, rfl, rfl, .inr (.inr (.inl ⟨?_, ?_, ?_, rfl⟩))⟩, ⟨_, rfl, rfl, .inr (.inr (.inl ⟨?_, ?_, ?_, rfl⟩))⟩,
    ⟨_, rfl, rfl, .inr (.inr (.inr ⟨?_, ?_, ?_, ?_, rfl⟩))⟩⟩ <;>
    first
      | (unfold NullSel; decide +kernel)
      | (unfold InTable; decide +kernel)
      | (unfold Loadable Visible; decide +kernel)
      | decide +kernel

/-- POP DS at the last word of the stack segment, and LDS from the last far pointer of the data segment. -/
theorem witness_SegmentLoads_pop_and_pointer :
    (let s := stackAt 0xFFFE
     popSregInstr .s16 .ds = some (.popDs .s16) ∧ OpensMem (begun s) .ss s.sp 2 false [0x3FFFE, 0x3FFFF] (begun s) ∧
       ∃ t stored, SegLoads .ds (leValue 16 ([0x3FFFE, 0x3FFFF].map (begun s).byte)) (begun s) t stored) ∧
    (loadPointer .s16 .si (.mem (.direct16 0xFFFC#16)) .ds = some (.lds .s16 .si (.mem (.direct16 0xFFFC#16))) ∧
       Addressed (begun st) (.direct16 0xFFFC#16) .ds 0xFFFC#32 (begun st) ∧
       ReadsParts (begun st) .ds 0xFFFC#32 2 2 [0, 0] [0, 0] (begun st) ∧
       ∃ t stored, SegLoads .ds (leValue 16 [0, 0]) (begun st) t stored) :=
  ⟨⟨rfl, opened rfl (by decide +kernel), segLoads_real (by decide +kernel)⟩, rfl, rfl,
    ⟨_, _, _, opened rfl (by decide +kernel), openTail_off rfl (by decide +kernel), by decide +kernel, by decide +kernel⟩,
    segLoads_real (by decide +kernel)⟩

theorem witness_SegmentStores :
    Accepts st false ∧ Opens (begun st) .b16 (.mem (.direct16 0xFFFE#16)) true (.mem [0x2FFFE, 0x2FFFF]) (begun st) ∧
      Accepts prot false ∧ prot.mode = .prot ∧ Opens (begun prot) .b16 (.reg .ax) true (.reg .ax) (begun prot) ∧
      Addressed (begun st) (.direct16 0xFFFA#16) .ds 0xFFFA#32 (begun st) ∧
      OpensMem (begun st) .ds 0xFFFA#32 6 true (spanOf 0x2FFFA#32 6) (begun st) :=
  ⟨accepts rfl _, openRm_mem_off rfl rfl (by decide +kernel), accepts rfl _, rfl, rfl, rfl, opened rfl (by decide +kernel)⟩

/-- A TSS descriptor at 0018 in the given state: available (8-bit type byte 89), or not present (09). -/
def withTss (kind : Byte) (ax : Dword) : State := tables ax |> bytes 0x1018 [0x67, 0, 0, 0x40, 0, kind, 0, 0]

theorem witness_TableLoads :
    (Accepts st false ∧ Privileged st ∧ Addressed (begun st) (.direct16 0xFFFA#16) .ds 0xFFFA#32 (begun st) ∧
      ∃ lo hi, ReadsParts (begun st) .ds 0xFFFA#32 2 4 lo hi (begun st)) ∧
    (∀ k v, Accepts (withTss k v) false ∧ (withTss k v).mode = .prot ∧ (withTss k v).cpl = 0#2 ∧
      (withTss k v).cr0.pg = false ∧ Opens (begun (withTss k v)) .b16 (.reg .ax) false (.reg .ax) (begun (withTss k v))) ∧
    (let b (v : Dword) := begun (withTss 0x89 v)
     let x (v : Dword) : Word := at' (b v) .b16 (.reg .ax)
     (∃ t stored, ldtLoads (b 3) (x 3) t stored) ∧ (∃ t stored, ldtLoads (b 0x20) (x 0x20) t stored) ∧
       (∃ e, ldtFails (b 0x28) (x 0x28) e) ∧ (∃ e, ldtFails (b 0x30) (x 0x30) e) ∧
       (∃ t stored, trLoads (b 0x18) (x 0x18) t stored) ∧ (∃ e, trFails (b 3) (x 3) e) ∧ (∃ e, trFails (b 0x28) (x 0x28) e)) ∧
    (∃ e, trFails (begun (withTss 9 0x18)) (at' (begun (withTss 9 0x18)) .b16 (.reg .ax)) e) ∧
    (let b := begun (bytes 0x1025 [2] (withTss 9 0x20))
     ∃ e, ldtFails b (at' b .b16 (.reg .ax)) e) := by
  refine ⟨⟨accepts rfl _, .inl rfl, rfl, _, _, _, _, _, opened rfl (by decide +kernel), openTail_off rfl (by decide +kernel), rfl,
    rfl⟩, fun k v => ⟨accepts rfl _, rfl, rfl, rfl, rfl⟩,
    ⟨⟨_, _, rfl, .inl ⟨?_, rfl⟩⟩, ⟨_, _, rfl, .inr ⟨?_, ?_, ?_, ?_, ?_, rfl⟩⟩, ⟨_, ?_, .inl ⟨?_, rfl⟩⟩, ⟨_, ?_, .inl ⟨?_, rfl⟩⟩,
      ⟨_, _, ?_, ?_, ?_, ?_, rfl, rfl⟩, ⟨_, .inl ⟨?_, rfl⟩⟩, ⟨_, .inr (.inl ⟨?_, ?_, rfl⟩)⟩⟩,
    ⟨_, .inr (.inr ⟨?_, ?_, ?_, ?_, rfl⟩)⟩, ⟨_, ?_, .inr ⟨?_, ?_, ?_, ?_, rfl⟩⟩⟩ <;>
    first
      | (unfold NullSel; decide +kernel)
      | (unfold InGdt InTable; decide +kernel)
      | (unfold Available; decide +kernel)
      | (unfold InGdt InTable Available; decide +kernel)
      | decide +kernel

/-- Accepted and rejected selectors of each of the four instructions. -/
theorem witness_SelectorInspection :
    (∀ v, Accepts (tables v) false ∧ (tables v).mode = .prot ∧ (tables v).cr0.pg = false ∧
      Opens (begun (tables v)) .b16 (.reg .ax) true (.reg .ax) (begun (tables v)) ∧
      Opens (begun (tables v)) .b16 (.reg .ax) false (.reg .ax) (begun (tables v))) ∧
    (let b := begun (tables 0)
     Inspects (fun d => d.s = true ∨ ¬ (d.typ = 0#4 ∨ d.typ = 8#4 ∨ d.typ = 10#4 ∨ d.typ = 13#4)) b 0x20#16 ∧
       Inspects (fun d => d.s = true ∨ d.typ = 1#4 ∨ d.typ = 2#4 ∨ d.typ = 3#4 ∨ d.typ = 9#4 ∨ d.typ = 11#4) b 0x28#16 ∧
       Inspects (fun d => d.readable = true) b 8#16 ∧ Inspects (fun d => d.writable = true) b 0x28#16 ∧
       ¬ Inspects (fun d => d.writable = true) b 8#16 ∧ ¬ Inspects (fun d => d.readable = true) b 0x30#16 ∧
       ¬ Inspects (fun d => d.readable = true) b 3#16 ∧ ¬ Inspects (fun d => d.readable = true) b 0x2B#16) ∧
    (let s := tables 2 |> set .cx 3#32
     rplOf (at' (begun s) .b16 (.reg .ax)) < rplOf (s.reg .b16 .cx)) ∧
    ¬ rplOf (at' (begun (tables 3)) .b16 (.reg .ax)) < rplOf ((tables 3).reg .b16 .cx) := by
  refine ⟨fun v => ⟨accepts rfl _, rfl, rfl, rfl, rfl⟩, ?_, by decide +kernel, by decide +kernel⟩
  unfold Inspects NullSel InTable Visible
  dsimp only
  refine ⟨?_, ?_, ?_, ?_, ?_, ?_, ?_, ?_⟩ <;> decide +kernel

theorem witness_CarryFlag : Accepts st false := accepts rfl _

theorem witness_ProcessorControl :
    Accepts st false ∧ IoAllowed st ∧ Privileged st ∧ Accepts prot false ∧ IoAllowed prot ∧ Privileged prot ∧
      Opens (begun prot) .b16 (.reg .ax) false (.reg .ax) (begun prot) ∧ Accepts user false ∧ ¬ IoAllowed user ∧
      ¬ Privileged user := by
  refine ⟨accepts rfl _, ?_, ?_, accepts rfl _, ?_, ?_, rfl, accepts rfl _, ?_, ?_⟩ <;>
    first
      | (unfold IoAllowed; decide +kernel)
      | (unfold Privileged; decide +kernel)

theorem witness_SpecialRegisterMoves :
    (Accepts prot false ∧ Privileged prot ∧ Accepts user false ∧ ¬ Privileged user) ∧
    (let v (x : Dword) := (set .ax x prot).reg .b32 .ax
     ((v 0x80000001).getLsbD 31 = false ∨ (v 0x80000001).getLsbD 0 = true) ∧
       ((v 0x80000000).getLsbD 31 = true ∧ (v 0x80000000).getLsbD 0 = false) ∧
       ¬ (DReg.dr7 = .dr7 ∧ Enables (v 0xFFFFDF00)) ∧ Enables (v 0x2000) ∧ Enables (v 0x80) ∧ Enables (v 1)) := by
  refine ⟨⟨accepts rfl _, ?_, accepts rfl _, ?_⟩, ?_⟩
  · unfold Privileged; decide +kernel
  · unfold Privileged; decide +kernel
  · unfold Enables; dsimp only; decide +kernel

/-- The test state with other MP, TS, EM and pins. -/
def coprocessor (mp ts em busy error : Bool) : State :=
  { stackAt 6 with
    cr0 := { st.cr0 with mp := mp, ts := ts, em := em }, pins := { st.pins with busy := busy, error := error } }

theorem witness_WaitAndEscape :
    (∀ mp ts em busy error, Accepts (coprocessor mp ts em busy error) false) ∧
    (let s := coprocessor true false false false false
     (s.cr0.mp && s.cr0.ts) = false ∧ s.pins.error = false ∧ s.pins.busy = false ∧ (s.cr0.em || s.cr0.ts) = false) ∧
    (let s := coprocessor false true false true false
     (s.cr0.mp && s.cr0.ts) = false ∧ s.pins.error = false ∧ s.pins.busy = true ∧ (s.cr0.em || s.cr0.ts) = true ∧
       Deliverable s 7#8) ∧
    (let s := coprocessor true true false false false
     (s.cr0.mp && s.cr0.ts) = true) ∧
    (let s := coprocessor false false true false true
     (s.cr0.mp && s.cr0.ts) = false ∧ s.pins.error = true) :=
  ⟨fun _ _ _ _ _ => accepts rfl _, ⟨rfl, rfl, rfl, rfl⟩, ⟨rfl, rfl, rfl, rfl, deliverable (by decide +kernel)⟩, rfl, rfl, rfl⟩

theorem witness_InvalidOpcodeTraps :
    Accepts st false ∧ st.mode ≠ .prot ∧ Accepts user false ∧ ¬ Privileged user ∧ user.mode = .prot ∧ user.cpl ≠ 0#2 := by
  refine ⟨accepts rfl _, by decide +kernel, accepts rfl _, ?_, rfl, by decide +kernel⟩
  unfold Privileged
  decide +kernel

theorem witness_NoOperation : Accepts st false := accepts rfl _

theorem witness_RegisterViews : 31 < Width.b32.bits ∧ 0 < Width.b8.bits ∧ 31 < 32 := by decide

theorem witness_MemoryReadWrite : Memory.wf user.mem = true ∧ 0xFFFFFFFF < 2 ^ 32 ∧ Memory.wf (bytes 0xFFFFFFFF [1] st).mem = true := by
  decide +kernel

theorem witness_EffectiveAddresses :
    Unscaled (.sibNoBase 1#2 .sp 0#32) ∧ ¬ Unscaled (.sibNoBase 0#2 .sp 0#32) ∧ ¬ Unscaled (.sib 3#2 .di .bp .none) := by
  unfold Unscaled; decide

theorem witness_OperandPlaces :
    st.cr0.pg = false ∧ Addressed st (.direct16 0xFFFE#16) .ds 0xFFFE#32 st ∧ st.accessExc .ds 0xFFFE#32 2 true = none ∧
      Addressed st (.direct16 0xFFFF#16) .ds 0xFFFF#32 st ∧ st.accessExc .ds 0xFFFF#32 2 true = some (excGP 0#16) ∧
      st.accessExc .ds 0xFFFA#32 2 false = none ∧ st.accessExc .ds 0xFFFA#32 (2 + 4) false = none :=
  ⟨rfl, rfl, by decide +kernel, rfl, by decide +kernel, by decide +kernel, by decide +kernel⟩

/-- An expand-down stack segment of the protected-mode state: the valid offsets are 1000 to FFFF. -/
def expandDown : State := { prot with ss := { flat 0x10#16 7#4 0#2 with limit := 0xFFF#32, db := false } }

theorem witness_SegmentChecks :
    (prot.mode = .prot ∧ (prot.seg .ds).valid = true ∧ FitsType (prot.seg .ds) true ∧
      ∀ i, i < 4 → ValidOffset (prot.seg .ds) (0xFFFFFFFC + i)) ∧
    (expandDown.mode = .prot ∧ (expandDown.seg .ss).valid = true ∧ FitsType (expandDown.seg .ss) true ∧
      (∀ i, i < 2 → ValidOffset (expandDown.seg .ss) (0xFFFE + i)) ∧ ¬ ValidOffset (expandDown.seg .ss) 0xFFF ∧
      ¬ ValidOffset (expandDown.seg .ss) 0x10000) ∧
    ((prot.seg .cs).valid = true ∧ ¬ FitsType (prot.seg .cs) true) ∧
    ({ prot with fs := { prot.fs with valid := false } }.seg .fs).valid = false ∧
    (st.mode ≠ .prot ∧ (∀ i, i < 2 → ValidOffset (st.seg .ds) (0xFFFE + i)) ∧
      ¬ ∀ i, i < 2 → ValidOffset (st.seg .ds) (0xFFFF + i)) := by
  unfold ValidOffset FitsType
  decide +kernel

/-- Paging on, the directory at 8000, one page table at 9000 whose entry 3FF is `pte`: it maps the page at 003FF000. -/
def paged (pte : Byte) : State :=
  { prot with cr0 := { prot.cr0 with pg := true }, cr3 := 0x8000#32, tlbUndef := false }
  |> bytes 0x8000 [7, 0x90, 0, 0] |> bytes 0x9FFC [pte, 0xA0, 0, 0]

/-- Paging on, the page 00000000 at A000 and the page 00001000 at 9000, the page table that maps both, and a stack whose top is
in the second: PUSHA overwrites the entry of the first before it stores there. -/
def pagedStack : State :=
  { prot with cr0 := { prot.cr0 with pg := true }, cr3 := 0x8000#32, tlbUndef := false }
  |> bytes 0x8000 [0x27, 0x90] |> bytes 0x9000 [0x67, 0xA0, 0, 0, 0x67, 0x90] |> set .sp 0x1010

/-- A task state segment at 0FE0, the first 20H bytes of it in that page, the rest in an absent one. -/
def tssAcross : State := { pagedStack with tr := { pagedStack.tr with base := 0xFE0#32 } } |> bytes 0x9004 [0]

/-- CR2 where an operation raises an exception. -/
def faultsAt {α : Type} (m : M α) (s : State) : Option Dword :=
  match m s with
  | .error (.exc _ t _) => some t.cr2
  | _ => none

/-- A task switch saves EAX before EIP and reads the LDT selector before it (60_exceptions.md R530). -/
theorem test_R530_order :
    faultsAt (saveTask tssAcross.flags 0#32) tssAcross = some 0x1008#32 ∧
      faultsAt (readTask386 0xFE0#32) tssAcross = some 0x1040#32 := by decide +kernel

/-- All eight writes of PUSHA are checked before any is made (46_p.md R401). -/
theorem test_R401_checked_first : after (.pusha .s32) pagedStack
    (fun t => (t.physDword 0x9000#32, t.physDword 0xAFFC#32, t.regs.esp)) = some (0#32, 0x1010#32, 0xFF0#32) := by decide +kernel

/-- Opening memory finds it and changes nothing. -/
def opensSame (s : State) (off : Dword) (n : Nat) : Bool :=
  match openMem .ss off n true s with
  | .ok (_, t) => t = s
  | .error _ => false

/-- Opening memory raises an exception. -/
def opensFails (s : State) (off : Dword) (n : Nat) : Bool :=
  match openMem .ss off n true s with
  | .error (.exc _ _ false) => true
  | _ => false

theorem failsMem_of_opensFails {s : State} {off : Dword} {n : Nat} (h : opensFails s off n = true) :
    ∃ e v, FailsMem s .ss off n true e v := by
  simp only [opensFails] at h
  split at h
  · rename_i ho
    exact ⟨_, _, ho⟩
  · cases h

theorem opensBelow_same {b : State} {sz : Sz} {n : Nat} (h : ∀ k, k < n → opensSame b (below b sz (k + 1)) sz.bytes = true) :
    ∃ ps, OpensBelow b sz n ps b := by
  induction n with
  | zero => exact ⟨_, rfl, rfl⟩
  | succ n ih =>
    obtain ⟨qs, hq⟩ := ih fun k hk => h k (by omega)
    have hn := h n (by omega)
    simp only [opensSame] at hn
    split at hn
    · rename_i as t ho
      cases of_decide_eq_true hn
      exact ⟨_, _, _, _, hq, ho, rfl⟩
    · cases hn

/-- PUSHA with paging: that stack; and, where its lower page is absent, the fifth of the eight pushes. -/
theorem witness_Pushes_paged :
    (∃ ps, OpensBelow (begun pagedStack) .s32 8 ps (begun pagedStack)) ∧
    (let b := begun (bytes 0x9000 [0] pagedStack)
     (∃ ps, OpensBelow b .s32 4 ps b) ∧ ∃ e v, FailsMem b .ss (below b .s32 (4 + 1)) 4 true e v) := by
  exact ⟨opensBelow_same (by decide +kernel), opensBelow_same (by decide +kernel), failsMem_of_opensFails (by decide +kernel)⟩

/-- Code in the page 3FF000: the next instruction is the byte F4 at the linear address 3FFF00. -/
def pagedCode : State := { paged 7 with cs := { prot.cs with base := 0x3FFF00#32 }, next := 0#32 } |> bytes 0xAF00 [0xF4]

/-- A store ahead leaves the byte it replaced in the queue (20_memory.md R112). -/
theorem test_R112_store_ahead : overtaken pagedCode (pagedCode |> bytes 0xAF00 [0x90]) = [(0x3FFF00, 0xF4#8)] := by
  decide +kernel

/-- So does a change of PG, under the same linear address (70_reset_and_hazards.md R573). -/
theorem test_R573_paging_off :
    overtaken pagedCode { pagedCode with cr0 := { pagedCode.cr0 with pg := false } } = [(0x3FFF00, 0xF4#8)] := by decide +kernel

/-- The same after the entry was changed from one that maps it to B000, writable for a user as `old` says. -/
def remapped (pte old : Byte) : State := { paged pte with tlb := [{ addr := 0x9FFC#32, value := 0xB000#32 ||| old.setWidth 32 }] }

/-- The same after the directory entry was changed from one that names a table at C000, whose entry 3FF maps the page to D000. -/
def redirected : State := { paged 7 |> bytes 0xCFFC [7, 0xD0] with tlb := [{ addr := 0x8000#32, value := 0xC007#32 }] }

/-- The last byte of that page, writable for a user; absent; read-only; its table entry changed, also from and to a read-only one
and to an absent one; and its directory entry changed. -/
theorem witness_PagedTranslation :
    st.cr0.pg = false ∧
    (∀ pte, (paged pte).cr0.pg = true ∧ TlbAgrees (paged pte) 0x003FFFFF#32) ∧
    (Present (paged 7) 0x003FFFFF#32 ∧ PermittedBy (pdeOf (paged 7) 0x003FFFFF#32) (pteOf (paged 7) 0x003FFFFF#32) true true) ∧
    ¬ Present (paged 6) 0x003FFFFF#32 ∧
    (Present (paged 5) 0x003FFFFF#32 ∧
      ¬ PermittedBy (pdeOf (paged 5) 0x003FFFFF#32) (pteOf (paged 5) 0x003FFFFF#32) true true ∧
      PermittedBy (pdeOf (paged 5) 0x003FFFFF#32) (pteOf (paged 5) 0x003FFFFF#32) false true ∧
      PermittedBy (pdeOf (paged 5) 0x003FFFFF#32) (pteOf (paged 5) 0x003FFFFF#32) true false) ∧
    (Changed (remapped 5 7) 0x003FFFFF#32 0x9007#32 0xB007#32 ∧ PermittedBy 0x9007#32 0xB007#32 true true) ∧
    (Changed (remapped 7 5) 0x003FFFFF#32 0x9007#32 0xB005#32 ∧ ¬ PermittedBy 0x9007#32 0xB005#32 true true) ∧
    (Changed (remapped 6 7) 0x003FFFFF#32 0x9007#32 0xB007#32 ∧ ¬ Present (remapped 6 7) 0x003FFFFF#32) ∧
    (redirected.cr0.pg = true ∧ Changed redirected 0x003FFFFF#32 0xC007#32 0xD007#32) ∧
    (let b := { paged 7 with tlbUndef := true }
     b.cr0.pg = true ∧ b.tlbUndef = true) := by
  have no : ∀ {pde pte : Dword}, pte.getLsbD 1 = false → ¬ PermittedBy pde pte true true := fun h hp => by
    rw [(hp rfl _ (.inr rfl)).2 rfl] at h; cases h
  refine ⟨rfl, fun pte => ⟨rfl, rfl, fun e h => nomatch h⟩, ⟨?_, ?_⟩, ?_, ⟨?_, no ?_, ?_, ?_⟩, ⟨?_, ?_⟩, ⟨?_, no ?_⟩, ⟨?_, ?_⟩,
    ⟨rfl, ?_⟩, rfl, rfl⟩
  all_goals first
    | decide +kernel
    | (simp only [Changed, Present]; decide +kernel)
    | (rintro _ e (rfl | rfl) <;> decide +kernel)
    | rintro ⟨⟩

/-- A state of protected mode with more descriptors: 0018 and 0020 code and data of DPL 3, 0028 a call gate with one parameter to
0008:00003000, 0030 a task gate to 0038, an available TSS at 5000, 0040 the current one at 4000, 0048 code with the limit FFF;
vectors 2 and 21 interrupt gates to 0008:00003000, of DPL 0 and 3, and vector 22 a task gate. -/
def world (s : State) : State :=
  { s with
    gdtr := { base := 0x1000#32, limit := 0x4F#16 }
    tr := { SegReg.empty with sel := 0x40#16, base := 0x4000#32, limit := 0x67#32, typ := 0xB#4, p := true, valid := true }
    mem := cells 0x1008 [
        0xFF, 0xFF, 0, 0, 0, 0x9A, 0xCF, 0, 0xFF, 0xFF, 0, 0, 0, 0x92, 0xCF, 0,
        0xFF, 0xFF, 0, 0, 0, 0xFA, 0xCF, 0, 0xFF, 0xFF, 0, 0, 0, 0xF2, 0xCF, 0, 0, 0x30, 8, 0, 1, 0xEC, 0, 0,
        0, 0, 0x38, 0, 0, 0xE5, 0, 0, 0x67, 0, 0, 0x50, 0, 0xE9, 0, 0, 0x67, 0, 0, 0x40, 0, 0x8B, 0, 0,
        0xFF, 0x0F, 0, 0, 0, 0x9A, 0x40, 0] ++
      cells 0x2010 [0, 0x30, 8, 0, 0, 0x8E, 0, 0] ++
      cells 0x2108 [0, 0x30, 8, 0, 0, 0xEE, 0, 0, 0, 0, 0x38, 0, 0, 0xE5, 0, 0] ++ cells 0x4004 [0, 0, 2, 0, 0x10, 0] ++
      cells 0x4066 [0x68] ++ cells 0x5020 [0, 0x30, 0, 0, 2, 0, 0, 0] ++ cells 0x5038 [0, 0, 1, 0] ++ cells 0x504C [8] ++
      cells 0x5050 [0x10] }

theorem named {b : State} {sel : Word} {ok : Desc → Prop}
    (h : ¬ NullSel sel ∧ InTable b sel ∧ ok (descAt b sel) ∧ (descAt b sel).p = true) : Named b sel ok (descAt b sel) :=
  ⟨h.1, h.2.1, rfl, h.2.2.1, h.2.2.2⟩

/-- Direct, to the segment's last offset; through the gate at the same level; and inward. -/
theorem witness_FarTransfersProtected_enters :
    (Accepts (world prot) false ∧ (world prot).mode = .prot ∧ (world prot).cr0.pg = false ∧
      FarForm (world prot) true .s16 0xFFF#32 0x48#16 (begun (world prot)) (.callFarPtr (.p16 0xFFF#16 0x48#16))) ∧
    (∃ off sel, FarForm (world prot) false .s16 off sel (begun (world prot)) (.jmpFarMem .s16 (.mem (.direct16 0xFFFC#16)))) ∧
    (∃ t stored, FarEnters true .s16 0xFFF#32 0x48#16 (begun (world prot)) t stored) ∧
    (∃ t stored, FarEnters false .s16 0#32 0x28#16 (begun (world prot)) t stored) ∧
    (∃ t stored, FarEnters true .s32 0#32 0x2B#16 (begun (world user)) t stored) := by
  refine ⟨⟨accepts rfl _, rfl, rfl, .inl ⟨_, rfl, rfl, by decide, by decide, rfl⟩⟩,
    ⟨_, _, .inr ⟨_, _, _, _, _, rfl, rfl, opened rfl (by decide +kernel), rfl, rfl⟩⟩,
    ⟨_, _, .inl ⟨_, named ?_, ?_, ?_, rfl, rfl⟩⟩,
    ⟨_, _, .inr ⟨_, _, named ?_, named ?_, .inl ⟨?_, ?_, ?_, rfl, rfl⟩⟩⟩,
    ⟨_, _, .inr ⟨_, _, named ?_, named ?_, .inr ⟨?_, _, ⟨?_, ?_, named ?_⟩, ?_, ?_, ?_, rfl, rfl⟩⟩⟩⟩
  all_goals
    try simp only [NullSel, InTable, DirectTarget, AtLevel, Room, Within, OpenGate, GateTarget, Inward, IsTask, InnerListed, StackAt,
      StackReadable]
    decide +kernel

/-- The stack segment of a state with another limit. -/
def stackLimit (n : Dword) (s : State) : State := { s with ss := { s.ss with limit := n } }

/-- A null selector; no room for the second push; an offset beyond the segment; a gate CPL and RPL may use, but JMP not; no stack
in the TSS; no room for the last push on the inner stack. -/
theorem witness_FarTransfersProtected_fails :
    FarFails false .s16 0#32 3#16 (begun (world prot)) (excGP 0#16) ∧
    FarFails true .s32 0#32 8#16 (begun (world (stackLimit 0x1FFFA prot))) (excSS 0#16) ∧
    FarFails false .s16 0x1000#32 0x48#16 (begun (world prot)) (excGP 0#16) ∧
    FarFails false .s16 0#32 0x28#16 (begun (world user)) (excGP 8#16) ∧
    FarFails true .s16 0#32 0x28#16 (begun { world user with tr := { user.tr with sel := 0x40#16, limit := 8#32 } }) (excTS 0x40#16) ∧
    FarFails true .s16 0#32 0x28#16 (begun (bytes 0x4004 [19, 0, 0, 0] (world user))) (excSS 0#16) := by
  refine ⟨.inl ⟨?_, .inl ⟨?_, rfl⟩⟩, .inr (.inl ⟨_, named ?_, .inl ⟨rfl, ?_, rfl⟩⟩), .inr (.inl ⟨_, named ?_, .inr ⟨?_, ?_, rfl⟩⟩),
    .inr (.inr ⟨_, named ?_, .inl (.inr (.inl ⟨?_, ?_, ?_⟩))⟩),
    .inr (.inr ⟨_, named ?_, .inr ⟨_, named ?_, .inr ⟨?_, .inl ⟨?_, .inl ⟨?_, ?_⟩⟩⟩⟩⟩),
    .inr (.inr ⟨_, named ?_, .inr ⟨_, named ?_, .inr ⟨?_, .inr ⟨_, ⟨?_, ?_, named ?_⟩, .inl ⟨?_, rfl⟩⟩⟩⟩⟩)⟩
  all_goals
    try simp only [NullSel, InTable, DirectTarget, AtLevel, HasRoom, Within, OpenGate, GateTarget, Inward, IsTask, InnerListed,
      StackAt, HasTask]
    decide +kernel

/-- A far return frame at the end of the stack segment `limit` with the given bytes. -/
def returning (bs : List Byte) (s : State) : State :=
  bytes (0x20000 - bs.length) bs (stackLimit 0x1FFFF (set .sp (BitVec.ofNat 32 (0x20000 - bs.length)) (world s)))

/-- RET to the same level at the segment's last offset, and to level 3. -/
theorem witness_FarTransfersProtected_ret :
    (∃ t stored, RetEnters .s16 0 (begun (returning [0xFF, 0x0F, 0x48, 0] prot)) t stored) ∧
    (∃ t stored, RetEnters .s32 4 (begun (returning [0, 0, 1, 0, 0x1B, 0, 0, 0, 9, 9, 9, 9, 0, 0, 2, 0, 0x23, 0, 0, 0] prot)) t stored) ∧
    RetFails .s16 0 (begun (returning [0, 0, 8] prot)) (excSS 0#16) ∧
    RetFails .s16 0 (begun (returning [0, 0, 8, 0] user)) (excGP 8#16) ∧
    RetFails .s16 0 (begun (returning [0, 0x10, 0x48, 0] prot)) (excGP 0#16) ∧
    RetFails .s16 0 (begun (returning [0, 0, 0x1B, 0, 0, 0, 0] prot)) (excSS 0#16) ∧
    RetFails .s16 0 (begun (returning [0, 0, 0x1B, 0, 0, 0, 0, 0] prot)) (excGP 0#16) := by
  refine ⟨⟨_, _, ?_, ?_, _, named ?_, ?_, .inl ⟨?_, rfl, rfl⟩⟩,
    ⟨_, _, ?_, ?_, _, named ?_, ?_, .inr ⟨?_, ?_, ?_, ?_, _, named ?_, rfl, rfl⟩⟩, .inl ⟨?_, rfl⟩, .inr ⟨?_, .inl ⟨?_, ?_⟩⟩,
    .inr ⟨?_, .inr (.inl ⟨?_, .inr ⟨_, named ?_, .inr ⟨?_, ?_, rfl⟩⟩⟩)⟩, .inr ⟨?_, .inr (.inr ⟨?_, .inl ⟨?_, rfl⟩⟩)⟩,
    .inr ⟨?_, .inr (.inr ⟨?_, .inr ⟨?_, .inr ⟨_, named ?_, ?_, .inl (.inl ⟨?_, rfl⟩)⟩⟩⟩)⟩⟩
  all_goals
    try simp only [NullSel, InTable, AtLevel, Held, Within, StackAt, StackReadable]
    decide +kernel

/-- IRET to the same level, to level 3, and to V86 mode (EIP FFFF, its last value); and frames that are refused. -/
theorem witness_InterruptReturn_protected :
    (let s := returning [0xFF, 0x0F, 0x48, 0, 2, 0] prot
     Accepts s false ∧ s.mode = .prot ∧ s.flags.nt = false ∧ s.cr0.pg = false ∧ s.cpl = 0#2) ∧
    (∃ t stored, IretEnters .s16 (begun (returning [0xFF, 0x0F, 0x48, 0, 2, 0] prot)) t stored) ∧
    (∃ t stored, IretEnters .s16 (begun (returning [0, 0, 0x1B, 0, 2, 0, 0, 0, 0x23, 0] prot)) t stored) ∧
    (∃ t, IretToV86 (begun (returning ([0xFF, 0xFF, 0, 0, 0, 0, 0, 0, 2, 0, 2, 0] ++ List.replicate 24 0) prot)) t) ∧
    IretFails .s16 (begun (returning [0, 0, 8] prot)) (excSS 0#16) ∧
    IretFails .s32 (begun (returning [0, 0, 0, 0, 3, 0, 0, 0, 2, 0, 0, 0] user)) (excGP 0#16) ∧
    IretFails .s16 (begun (returning [0, 0, 0x1B, 0, 2, 0, 0, 0, 0x23] prot)) (excSS 0#16) ∧
    ¬ Held (begun (returning [0, 0, 0, 0, 8, 0, 0, 0, 2, 0, 0] prot)) 8 4 ∧
    (let b := begun (returning ([0, 0, 1, 0, 0, 0, 0, 0, 2, 0, 2, 0] ++ List.replicate 24 0) prot)
     StackReadable b .s32 8 ∧ (Claims.frameAt b .s32 2).getLsbD 17 = true ∧ FrameHeld b .s32 9 ∧
       ¬ (Claims.frameAt b .s32 0).toNat ≤ 0xFFFF) ∧
    (let b := begun (returning ([0, 0, 0, 0, 0, 0, 0, 0, 2, 0, 2, 0] ++ List.replicate 23 0) prot)
     StackReadable b .s32 8 ∧ (Claims.frameAt b .s32 2).getLsbD 17 = true ∧ ¬ Held b 0 36) := by
  refine ⟨⟨accepts rfl _, rfl, rfl, rfl, rfl⟩, ⟨_, _, fun h => (by cases h), _, named ?_, ?_, .inl ⟨?_, ?_, rfl, rfl⟩⟩,
    ⟨_, _, fun h => (by cases h), _, named ?_, ?_, .inr ⟨?_, ?_, _, named ?_, rfl, rfl⟩⟩, ⟨_, ?_, ?_, ?_, ?_, rfl⟩,
    ⟨fun h => (by cases h), .inl ⟨?_, rfl⟩⟩,
    ⟨fun _ h => absurd h (by decide +kernel), .inr ⟨?_, .inr (.inl ⟨?_, .inr ⟨?_, .inl (.inl ⟨?_, rfl⟩)⟩⟩)⟩⟩,
    ⟨fun h => (by cases h), .inr ⟨?_, .inr (.inr ⟨?_, .inl ⟨?_, rfl⟩⟩)⟩⟩, ?_, ?_, ?_⟩
  all_goals
    try simp only [NullSel, InTable, AtLevel, Held, Within, StackAt, StackReadable, FrameHeld]
    decide +kernel

theorem loadsAll_cons {l : Loader} {ls : List Loader} {b v t : State} {s1 s2 : List Nat} (h : l.loads b v s1)
    (hs : LoadsAll ls v t s2) : LoadsAll (l :: ls) b t (s1 ++ s2) := ⟨v, s1, s2, h, hs, rfl⟩

/-- The state of the new task before its loads, and its image. -/
def taskStart (k : SwitchKind) (sel : Word) (b : State) : State × TaskImage :=
  let v := taskCommitted k sel (descAt b sel) b.next b
  let i := incoming v (descAt b sel)
  (taskBegun k i v, i)

/-- The new task at its level. -/
def taskLevel (x : State × TaskImage) : State := { x.1 with cpl := rplOf x.2.cs }

/-- The new task after CS and SS are loaded. -/
def taskEnd (x : State × TaskImage) : State :=
  let w := segLoaded (taskLevel x) .cs x.2.cs (descAt (taskLevel x) x.2.cs)
  segLoaded w .ss x.2.ss (descAt w x.2.ss)

/-- The loads of a new task outside V86 mode whose other selectors are null. -/
theorem taskEnters {k : SwitchKind} {sel : Word} {b : State} (h : IsTask b ∧ TaskHolds (descAt b sel))
    (hi : let i := (taskStart k sel b).2
      i.trap = false ∧ i.eflags.getLsbD 17 = false ∧ NullSel i.ldt ∧ NullSel i.ds ∧ NullSel i.es ∧ NullSel i.fs ∧ NullSel i.gs)
    (hl : let x := taskStart k sel b
      let c := descAt (taskLevel x) x.2.cs
      let w := segLoaded (taskLevel x) .cs x.2.cs c
      Named (taskLevel x) x.2.cs (AtLevel (rplOf x.2.cs)) c ∧ Named w x.2.ss (StackAt x.2.ss w.cpl) (descAt w x.2.ss)) :
    ∃ stored, TaskEnters k sel (descAt b sel) b.next b (taskEnd (taskStart k sel b)) stored := by
  obtain ⟨h0, hv, h1, h2, h3, h4, h5⟩ := hi
  suffices hs : ∃ s2, LoadsAll (taskLoaders (taskStart k sel b).2) (taskStart k sel b).1 (taskEnd (taskStart k sel b)) s2 by
    obtain ⟨s2, hs⟩ := hs
    exact ⟨_, h.1, h.2, h0, s2, hs, rfl⟩
  rw [taskLoaders, if_neg (by rw [hv]; decide)]
  have level : taskLevel (taskStart k sel b) = { (taskStart k sel b).1 with
      cpl := if (taskStart k sel b).2.eflags.getLsbD 17 then 3#2 else rplOf (taskStart k sel b).2.cs } := by rw [hv]; rfl
  exact ⟨_, loadsAll_cons ⟨rfl, .inl ⟨h1, rfl⟩⟩ (loadsAll_cons ⟨level, rfl⟩ (loadsAll_cons ⟨_, hl.1, rfl, rfl⟩
    (loadsAll_cons ⟨_, hl.2, rfl, rfl⟩ (loadsAll_cons (.inl ⟨h2, rfl, rfl⟩) (loadsAll_cons (.inl ⟨h3, rfl, rfl⟩)
      (loadsAll_cons (.inl ⟨h4, rfl, rfl⟩) (loadsAll_cons (.inl ⟨h5, rfl, rfl⟩) ⟨rfl, rfl⟩)))))))⟩

/-- JMP and CALL to a TSS and through a task gate, a busy one, a selector that JMP and CALL refuse. -/
theorem witness_TaskSwitches_leads :
    (let b := begun (world prot)
     LeadsTo b 0x38#16 0x38#16 (descAt b 0x38#16) ∧ LeadsTo b 0x30#16 0x38#16 (descAt b 0x38#16) ∧
       LeadsNowhere b 0x40#16 excTS (excTS 0x40#16) ∧ TaskHolds (descAt b 0x38#16)) ∧
    ¬ TaskHolds (descAt (begun (bytes 0x1038 [0x66] (world prot))) 0x38#16) ∧
    LeadsNowhere (begun (bytes 0x103D [0x8B] (world prot))) 0x30#16 excGP (excGP 0x38#16) := by
  refine ⟨⟨⟨_, named ?_, ?_⟩, ⟨_, named ?_, ?_⟩, ⟨?_, .inl (.inr (.inl ⟨?_, ?_, ?_⟩))⟩, ?_⟩, ?_,
    ⟨?_, .inr ⟨_, named ?_, ?_, .inl ⟨?_, ?_⟩⟩⟩⟩
  all_goals
    try simp only [NullSel, InTable, OpenTask, Available, TssNamed, InGdt, HasTask, TaskHolds]
    decide +kernel

/-- Every kind of switch enters the new task. -/
theorem witness_TaskSwitches_enters (k : SwitchKind) :
    ∃ stored, TaskEnters k 0x38#16 (descAt (world prot) 0x38#16) (world prot).next (world prot)
      (taskEnd (taskStart k 0x38#16 (world prot))) stored := by
  cases k <;> refine taskEnters ⟨?_, ?_⟩ ?_ ⟨named ?_, named ?_⟩
  all_goals
    try simp only [NullSel, InTable, AtLevel, StackAt, IsTask, TaskHolds]
    decide +kernel

/-- IRET finds the task by the back link; an LDTR that cannot be loaded, at the old CPL, and a CS that is no code, after the
commit point. -/
theorem witness_TaskSwitches_returns_and_fails :
    (let b := world { prot with flags := { prot.flags with nt := true } } |> bytes 0x103D [0xEB] |> bytes 0x4000 [0x38]
     b.flags.nt = true ∧ wordAt b b.tr.base = 0x38#16 ∧ TssNamed b (wordAt b b.tr.base) BusyTask (descAt b 0x38#16)) ∧
    (let x := taskStart .jmp 0x38#16 (bytes 0x5060 [0x10] (world prot))
     LoadsFail (taskLoaders x.2) x.1 (excTS 0x10#16) x.1) ∧
    (let x := taskStart .jmp 0x38#16 (bytes 0x504C [0x10] (world prot))
     LoadsFail (taskLoaders x.2) x.1 (excTS 0x10#16) (taskLevel x)) := by
  refine ⟨⟨rfl, ?_, ?_⟩, ?_, ?_⟩
  · decide +kernel
  · simp only [TssNamed, InGdt, InTable, BusyTask]; decide +kernel
  · refine .inl ⟨⟨?_, .inr (.inl ⟨?_, ?_, ?_⟩)⟩, rfl⟩
    all_goals
      try simp only [NullSel, InTable]
      decide +kernel
  · intro x
    rw [taskLoaders, if_neg (by decide +kernel)]
    refine .inr ⟨_, [], ⟨rfl, .inl ⟨?_, rfl⟩⟩, .inr ⟨taskLevel x, [], ⟨?_, rfl⟩, .inl ⟨.inr (.inl ⟨?_, ?_, ?_⟩), rfl⟩⟩⟩
    · simp only [NullSel]; decide +kernel
    · rw [if_neg (by decide +kernel)]; rfl
    all_goals
      try simp only [NullSel, InTable, AtLevel]
      decide +kernel

/-- A TSS with the T bit: by JMP, by IRET, and by the task gate of vector 22. -/
theorem witness_TaskSwitches_traps :
    let b := bytes 0x5064 [1] (world prot)
    (∀ k, TaskTraps k 0x38#16 (descAt b 0x38#16) 0#32 b) ∧ GateTraps b 0x22#8 0#32 ∧ Accepts b false ∧
      b.cpl ≤ (gateAt b 0x22#8).dpl := by
  refine ⟨fun k => ?_, ⟨_, ⟨?_, ?_, ?_, ?_, rfl, ?_, ?_⟩, ?_⟩, accepts rfl _, by decide +kernel⟩
  · cases k <;> simp only [TaskTraps, IsTask, TaskHolds] <;> decide +kernel
  all_goals
    try simp only [Vectored, TaskGate, InGdt, InTable, Available, TaskTraps, IsTask, TaskHolds]
    decide +kernel

/-- The task that vector 22 leads to. -/
def gateTask : State × TaskImage := taskStart .int (gateAt (world prot) 0x22#8).gateSel (awake (world prot))

theorem taskEnters_gate : ∃ stored, TaskEnters .int (gateAt (world prot) 0x22#8).gateSel
    (descAt (awake (world prot)) (gateAt (world prot) 0x22#8).gateSel) (awake (world prot)).next (awake (world prot))
    (taskEnd gateTask) stored := by
  refine taskEnters ⟨?_, ?_⟩ ?_ ⟨named ?_, named ?_⟩
  all_goals
    try simp only [NullSel, InTable, AtLevel, StackAt, IsTask, TaskHolds]
    decide +kernel

/-- Vector 22 enters the new task, with an error code. -/
theorem witness_TaskSwitches_delivers :
    ∃ t stored, TaskDelivers (world prot) 0x22#8 (awake (world prot)).next (some 0#16) t stored := by
  obtain ⟨s1, h⟩ := taskEnters_gate
  have hg : GateTask (world prot) 0x22#8 (descAt (awake (world prot)) (gateAt (world prot) 0x22#8).gateSel) := by
    simp only [GateTask, Vectored, TaskGate, TssNamed, InGdt, InTable, Available]
    decide +kernel
  have hr : Room (taskEnd gateTask) .s32 1 := by simp only [Room]; decide +kernel
  have hc : InCode (taskEnd gateTask) (taskEnd gateTask).eip := by simp only [InCode]; decide +kernel
  have hz : taskSize (descAt (awake (world prot)) (gateAt (world prot) 0x22#8).gateSel) = .s32 := by decide +kernel
  exact ⟨_, _, _, _, s1, hg, h, by rw [hz]; exact hr, hc, rfl, rfl⟩

/-- A task gate clears the TF that the new task's image sets (10_state.md R38, 60_exceptions.md R513). -/
theorem test_R513_task_gate : after (.intImm8 0x22#8) (bytes 0x5025 [1] (world prot))
    (fun t => (t.tr.sel, t.flags.tf, t.flags.nt)) = some (0x38#16, false, true) := by decide +kernel

/-- The V86 state in that world. -/
def vworld : State := { world (v86 3#2) with idtr := prot.idtr }

/-- Vector 21 can be delivered, also as a software interrupt. -/
def Gates (s : State) : Prop :=
  Accepts s false ∧ s.cr0.pg = false ∧ Vectored s 0x21#8 ∧ IntGate (gateAt s 0x21#8) ∧ (gateAt s 0x21#8).p = true ∧
    Named s (gateAt s 0x21#8).gateSel (fun d => d.isCode = true) (descAt s (gateAt s 0x21#8).gateSel) ∧
    s.cpl ≤ (gateAt s 0x21#8).dpl

theorem gates_world : Gates (world prot) ∧ Gates (world user) ∧ Gates vworld := by
  refine ⟨⟨accepts rfl _, rfl, ?_, ?_, ?_, named ?_, ?_⟩, ⟨accepts rfl _, rfl, ?_, ?_, ?_, named ?_, ?_⟩,
    ⟨accepts rfl _, rfl, ?_, ?_, ?_, named ?_, ?_⟩⟩
  all_goals
    try simp only [NullSel, InTable, Vectored, IntGate]
    decide +kernel

/-- With and without an error code, at the same level. -/
theorem witness_DeliverySameLevel (f : Flags) (ret : Dword) :
    (world prot).mode = .prot ∧ Gates (world prot) ∧
      ∀ code, ∃ t stored, SameLevel (world prot) (gateAt (world prot) 0x21#8)
        (descAt (world prot) (gateAt (world prot) 0x21#8).gateSel) f ret code t stored := by
  refine ⟨rfl, gates_world.1, fun code => ?_⟩
  cases code with
  | none => refine ⟨_, _, .inr ?_, ?_, ?_, rfl, rfl⟩ <;> try simp only [Within, Room]
            all_goals decide +kernel
  | some w =>
    refine ⟨_, _, .inr ?_, ?_, (?_ : Room (world prot) _ 4), rfl, rfl⟩ <;> try simp only [Within, Room]
    all_goals decide +kernel

/-- The same state with a TSS of the 80286 layout, SS0:SP0 in bytes 2 to 5. -/
def oldTss : State := { world user with tr := { (world user).tr with typ := 3#4, limit := 0x2B#32 } }
  |> bytes 0x4002 [0xFF, 0, 0x10, 0]

/-- Inward by a TSS of either layout, and out of V86 mode. -/
theorem witness_DeliveryInnerLevel (f : Flags) (ret : Dword) :
    ((world user).mode = .prot ∧ Gates (world user) ∧ oldTss.mode = .prot ∧ vworld.mode = .v86 ∧ Gates vworld) ∧
      (∃ t stored, InnerLevel (world user) (gateAt (world user) 0x21#8)
        (descAt (world user) (gateAt (world user) 0x21#8).gateSel) f ret (some 0#16) t stored) ∧
      (∃ t stored, InnerLevel oldTss (gateAt oldTss 0x21#8) (descAt oldTss (gateAt oldTss 0x21#8).gateSel) f ret none t stored) ∧
      (∃ t stored, FromV86 vworld (gateAt vworld 0x21#8) (descAt vworld (gateAt vworld 0x21#8).gateSel) f ret none t stored) := by
  refine ⟨⟨rfl, gates_world.2.1, rfl, rfl, gates_world.2.2⟩,
    ⟨_, _, ?_, ?_, ?_, descAt (world user) 0x10#16, ⟨?_, ?_, ?_, ?_, ?_, ?_, ?_⟩, ?_, rfl, rfl⟩,
    ⟨_, _, ?_, ?_, ?_, descAt oldTss 0x10#16, ⟨?_, ?_, ?_, ?_, ?_, ?_, ?_⟩, ?_, rfl, rfl⟩,
    ⟨_, _, ?_, ?_, descAt vworld 0x10#16, ⟨?_, ?_, ?_, ?_, ?_, ?_, ?_⟩, ?_, rfl, rfl⟩⟩
  all_goals
    try simp only [NullSel, InTable, IsTask, InnerListed, StackAt, Within, Room]
    decide +kernel

/-- A TSS one byte too short for ESP0 and SS0. -/
def shortTss (s : State) : State := { s with tr := { s.tr with limit := 8#32 } }

theorem handlerFails_short :
    (let s := shortTss (world user)
     HandlerFails s (gateAt s 0x21#8) (descAt s (gateAt s 0x21#8).gateSel) 0 (excTS 0x40#16)) ∧
    (let s := shortTss vworld
     HandlerFails s (gateAt s 0x21#8) (descAt s (gateAt s 0x21#8).gateSel) 0 (excTS 0x40#16)) := by
  refine ⟨?_, ?_⟩ <;> intro s <;> unfold HandlerFails
  · rw [if_neg (by decide +kernel), if_pos (by decide +kernel)]
    exact .inl ⟨by simp only [IsTask]; decide +kernel, .inl ⟨by simp only [InnerListed]; decide +kernel, by decide +kernel⟩⟩
  · rw [if_pos (by decide +kernel)]
    exact .inr ⟨by decide +kernel, by decide +kernel, .inl ⟨by simp only [IsTask]; decide +kernel,
      .inl ⟨by simp only [InnerListed]; decide +kernel, by decide +kernel⟩⟩⟩

/-- Failing deliveries: a vector one byte beyond the IDT; a gate more privileged than CPL; a gate that is not present; a busy task;
no inner stack, from CPL 3 and from V86 mode. -/
theorem witness_DeliveryFails :
    ((world user).mode ≠ .real ∧ (world user).cr0.pg = false ∧ Accepts (world user) false) ∧
    GateFails { world user with idtr := { base := 0x2000#32, limit := 0x10E#16 } } 0x21#8 false none (excGP 0x10A#16) ∧
    GateFails (world user) 2#8 true none (excGP 0x12#16) ∧
    GateFails (bytes 0x210D [0x6E] (world user)) 0x21#8 false none (excNP 0x10A#16) ∧
    GateFails (bytes 0x103D [0xEB] (world user)) 0x22#8 false none (excTS 0x38#16) ∧
    GateFails (shortTss (world user)) 0x21#8 false none (excTS 0x40#16) ∧
    GateFails (shortTss vworld) 0x21#8 false none (excTS 0x40#16) := by
  refine ⟨⟨by decide +kernel, rfl, accepts rfl _⟩, .inl ⟨?_, ?_⟩, .inl ⟨?_, ?_⟩, .inr (.inl ⟨?_, ?_, ?_⟩),
    .inr (.inr ⟨?_, ?_, .inl ⟨?_, .inl (.inl ⟨?_, ?_⟩)⟩⟩),
    .inr (.inr ⟨?_, ?_, .inr ⟨?_, .inr ⟨_, named ?_, handlerFails_short.1⟩⟩⟩),
    .inr (.inr ⟨?_, ?_, .inr ⟨?_, .inr ⟨_, named ?_, handlerFails_short.2⟩⟩⟩)⟩
  all_goals
    try simp only [Vectored, IntGate, TaskGate, InGdt, Available, NullSel, InTable]
    decide +kernel

/-- A 16-bit interrupt gate, from V86 mode. -/
theorem witness_DeliveryFails_short :
    (let s := bytes 0x210D [0xE6] vworld
     ShortGateFromV86 s 0x21#8 ∧ ShortGateFromV86 (begun s) 0x21#8 ∧ Software s 0x21#8 (.intImm8 0x21#8)) := by
  refine ⟨⟨rfl, ?_, ?_, ?_, ?_, _, named ?_, ?_⟩, ⟨rfl, ?_, ?_, ?_, ?_, _, named ?_, ?_⟩, .inl ⟨rfl, fun _ => rfl⟩⟩
  all_goals
    try simp only [Vectored, IntGate, NullSel, InTable]
    decide +kernel

/-- The same task with a CS whose limit its EIP is beyond. -/
def beyond : State := bytes 0x504C [0x48] (world prot)

theorem taskEnters_beyond : ∃ stored, TaskEnters .int (gateAt beyond 0x22#8).gateSel
    (descAt (awake beyond) (gateAt beyond 0x22#8).gateSel) (awake beyond).next (awake beyond)
    (taskEnd (taskStart .int (gateAt beyond 0x22#8).gateSel (awake beyond))) stored := by
  refine taskEnters ⟨?_, ?_⟩ ?_ ⟨named ?_, named ?_⟩
  all_goals
    try simp only [NullSel, InTable, AtLevel, StackAt, IsTask, TaskHolds]
    decide +kernel

/-- It raises #GP(0) in the new task. -/
theorem witness_DeliveryFails_task :
    ∃ u, TaskDeliveryFails beyond 0x22#8 (awake beyond).next none (excGP 0#16) u ∧ ¬ InCode u u.eip := by
  obtain ⟨s1, h⟩ := taskEnters_beyond
  have hg : GateTask beyond 0x22#8 (descAt (awake beyond) (gateAt beyond 0x22#8).gateSel) := by
    simp only [GateTask, Vectored, TaskGate, TssNamed, InGdt, InTable, Available]
    decide +kernel
  have hc : ¬ InCode (taskEnd (taskStart .int (gateAt beyond 0x22#8).gateSel (awake beyond)))
      (taskEnd (taskStart .int (gateAt beyond 0x22#8).gateSel (awake beyond))).eip := by
    simp only [InCode]; decide +kernel
  have hu : ∀ v : State, ¬ InCode v v.eip → ¬ InCode (unstepped v) (unstepped v).eip := fun _ h => h
  exact ⟨unstepped _, ⟨_, hg, .inr ⟨_, _, h, .inr ⟨fun i hi => absurd hi (Nat.not_lt_zero i), hc, rfl, rfl⟩⟩⟩, hu _ hc⟩

/-- An NMI in shutdown in protected mode: delivered, and one byte beyond the IDT. -/
theorem witness_BoundaryEvents_protected :
    (let s := { world prot with shutdown := true, nmiPending := true }
     let up := { s with nmiPending := false, nmiBlocked := true, halted := false, shutdown := false }
     (s.pins.reset = false ∧ s.nmiBlocked = false ∧ s.mode = .prot ∧ s.cr0.pg = false ∧ Vectored s 2#8 ∧ IntGate (gateAt s 2#8) ∧
       (gateAt s 2#8).p = true) ∧
     Named s (gateAt s 2#8).gateSel (fun d => d.isCode = true) (descAt s (gateAt s 2#8).gateSel) ∧
     ∃ t stored, SameLevel up (gateAt s 2#8) (descAt s (gateAt s 2#8).gateSel) { s.flags with rf := false } s.eip none t stored) ∧
    (let up := { world prot with nmiBlocked := true, idtr := { base := 0x2000#32, limit := 0x16#16 } }
     ∃ e u, DeliveryFault up up 2#8 up.eip false none e u) := by
  refine ⟨⟨⟨rfl, rfl, rfl, rfl, ?_, ?_, ?_⟩, named ?_, _, _, .inr ?_, ?_, ?_, rfl, rfl⟩, _, _, .inl ⟨.inl ⟨?_, rfl⟩, rfl⟩⟩
  all_goals
    try simp only [Vectored, IntGate, TaskGate, NullSel, InTable, Within, Room]
    decide +kernel

/-- The stack-pointer test state with another limit of the interrupt table. -/
def idtLimit (n : Word) : State := { stackAt 6 with idtr := { base := 0#32, limit := n } }

theorem witness_DoubleFaultAndShutdown :
    (∀ n, (idtLimit n).cr0.pe = false ∧ (idtLimit n).cr0.pg = false) ∧
    ((idtLimit 54#16).idtr.limit.toNat < 4 * (13#8 : Byte).toNat + 3 ∧
      (13#8 : Byte) ∈ ([0#8, 10#8, 11#8, 12#8, 13#8, 14#8] : List Byte) ∧ Deliverable (idtLimit 54#16) 8#8) ∧
    ((idtLimit 34#16).idtr.limit.toNat < 4 * (8#8 : Byte).toNat + 3 ∧ (idtLimit 34#16).idtr.limit.toNat < 35 ∧
      (8#8 : Byte) ∈ ([0#8, 10#8, 11#8, 12#8, 13#8, 14#8, 8#8] : List Byte)) ∧
    ((idtLimit 55#16).idtr.limit.toNat < 4 * (14#8 : Byte).toNat + 3 ∧ (idtLimit 55#16).idtr.limit.toNat < 4 * (0x21#8 : Byte).toNat + 3 ∧
      (0x21#8 : Byte) ∉ ([0#8, 10#8, 11#8, 12#8, 13#8, 14#8, 8#8] : List Byte) ∧ Deliverable (idtLimit 55#16) 13#8) ∧
    (Accepts (stackAt 3) false ∧ ¬ Room (stackAt 3) .s16 3) := by
  refine ⟨fun n => ⟨rfl, rfl⟩, ⟨by decide, by decide, deliverable (by decide +kernel)⟩, by decide +kernel,
    ⟨by decide, by decide, by decide, deliverable (by decide +kernel)⟩, accepts rfl _, ?_⟩
  unfold Room
  decide +kernel

theorem regular {s : State} (h : (s.flags.vm = true → s.cr0.pe = true) ∧ (s.cr0.pg = true → s.cr0.pe = true) ∧
    ¬ (s.dr7.getLsbD 13 = true ∨ ∃ i, i < 8 ∧ s.dr7.getLsbD i = true)) : Regular s := h

/-- One state for each event. -/
theorem witness_BoundaryEvents :
    ({ st with pins := { st.pins with reset := true } } : State).pins.reset = true ∧
    (let s := { stackAt 6 with shutdown := true }
     s.pins.reset = false ∧ Regular s ∧ s.shutdown = true ∧ ¬ (s.nmiPending = true ∧ s.nmiBlocked = false)) ∧
    (let s := { stackAt 6 with shutdown := true, nmiPending := true }
     s.pins.reset = false ∧ Regular s ∧ s.shutdown = true ∧ s.nmiPending = true ∧ s.nmiBlocked = false ∧ Deliverable s 2#8) ∧
    (let s := { stackAt 6 with trapPending := true }
     Regular s ∧ s.shutdown = false ∧ TrapDue s ∧ Deliverable s 1#8) ∧
    (let s := { stackAt 6 with nmiPending := true, inhibit := .sti }
     Regular s ∧ s.shutdown = false ∧ ¬ TrapDue s ∧ NmiDue s ∧ Deliverable s 2#8) ∧
    (let s := { stackAt 6 with pins := { st.pins with intr := some 0xFF#8 } }
     Regular s ∧ s.shutdown = false ∧ ¬ TrapDue s ∧ ¬ NmiDue s ∧ IntrDue s 0xFF#8 ∧ Deliverable s 0xFF#8) ∧
    (let s := { stackAt 6 with halted := true }
     Regular s ∧ s.shutdown = false ∧ ¬ TrapDue s ∧ ¬ NmiDue s ∧ (∀ v, ¬ IntrDue s v) ∧ s.halted = true) := by
  unfold TrapDue NmiDue IntrDue
  exact ⟨rfl, ⟨rfl, regular (by decide +kernel), rfl, by decide +kernel⟩,
    ⟨rfl, regular (by decide +kernel), rfl, rfl, rfl, deliverable (by decide +kernel)⟩,
    ⟨regular (by decide +kernel), rfl, by decide +kernel, deliverable (by decide +kernel)⟩,
    ⟨regular (by decide +kernel), rfl, by decide +kernel, by decide +kernel, deliverable (by decide +kernel)⟩,
    ⟨regular (by decide +kernel), rfl, by decide +kernel, by decide +kernel, by decide +kernel, deliverable (by decide +kernel)⟩,
    regular (by decide +kernel), rfl, by decide +kernel, by decide +kernel, (fun v h => nomatch h.1), rfl⟩

/-- Seven operand-size prefixes and MOV dword [1000H],12345678H: 15 bytes, the longest an instruction may be. -/
def longest : List Byte := List.replicate 7 0x66 ++ [0xC7, 0x06, 0x00, 0x10, 0x78, 0x56, 0x34, 0x12]

/-- The test state with code at CS:IP. -/
def running (code : List Byte) (s : State) : State := bytes (s.cs.base + s.eip).toNat code s

theorem witness_StepRunsDecoded :
    let s := running longest st
    let ps := List.replicate 7 Instr.operandSizePrefix
    let i := Instr.movRmImm (.mem (.direct16 0x1000#16)) (.i32 0x12345678#32)
    let p := { Prefixes.none with osz := true }
    Quiet s ∧ withPrefixes Prefixes.none ps = some p ∧ isPrefix i = false ∧
      i.wf (sizeUnder s p.osz) (sizeUnder s p.asz) = true ∧ CodeAt s (ps.flatMap encode ++ encode i) ∧
      (s.queue.jumpNeeded = true → isJump i = true) := by
  refine ⟨⟨rfl, regular (by decide +kernel), rfl, rfl, ?_, ?_, fun v h => nomatch h.1⟩, rfl, rfl, by decide +kernel, ?_,
    fun h => absurd h (by decide +kernel)⟩
  · unfold TrapDue; decide +kernel
  · unfold NmiDue; decide +kernel
  · unfold CodeAt; decide +kernel

theorem witness_PrefixesRecorded :
    isPrefix .repPrefix = true ∧ withPrefix st.pfx .repPrefix = some { Prefixes.none with rep := some .repe } ∧
      withPrefix (repeated .repne st).pfx .repPrefix = none ∧ isPrefix .nop = false ∧ isUnassigned .nop = false ∧
      BadPrefix locked .nop ∧ BadPrefix (repeated .repe st) .nop ∧ BadPrefix (repeated .repne st) (.movsb .s16) := by
  unfold BadPrefix
  decide +kernel

theorem witness_RoundTrip : (Instr.popMem .s32 (.sib 3#2 .sp .bp (.d8 0x80#8))).wf .s32 .s32 = true := by decide

theorem witness_ResetState : ({ st with pins := { st.pins with reset := true } } : State).pins.reset = true := rfl

/-- Whether a step gives a next state. -/
def completes (s : State) : Bool :=
  match step s with
  | .next _ => true
  | .fault _ => false
  | .refused _ => false

theorem completes_iff {s : State} (h : completes s = true) : ∃ t, step s = .next t := by
  unfold completes at h
  split at h
  · exact ⟨_, by assumption⟩
  · cases h
  · cases h

theorem witness_StepKeepsInv : State.Inv (running [0x90] user) ∧ ∃ t, step (running [0x90] user) = .next t :=
  ⟨⟨by decide +kernel, by decide +kernel, by decide +kernel, by decide +kernel, by decide +kernel, by decide +kernel⟩,
    completes_iff (by decide +kernel)⟩

theorem witness_UserKeepsSystemRegisters :
    (running [0x90] user).pins.reset = false ∧ ¬ Privileged (running [0x90] user) ∧
      ∃ t, step (running [0x90] user) = .next t := by
  refine ⟨rfl, ?_, completes_iff (by decide +kernel)⟩
  unfold Privileged
  decide +kernel

/-! ## Steps -/

/-- What `f` sees after one step. -/
def stepped {α : Type} (s : State) (f : State → α) : Option α :=
  match step s with
  | .next t => some (f t)
  | .fault _ => none
  | .refused _ => none

theorem test_V9_7_prefix : stepped (running [0x66, 0xB8, 0x78, 0x56, 0x34, 0x12] st) (fun t => (t.regs.eax, t.eip)) =
    some (0x12345678#32, 0x106#32) := by decide +kernel
theorem test_V17_6_both_prefixes : stepped (bytes 0x20023 [0x78, 0x56, 0x34, 0x12]
    (set .bx 7 (running [0x66, 0x67, 0x8B, 0x04, 0x9B] st))) (fun t => (t.regs.eax, t.eip)) =
    some (0x12345678#32, 0x105#32) := by decide +kernel
theorem test_V17_8_conflict : (match step (running [0x26, 0x2E, 0x8B, 0x07] st) with
    | .refused .conflictingPrefixes => true
    | _ => false) = true := by decide +kernel
theorem test_V17_9_too_long : stepped (bytes 0x34 [0x78, 0x56, 0x34, 0x12]
    (running (List.replicate 14 0x66 ++ [0xB8, 0x34, 0x12, 0, 0]) st)) (fun t => (t.eip, t.cs.sel, t.byte 0x300FA)) =
    some (0x5678#32, 0x1234#16, 0#8) := by decide +kernel
theorem test_V17_15_unlisted : [[0x0F, 0xFF], [0xD6], [0xF1], [0xD0, 0xF0]].all (fun code =>
    match step (running code st) with
    | .refused .unlistedEncoding => true
    | _ => false) = true := by decide +kernel
theorem test_V18_7_single_step : stepped (running [0x40] (flags (fun f => { f with tf := true }) st))
    (fun t => (t.regs.eax, t.trapPending)) = some (1#32, true) := by decide +kernel
theorem test_V13_7_shadow : stepped (running [0xBC, 0x00, 0x01] { st with inhibit := .all, nmiPending := true })
    (fun t => (t.eip, t.nmiPending, t.inhibit)) = some (0x103#32, true, .none) := by decide +kernel
theorem test_V18_11_reset : stepped { st with pins := { st.pins with reset := true } }
    (fun t => (t.eip, t.cs.sel, t.cs.base, eflags t.flags)) =
    some (0xFFF0#32, 0xF000#16, 0xFFFF0000#32, 2#32) := by decide +kernel

end

end Sys2Proof.Tests
end

section
/-! PROOFS. The state of 10_state.md: the flags of a sum and of a difference as exact arithmetic (R37), and the byte and word
views of the general registers (R31 to R33). -/

namespace Sys2Proof.Machine

open Sys2Proof.Claims

/-! ## Results as exact arithmetic

The difference a - b - c is the number whose sum with b and c is a (`addResult_subResult`), so each fact about a difference
follows from the fact about that sum. -/

theorem width_bits_pos (w : Width) : 0 < w.bits := by cases w <;> decide

theorem toNat_addResult {n : Nat} (a b : BitVec n) (c : Bool) :
    (addResult a b c).toNat = (a.toNat + b.toNat + c.toNat) % 2 ^ n := by
  simp [addResult]

/-- An exact sum is below twice the modulus, so reducing it takes away the modulus at most once. -/
theorem addResult_cases {n : Nat} (a b : BitVec n) (c : Bool) :
    (addResult a b c).toNat = a.toNat + b.toNat + c.toNat ∨
      (addResult a b c).toNat + 2 ^ n = a.toNat + b.toNat + c.toNat := by
  have hc := c.toNat_le
  have ha := a.isLt
  have hb := b.isLt
  rw [toNat_addResult]
  rcases Nat.lt_or_ge (a.toNat + b.toNat + c.toNat) (2 ^ n) with h | h
  · exact .inl (Nat.mod_eq_of_lt h)
  · right
    rw [Nat.mod_eq_sub_mod h, Nat.mod_eq_of_lt (by omega)]
    omega

theorem addResult_subResult {n : Nat} (a b : BitVec n) (c : Bool) : addResult (subResult a b c) b c = a := by
  unfold addResult subResult
  ring

theorem subResult_cases {n : Nat} (a b : BitVec n) (c : Bool) :
    a.toNat = (subResult a b c).toNat + b.toNat + c.toNat ∨
      a.toNat + 2 ^ n = (subResult a b c).toNat + b.toNat + c.toNat := by
  simpa only [addResult_subResult] using addResult_cases (subResult a b c) b c

theorem toNat_subResult {n : Nat} (a b : BitVec n) (c : Bool) :
    ((subResult a b c).toNat : Int) = ((a.toNat : Int) - b.toNat - c.toNat) % 2 ^ n := by
  have hr := (subResult a b c).isLt
  rcases subResult_cases a b c with h | h
  · rw [Int.emod_eq_of_lt] <;> zify at * <;> omega
  · rw [← Int.add_emod_right, Int.emod_eq_of_lt] <;> zify at * <;> omega

/-! ## The signed overflow -/

/-- The signed value of a sum is the exact signed sum unless the operands have one sign and the result the other. -/
theorem toInt_addResult_ne_iff {n : Nat} (hn : 0 < n) (a b : BitVec n) (c : Bool) :
    (addResult a b c).toInt ≠ a.toInt + b.toInt + c.toNat ↔ a.msb = b.msb ∧ (addResult a b c).msb ≠ a.msb := by
  obtain ⟨half, hhalf⟩ : ∃ half, 2 ^ n = 2 * half := ⟨2 ^ (n - 1), (Nat.two_pow_pred_mul_two hn).symm.trans (Nat.mul_comm _ _)⟩
  have hsum := addResult_cases a b c
  have hc := c.toNat_le
  have ha := a.isLt
  have hb := b.isLt
  have hr := (addResult a b c).isLt
  have same_sign (x y : BitVec n) : x.msb = y.msb ↔ (2 ^ n ≤ 2 * x.toNat ↔ 2 ^ n ≤ 2 * y.toNat) := by
    simp only [← ge_iff_le, ← BitVec.msb_eq_true_iff_two_mul_ge, Bool.coe_iff_coe]
  simp only [ne_eq, same_sign, BitVec.toInt_eq_toNat_cond]
  simp only [hhalf] at *
  omega

theorem toInt_subResult_ne_iff {n : Nat} (hn : 0 < n) (a b : BitVec n) (c : Bool) :
    (subResult a b c).toInt ≠ a.toInt - b.toInt - c.toNat ↔ a.msb ≠ b.msb ∧ (subResult a b c).msb ≠ a.msb := by
  have hsum := toInt_addResult_ne_iff hn (subResult a b c) b c
  rw [addResult_subResult] at hsum
  calc (subResult a b c).toInt ≠ a.toInt - b.toInt - c.toNat
      ↔ a.toInt ≠ (subResult a b c).toInt + b.toInt + c.toNat := by omega
    _ ↔ (subResult a b c).msb = b.msb ∧ a.msb ≠ (subResult a b c).msb := hsum
    _ ↔ a.msb ≠ b.msb ∧ (subResult a b c).msb ≠ a.msb := by
      cases a.msb <;> cases b.msb <;> cases (subResult a b c).msb <;> decide

/-! ## The flags -/

/-- The exclusive or of the bits `p i` tells whether an odd number of them are set. -/
theorem foldl_xor_eq_odd_count (p : Nat → Bool) (l : List Nat) (b : Bool) :
    l.foldl (fun x i => x ^^ p i) b = (b ^^ decide (l.countP p % 2 = 1)) := by
  induction l generalizing b with
  | nil => simp
  | cons i l ih =>
    rw [List.foldl_cons, ih, List.countP_cons]
    cases p i with
    | false => simp
    | true =>
      have hodd (k : Nat) : decide ((k + 1) % 2 = 1) = !decide (k % 2 = 1) := by
        rw [← decide_not, decide_eq_decide]
        omega
      simp [hodd]

theorem parity_eq_even_count {n : Nat} (r : BitVec n) :
    parity r = decide (((List.range 8).countP fun i => r.getLsbD i) % 2 = 0) := by
  have hfold : parity r = !((List.range 8).foldl (fun x i => x ^^ r.getLsbD i) false) := by
    simp [parity, List.range_succ]
  rw [hfold, foldl_xor_eq_odd_count, Bool.false_xor, ← decide_not, decide_eq_decide]
  exact Nat.mod_two_not_eq_one

/-- `SZP_N` by the value of the result (10_state.md R37). -/
theorem szpFlags_eq {n : Nat} (r : BitVec n) (f : Flags) :
    szpFlags r f = { f with
      zf := decide (r.toNat = 0), sf := decide (r.toInt < 0)
      pf := decide (((List.range 8).countP fun i => r.getLsbD i) % 2 = 0) } := by
  have hzero : (r == 0#n) = decide (r.toNat = 0) := by
    rw [Bool.eq_iff_iff, beq_iff_eq, decide_eq_true_iff, BitVec.toNat_eq, BitVec.toNat_zero]
  simp only [szpFlags, hzero, BitVec.msb_eq_toInt, parity_eq_even_count]

theorem addFlags_eq {n : Nat} (hn : 0 < n) (a b : BitVec n) (c : Bool) (f : Flags) :
    addFlags a b c f = { f with
      cf := decide (2 ^ n ≤ a.toNat + b.toNat + c.toNat)
      ov := decide ((addResult a b c).toInt ≠ a.toInt + b.toInt + c.toNat)
      af := decide (16 ≤ a.toNat % 16 + b.toNat % 16 + c.toNat)
      zf := decide ((addResult a b c).toNat = 0)
      sf := decide ((addResult a b c).toInt < 0)
      pf := decide (((List.range 8).countP fun i => (addResult a b c).getLsbD i) % 2 = 0) } := by
  have haf : 16 ≤ nibble a + nibble b + c.toNat ↔ 16 ≤ a.toNat % 16 + b.toNat % 16 + c.toNat := Iff.rfl
  have hov : (a.msb == b.msb && (addResult a b c).msb != a.msb) =
      decide ((addResult a b c).toInt ≠ a.toInt + b.toInt + c.toNat) := by
    rw [Bool.eq_iff_iff, decide_eq_true_iff, toInt_addResult_ne_iff hn]; simp
  simp only [addFlags, szpFlags_eq, haf, hov]

theorem subFlags_eq {n : Nat} (hn : 0 < n) (a b : BitVec n) (c : Bool) (f : Flags) :
    subFlags a b c f = { f with
      cf := decide ((a.toNat : Int) - b.toNat - c.toNat < 0)
      ov := decide ((subResult a b c).toInt ≠ a.toInt - b.toInt - c.toNat)
      af := decide ((a.toNat % 16 : Int) - b.toNat % 16 - c.toNat < 0)
      zf := decide ((subResult a b c).toNat = 0)
      sf := decide ((subResult a b c).toInt < 0)
      pf := decide (((List.range 8).countP fun i => (subResult a b c).getLsbD i) % 2 = 0) } := by
  have hcf : a.toNat < b.toNat + c.toNat ↔ (a.toNat : Int) - b.toNat - c.toNat < 0 := by omega
  have haf : nibble a < nibble b + c.toNat ↔ (a.toNat % 16 : Int) - b.toNat % 16 - c.toNat < 0 := by
    unfold nibble; omega
  have hov : (a.msb != b.msb && (subResult a b c).msb != a.msb) =
      decide ((subResult a b c).toInt ≠ a.toInt - b.toInt - c.toNat) := by
    rw [Bool.eq_iff_iff, decide_eq_true_iff, toInt_subResult_ne_iff hn]; simp
  simp only [subFlags, szpFlags_eq, hcf, haf, hov]

/-- Settles O2: a sum is reduced at most once by the modulus, which gives the overflow; a difference is read as a sum. -/
theorem sumAndDifferenceFlags : Obligations.SumAndDifferenceFlags := by
  unfold Obligations.SumAndDifferenceFlags
  intro w a b c f
  have hw := width_bits_pos w
  exact ⟨toNat_addResult a b c, addFlags_eq hw a b c f, toNat_subResult a b c, subFlags_eq hw a b c f⟩

/-! ## The views of a general register -/

theorem homeOf_b8 (r : Reg) : homeOf .b8 r = byteHome r := by cases r <;> rfl
theorem homeOf_b16 (r : Reg) : homeOf .b16 r = r := by cases r <;> rfl
theorem homeOf_b32 (r : Reg) : homeOf .b32 r = r := by cases r <;> rfl
theorem startOf_b8 (r : Reg) : startOf .b8 r = if isHighByte r then 8 else 0 := by cases r <;> rfl
theorem startOf_b16 (r : Reg) : startOf .b16 r = 0 := by cases r <;> rfl
theorem startOf_b32 (r : Reg) : startOf .b32 r = 0 := by cases r <;> rfl

/-- `new` is `old` with the `w` bits from bit `k` on replaced by `v`. -/
def Spliced {w : Nat} (new old : Dword) (k : Nat) (v : BitVec w) : Prop :=
  ∀ i, i < 32 → new.getLsbD i = if k ≤ i ∧ i < k + w then v.getLsbD (i - k) else old.getLsbD i

theorem setLow16_spliced (old : Dword) (v : Word) : Spliced (setLow16 old v) old 0 v := by
  intro i hi
  simp only [setLow16, BitVec.getLsbD_append, BitVec.getLsbD_extractLsb']
  grind

theorem setLow8_spliced (old : Dword) (v : Byte) : Spliced (setLow8 old v) old 0 v := by
  intro i hi
  simp only [setLow8, BitVec.getLsbD_append, BitVec.getLsbD_extractLsb']
  grind

theorem setHigh8_spliced (old : Dword) (v : Byte) : Spliced (setHigh8 old v) old 8 v := by
  intro i hi
  simp only [setHigh8, BitVec.getLsbD_append, BitVec.getLsbD_extractLsb']
  grind

theorem spliced_whole (old v : Dword) : Spliced v old 0 v := by
  intro i hi
  rw [if_pos (by omega), Nat.sub_zero]

theorem reg_b32 (s : State) (q : Reg) : s.reg .b32 q = s.regs.get q := rfl

/-- A read at any width is a part of the register that holds the operand (10_state.md R31, R32). -/
theorem getLsbD_read (g : GeneralRegs) (w : Width) (r : Reg) {i : Nat} (hi : i < w.bits) :
    (g.read w r).getLsbD i = (g.get (homeOf w r)).getLsbD (startOf w r + i) := by
  cases w with
  | b8 =>
    rw [homeOf_b8, startOf_b8, GeneralRegs.read]
    split <;> simp only [BitVec.getLsbD_extractLsb', decide_eq_true hi, Bool.true_and]
  | b16 =>
    rw [homeOf_b16, startOf_b16, GeneralRegs.read]
    simp only [BitVec.getLsbD_extractLsb', decide_eq_true hi, Bool.true_and]
  | b32 => rw [homeOf_b32, startOf_b32, Nat.zero_add]; rfl

/-- A write at any width sets one register, spliced from its old value and the operand (10_state.md R33). -/
theorem write_eq_set (g : GeneralRegs) (w : Width) (r : Reg) (v : BitVec w.bits) :
    ∃ new, g.write w r v = g.set (homeOf w r) new ∧ Spliced new (g.get (homeOf w r)) (startOf w r) v := by
  cases w with
  | b8 =>
    rw [homeOf_b8, startOf_b8]
    refine ⟨_, rfl, ?_⟩
    split
    · exact setHigh8_spliced _ v
    · exact setLow8_spliced _ v
  | b16 =>
    rw [homeOf_b16, startOf_b16]
    exact ⟨_, rfl, setLow16_spliced _ v⟩
  | b32 =>
    rw [homeOf_b32, startOf_b32]
    exact ⟨_, rfl, spliced_whole _ v⟩

theorem get_write_home (g : GeneralRegs) (w : Width) (r : Reg) (v : BitVec w.bits) :
    Spliced ((g.write w r v).get (homeOf w r)) (g.get (homeOf w r)) (startOf w r) v := by
  obtain ⟨new, hset, hnew⟩ := write_eq_set g w r v
  rwa [hset, get_set_same]

theorem get_write_other (g : GeneralRegs) (w : Width) {r q : Reg} (v : BitVec w.bits) (h : q ≠ homeOf w r) :
    (g.write w r v).get q = g.get q := by
  obtain ⟨new, hset, -⟩ := write_eq_set g w r v
  rw [hset, get_set_other g new h]

/-- Settles O41: a read is a part of the operand's home register, and a write splices into that register alone. -/
theorem registerViews : Obligations.RegisterViews := by
  unfold Obligations.RegisterViews
  intro s w r v q i
  refine ⟨fun hi => getLsbD_read s.regs w r hi, fun hi => ?_⟩
  simp only [reg_b32, setReg_regs]
  by_cases hq : q = homeOf w r
  · subst hq
    simpa only [true_and] using get_write_home s.regs w r v i hi
  · rw [get_write_other s.regs w v hq, if_neg (fun h => hq h.1)]

end Sys2Proof.Machine
end

section
/-! PROOFS. The operations of the processor that leave its mode and its privilege level, and what they keep of the invariant. -/

namespace Sys2Proof.Machine

/-! ## Steady operations -/

/-- From `s` to `t` neither the mode nor the privilege level changes, and the other parts of the invariant are kept. -/
structure Calm (s t : State) : Prop where
  pe : t.cr0.pe = s.cr0.pe
  pg : t.cr0.pg = s.cr0.pg
  cpl : t.cpl = s.cpl
  vm : t.flags.vm = s.flags.vm
  mem : Memory.wf s.mem = true → Memory.wf t.mem = true
  cr3 : s.cr3.extractLsb' 0 12 = 0#12 → t.cr3.extractLsb' 0 12 = 0#12
  dr7 : breakpointsOn s.dr7 = false → breakpointsOn t.dr7 = false

theorem Calm.refl (s : State) : Calm s s := ⟨rfl, rfl, rfl, rfl, id, id, id⟩

theorem Calm.trans {s t u : State} (h : Calm s t) (h' : Calm t u) : Calm s u :=
  ⟨h'.pe.trans h.pe, h'.pg.trans h.pg, h'.cpl.trans h.cpl, h'.vm.trans h.vm, h'.mem ∘ h.mem, h'.cr3 ∘ h.cr3, h'.dr7 ∘ h.dr7⟩

theorem Touches.calm {s t : State} (h : Touches s t) (hm : Memory.wf s.mem = true → Memory.wf t.mem = true) : Calm s t := by
  have h : t = { s with mem := t.mem, tlb := t.tlb, draws := t.draws, cr2 := t.cr2 } := h
  rw [h]
  exact ⟨rfl, rfl, rfl, rfl, hm, id, id⟩

theorem setSeg_calm (s : State) (r : Sreg) (v : SegReg) : Calm s (s.setSeg r v) := by
  cases r <;> exact ⟨rfl, rfl, rfl, rfl, id, id, id⟩

/-- An operation that stays calm, whether it completes, with a value that has `post`, or raises an exception. -/
def SteadyWith {α : Type} (post : α → Prop) (m : M α) : Prop :=
  ∀ s, match m s with
  | .ok (a, t) => Calm s t ∧ post a
  | .error (.exc _ st _) => Calm s st
  | .error (.refuse _) => True

/-- A steady operation whatever value it answers. -/
def Steady {α : Type} (m : M α) : Prop := SteadyWith (fun _ => True) m

section
variable {α β : Type} {m : M α} {post : α → Prop} {post' : β → Prop}

theorem SteadyWith.pure' {a : α} (h : post a) : SteadyWith post (pure a) := fun s => ⟨Calm.refl s, h⟩

theorem Steady.pure' (a : α) : Steady (pure a) := SteadyWith.pure' trivial

theorem SteadyWith.bindWith {f : α → M β} (hm : SteadyWith post m) (hf : ∀ a, post a → SteadyWith post' (f a)) :
    SteadyWith post' (m >>= f) := by
  intro s
  rw [M.bind_run]
  have h := hm s
  rcases hms : m s with (⟨e, st, c⟩ | r) | ⟨a, t⟩ <;> simp only [hms] at h ⊢
  · exact h
  · have h' := hf a h.2 t
    rcases hft : f a t with (⟨e, st, c⟩ | r) | ⟨b, u⟩ <;> simp only [hft] at h' ⊢
    · exact h.1.trans h'
    · exact ⟨h.1.trans h'.1, h'.2⟩

theorem SteadyWith.bind' {f : α → M β} (hm : SteadyWith post m) (hf : ∀ a, post a → Steady (f a)) : Steady (m >>= f) :=
  SteadyWith.bindWith hm hf

theorem Steady.bindWith {f : α → M β} (hm : Steady m) (hf : ∀ a, SteadyWith post' (f a)) : SteadyWith post' (m >>= f) :=
  SteadyWith.bindWith hm fun a _ => hf a

theorem Steady.bind' {f : α → M β} (hm : Steady m) (hf : ∀ a, Steady (f a)) : Steady (m >>= f) :=
  SteadyWith.bindWith hm fun a _ => hf a

theorem SteadyWith.get' {f : State → M α} (h : ∀ s, SteadyWith post (f s)) : SteadyWith post (get >>= f) := fun s => h s s

theorem Steady.get' {f : State → M α} (h : ∀ s, Steady (f s)) : Steady (get >>= f) := SteadyWith.get' h

theorem Steady.ite {c : Prop} [Decidable c] {n : M α} (hm : Steady m) (hn : Steady n) : Steady (if c then m else n) := by
  split
  · exact hm
  · exact hn

/-- Two branches, then the rest that follows both. -/
theorem Steady.branch {c : Prop} [Decidable c] {n : M α} {f : α → M β} (hm : Steady m) (hn : Steady n) (hf : ∀ a, Steady (f a)) :
    Steady (if c then m >>= f else n >>= f) := (hm.bind' hf).ite (hn.bind' hf)

/-- An operation under a condition, then the rest. -/
theorem Steady.when {c : Prop} [Decidable c] {m : M Unit} {f : Unit → M β} (hm : Steady m) (hf : ∀ a, Steady (f a)) :
    Steady (if c then m >>= f else f ()) := (hm.bind' hf).ite (hf ())

theorem Accesses.steadyWith (hm : Accesses post m) : SteadyWith post m := by
  intro s
  have h := hm s
  rcases hms : m s with (⟨e, st, c⟩ | r) | ⟨a, t⟩ <;> simp only [hms] at h ⊢
  · exact h.1.calm h.2.1
  · exact ⟨h.1.calm h.2.2.1, h.2.2.2⟩

theorem Accesses.steady (hm : Accesses post m) : Steady m := (hm.mono fun _ _ => trivial).steadyWith

theorem raise_steady (e : Exc) : Steady (raise e : M α) := Calm.refl

theorem refuse_steady (r : Refusal) : Steady (refuse r : M α) := fun _ => trivial

theorem refuse_bind_steady (r : Refusal) (f : α → M β) : Steady (refuse r >>= f) := fun _ => trivial

/-- A change of the state; by default one of fields that the invariant does not speak of. -/
theorem modify_steady {f : State → State} (h : ∀ s, Calm s (f s) := by exact fun _ => ⟨rfl, rfl, rfl, rfl, id, id, id⟩) :
    Steady (modify f : M PUnit) := fun s => ⟨h s, trivial⟩

end

/-! ## Checks, registers, flags -/

theorem require_steady (b : Bool) (e : Exc) : Steady (require b e) := (Steady.pure' ()).ite (raise_steady e)

theorem draw_steady (n : Nat) : Steady (draw n) := (draw_accesses n).steady

theorem getFlags_steady : Steady getFlags := fun s => ⟨Calm.refl s, trivial⟩

/-- A change of the flags that leaves VM. -/
theorem modifyFlags_steady {f : Flags → Flags} (h : ∀ g, (f g).vm = g.vm := by exact fun _ => rfl) : Steady (modifyFlags f) :=
  fun s => ⟨⟨rfl, rfl, rfl, h s.flags, id, id, id⟩, trivial⟩

theorem undefStatus_steady (m : UndefMask) : Steady (undefStatus m) :=
  (draw_steady 6).bind' fun _ => modifyFlags_steady

theorem clearRF_steady : Steady clearRF := modifyFlags_steady

theorem readReg_steady (w : Width) (r : Reg) : Steady (readReg w r) := fun s => ⟨Calm.refl s, trivial⟩

theorem writeReg_steady (w : Width) (r : Reg) (v : BitVec w.bits) : Steady (writeReg w r v) :=
  fun _ => ⟨⟨rfl, rfl, rfl, rfl, id, id, id⟩, trivial⟩

theorem readRegSz_steady (sz : Sz) (r : Reg) : Steady (readRegSz sz r) := fun s => ⟨Calm.refl s, trivial⟩

theorem writeRegSz_steady (sz : Sz) (r : Reg) (v : Dword) : Steady (writeRegSz sz r v) :=
  fun _ => ⟨⟨rfl, rfl, rfl, rfl, id, id, id⟩, trivial⟩

theorem checkPrefixes_steady (s : State) (l : Bool) : Steady (checkPrefixes s l) :=
  (require_steady _ _).bind' fun _ => require_steady _ _

theorem requireCpl0_steady : Steady requireCpl0 := .get' fun _ => require_steady _ _

theorem requireProt_steady : Steady requireProt := .get' fun _ => require_steady _ _

/-! ## The stack and control transfer -/

theorem setStackPtr_steady (v : Dword) : Steady (setStackPtr v) := modify_steady

theorem addStackPtr_steady (n : Nat) : Steady (addStackPtr n) := modify_steady

theorem jumpTo_steady (off : Dword) : Steady (jumpTo off) := modify_steady

theorem checkCodeLimit_steady (c : SegReg) (t : Dword) : Steady (checkCodeLimit c t) := (Steady.pure' ()).ite (raise_steady _)

theorem checkRoom_steady (g : SegReg) (size : Sz) (sp : Dword) (n k : Nat) : Steady (checkRoom g size sp n k) :=
  (Steady.pure' ()).ite (raise_steady _)

theorem checkStackTop_steady (disp n : Nat) : Steady (checkStackTop disp n) :=
  .get' fun _ => (Steady.pure' ()).ite (raise_steady _)

theorem push_steady (sz : Sz) (v : Dword) : Steady (push sz v) :=
  .get' fun _ => (memStore_accesses _ _ _).steady.bind' fun _ => setStackPtr_steady _

theorem pushAll_steady (sz : Sz) (vs : List Dword) : Steady (pushAll sz vs) := by
  induction vs with
  | nil => exact Steady.pure' ()
  | cons v vs ih => exact (push_steady sz v).bind' fun _ => ih

theorem stackRead_steady (sz : Sz) (disp : Nat) : Steady (stackRead sz disp) :=
  .get' fun _ => (memBytes_accesses _ _ _).steady.bind' fun _ => Steady.pure' _

theorem pop_steady (sz : Sz) : Steady (pop sz) :=
  (stackRead_steady sz 0).bind' fun _ => (addStackPtr_steady _).bind' fun _ => Steady.pure' _

theorem padSel_steady (sz : Sz) (sel : Word) : Steady (padSel sz sel) := by
  cases sz with
  | s16 => exact Steady.pure' _
  | s32 => exact (draw_steady 16).bind' fun _ => Steady.pure' _

/-! ## Descriptors and segment registers -/

theorem readDescAt_steady (a : Dword) : Steady (readDescAt a) := (linRead_accesses a 8).steady.bind' fun _ => Steady.pure' _

theorem fetchDesc_steady (sel : Word) (e : Exc) : Steady (fetchDesc sel e) :=
  .get' fun _ => (require_steady _ _).bind' fun _ => .get' fun _ => readDescAt_steady _

theorem loadSeg_steady (r : Sreg) (sel : Word) (d : Desc) : Steady (loadSeg r sel d) :=
  (Steady.get' fun _ => (Steady.pure' ()).ite (linWrite_accesses _ _ _).steady).bind' fun _ =>
    modify_steady fun s => setSeg_calm s r _

theorem loadRealSeg_steady (r : Sreg) (sel : Word) : Steady (loadRealSeg r sel) := modify_steady fun s => setSeg_calm s r _

theorem loadNull_steady (r : Sreg) (sel : Word) : Steady (loadNull r sel) := modify_steady fun s => setSeg_calm s r _

theorem segLoad_steady (r : Sreg) (sel : Word) : Steady (segLoad r sel) := by
  refine .get' fun s => (loadRealSeg_steady r sel).ite (Steady.ite ?_ ((loadNull_steady r sel).ite ?_))
  · exact (require_steady _ _).bind' fun _ => (fetchDesc_steady _ _).bind' fun d => (require_steady _ _).bind' fun _ =>
      (require_steady _ _).bind' fun _ => (require_steady _ _).bind' fun _ => (require_steady _ _).bind' fun _ =>
        loadSeg_steady r sel d
  · exact (fetchDesc_steady _ _).bind' fun d => (require_steady _ _).bind' fun _ => (require_steady _ _).bind' fun _ =>
      (require_steady _ _).bind' fun _ => loadSeg_steady r sel d

end Sys2Proof.Machine
end

section
/-! PROOFS. Task switches, deliveries and returns: the parts that are steady. -/

namespace Sys2Proof.Machine

/-! ## Task state segments -/

theorem tssStack_steady (level : BitVec 2) : Steady (tssStack level) := by
  refine .get' fun s => Steady.ite ?_ ?_ <;>
    exact (require_steady _ _).bind' fun _ => (linRead_accesses _ _).steady.bind' fun _ =>
      (linRead_accesses _ _).steady.bind' fun _ => Steady.pure' _

theorem setBusy_steady (sel : Word) (busy : Bool) : Steady (setBusy sel busy) :=
  .get' fun _ => (translateAll_accesses _ _ _ _).steadyWith.bind' fun as has =>
    (readPhys_accesses as).steady.bind' fun _ => (writePhys_accesses has _).steady

theorem saveFields_steady (base : Dword) (fs : List (Nat × Dword × Dword)) : Steady (saveFields base fs) := by
  induction fs with
  | nil => exact Steady.pure' ()
  | cons f fs ih => exact (linWrite_accesses _ _ _).steady.bind' fun _ => ih

theorem saveTask_steady (f : Flags) (ret : Dword) : Steady (saveTask f ret) := .get' fun _ => saveFields_steady _ _

/-- A read of the tables followed by a steady rest, as the readers of a task's image are built. -/
theorem linRead_bind_steady {α : Type} {a : Dword} {n : Nat} {f : BitVec (8 * n) → M α} (h : ∀ v, Steady (f v)) :
    Steady (linRead a n >>= f) := (linRead_accesses a n).steady.bind' h

theorem readTask386_steady (base : Dword) : Steady (readTask386 base) := by
  unfold readTask386
  repeat' refine linRead_bind_steady fun _ => ?_
  exact Steady.pure' _

theorem readTask286_steady (base : Dword) : Steady (readTask286 base) := by
  have dword (o : Dword) : Steady (do return (← linRead (base + o) 2).setWidth 32 : M Dword) :=
    linRead_bind_steady fun _ => Steady.pure' _
  unfold readTask286
  refine linRead_bind_steady fun _ => ?_
  repeat' refine (dword _).bind' fun _ => ?_
  repeat' refine linRead_bind_steady fun _ => ?_
  exact Steady.pure' _

theorem loadTaskLdt_steady (sel : Word) : Steady (loadTaskLdt sel) :=
  (Steady.pure' ()).ite <| (require_steady _ _).bind' fun _ => (fetchDesc_steady _ _).bind' fun _ =>
    (require_steady _ _).bind' fun _ => (require_steady _ _).bind' fun _ => modify_steady

theorem loadTaskCs_steady (sel : Word) : Steady (loadTaskCs sel) :=
  (require_steady _ _).bind' fun _ => (fetchDesc_steady _ _).bind' fun _ => (require_steady _ _).bind' fun _ =>
    (require_steady _ _).bind' fun _ => (require_steady _ _).bind' fun _ => loadSeg_steady _ _ _

theorem loadTaskSs_steady (sel : Word) : Steady (loadTaskSs sel) :=
  .get' fun _ => (require_steady _ _).bind' fun _ => (fetchDesc_steady _ _).bind' fun _ => (require_steady _ _).bind' fun _ =>
    (require_steady _ _).bind' fun _ => (require_steady _ _).bind' fun _ => (require_steady _ _).bind' fun _ =>
      loadSeg_steady _ _ _

theorem loadTaskData_steady (r : Sreg) (sel : Word) : Steady (loadTaskData r sel) :=
  .get' fun _ => (Steady.pure' ()).ite <| (fetchDesc_steady _ _).bind' fun _ => (require_steady _ _).bind' fun _ =>
    (require_steady _ _).bind' fun _ => (require_steady _ _).bind' fun _ => loadSeg_steady _ _ _

theorem loadTaskSegs_steady (i : TaskImage) : Steady (loadTaskSegs i) := by
  refine .get' fun s => Steady.ite ?_ ?_
  · exact (loadRealSeg_steady _ _).bind' fun _ => (loadRealSeg_steady _ _).bind' fun _ => (loadRealSeg_steady _ _).bind' fun _ =>
      (loadRealSeg_steady _ _).bind' fun _ => (loadRealSeg_steady _ _).bind' fun _ => loadRealSeg_steady _ _
  · exact (loadTaskCs_steady _).bind' fun _ => (loadTaskSs_steady _).bind' fun _ => (loadTaskData_steady _ _).bind' fun _ =>
      (loadTaskData_steady _ _).bind' fun _ => (loadTaskData_steady _ _).bind' fun _ => loadTaskData_steady _ _

theorem fetchTss_steady (t : Word) (bad : Word → Exc) : Steady (fetchTss t bad) :=
  (require_steady _ _).bind' fun _ => (fetchDesc_steady _ _).bind' fun _ => (require_steady _ _).bind' fun _ =>
    (require_steady _ _).bind' fun _ => Steady.pure' _

/-! ## Delivery -/

theorem imageFlags_steady (e : Event) : Steady (imageFlags e) := by
  refine .get' fun s => ?_
  cases e.rf with
  | one => exact Steady.pure' _
  | zero => exact Steady.pure' _
  | free => exact (draw_steady 1).bind' fun _ => Steady.pure' _

theorem deliverReal_steady (e : Event) : Steady (deliverReal e) :=
  .get' fun _ => (require_steady _ _).bind' fun _ => (imageFlags_steady e).bind' fun _ => (pushAll_steady _ _).bind' fun _ =>
    (modifyFlags_steady).bind' fun _ => linRead_bind_steady fun _ => (loadRealSeg_steady _ _).bind' fun _ =>
      jumpTo_steady _

theorem enterHandler_steady (cs : Word) (c : Desc) (cpl : BitVec 2) (off : Dword) : Steady (enterHandler cs c cpl off) :=
  (loadSeg_steady _ _ _).bind' fun _ => jumpTo_steady _

theorem deliverSame_steady (e : Event) (g : Desc) (cs : Word) (c : Desc) : Steady (deliverSame e g cs c) :=
  .get' fun _ => (checkRoom_steady _ _ _ _ _).bind' fun _ => (checkCodeLimit_steady _ _).bind' fun _ =>
    (imageFlags_steady e).bind' fun _ => (padSel_steady _ _).bind' fun _ => (pushAll_steady _ _).bind' fun _ =>
      (enterHandler_steady _ _ _ _).bind' fun _ => modifyFlags_steady

theorem innerStack_steady (level : BitVec 2) (null : Exc) : Steady (innerStack level null) :=
  (tssStack_steady level).bind' fun _ => (require_steady _ _).bind' fun _ => (fetchDesc_steady _ _).bind' fun _ =>
    (require_steady _ _).bind' fun _ => (require_steady _ _).bind' fun _ => (require_steady _ _).bind' fun _ =>
      (require_steady _ _).bind' fun _ => Steady.pure' _

/-! ## Returns -/

theorem iretReal_steady (sz : Sz) : Steady (iretReal sz) :=
  .get' fun _ => (memBytes_accesses _ _ _).steady.bind' fun _ => (require_steady _ _).bind' fun _ =>
    (addStackPtr_steady _).bind' fun _ => (loadRealSeg_steady _ _).bind' fun _ =>
      (modify_steady).bind' fun _ => jumpTo_steady _

theorem returnCs_steady (rcs : Word) (level : BitVec 2) : Steady (returnCs rcs level) :=
  (require_steady _ _).bind' fun _ => (fetchDesc_steady _ _).bind' fun _ => (require_steady _ _).bind' fun _ =>
    (require_steady _ _).bind' fun _ => (require_steady _ _).bind' fun _ => Steady.pure' _

theorem returnSs_steady (rss : Word) (level : BitVec 2) : Steady (returnSs rss level) :=
  (require_steady _ _).bind' fun _ => (fetchDesc_steady _ _).bind' fun _ => (require_steady _ _).bind' fun _ =>
    (require_steady _ _).bind' fun _ => (require_steady _ _).bind' fun _ => (require_steady _ _).bind' fun _ => Steady.pure' _

theorem returnSp_steady (sz : Sz) (sp : Dword) : Steady (returnSp sz sp) := by
  refine .get' fun s => ?_
  cases sz with
  | s32 => exact setStackPtr_steady _
  | s16 =>
    cases s.ssSize with
    | s16 => exact setStackPtr_steady _
    | s32 => exact (draw_steady 16).bind' fun _ => setStackPtr_steady _

theorem setSegIf_calm (s : State) (c : Bool) (r : Sreg) (v : SegReg) : Calm s (if c then s.setSeg r v else s) := by
  split
  · exact setSeg_calm s r v
  · exact Calm.refl s

theorem invalidate_steady (bad : State → SegReg → Bool) (r : Sreg) : Steady (invalidate bad r) :=
  modify_steady fun s => setSegIf_calm s _ r _

end Sys2Proof.Machine
end

section
/-! PROOFS. The operations that change the mode or the privilege level: task switches, deliveries, returns and transfers between
levels. What they start from and what they lead to, in the terms of the invariant. -/

namespace Sys2Proof.Machine

/-! ## Kinds of states -/

/-- The invariant but for the level of V86 mode, which a task switch sets after its commit point (log entry 36). -/
structure State.Sane (s : State) : Prop where
  mem : Memory.wf s.mem = true
  real : s.cr0.pe = false → s.cpl = 0#2
  vm : s.flags.vm = true → s.cr0.pe = true
  paging : s.cr0.pg = true → s.cr0.pe = true
  cr3 : s.cr3.extractLsb' 0 12 = 0#12
  dr7 : breakpointsOn s.dr7 = false

/-- A sane state with PE = 1: in protected mode or V86 mode. -/
structure State.Guarded (s : State) : Prop extends s.Sane where
  pe : s.cr0.pe = true

/-- A sane state in protected mode. -/
structure State.Protected (s : State) : Prop extends s.Guarded where
  noVm : s.flags.vm = false

/-- A sane state with the level of its mode: the invariant of a processor that is not shut down. -/
structure State.Sound (s : State) : Prop extends s.Sane where
  level : s.flags.vm = true → s.cpl = 3#2

theorem State.Protected.sound {s : State} (h : s.Protected) : s.Sound := ⟨h.toSane, by simp [h.noVm]⟩

theorem State.Sound.inv {s : State} (h : s.Sound) : s.Inv :=
  ⟨h.mem, h.real, fun hv => ⟨h.vm hv, .inl (h.level hv)⟩, h.paging, h.cr3, h.dr7⟩

theorem State.Inv.sane {s : State} (h : s.Inv) : s.Sane := ⟨h.mem, h.real, fun hv => (h.vm hv).1, h.paging, h.cr3, h.dr7⟩

theorem State.Inv.sound {s : State} (h : s.Inv) (hs : s.shutdown = false) : s.Sound :=
  ⟨h.sane, fun hv => (h.vm hv).2.resolve_right (by simp [hs])⟩

theorem mode_eq_prot_iff (s : State) : s.mode = .prot ↔ s.cr0.pe = true ∧ s.flags.vm = false := by
  unfold State.mode
  cases s.cr0.pe <;> cases s.flags.vm <;> decide

theorem State.Sane.protected {s : State} (h : s.Sane) (hm : s.mode = .prot) : s.Protected :=
  ⟨⟨h, ((mode_eq_prot_iff s).1 hm).1⟩, ((mode_eq_prot_iff s).1 hm).2⟩

/-- A condition on states that makes them sane and that calm changes keep. -/
structure Stable (P : State → Prop) : Prop where
  sane : ∀ s, P s → s.Sane
  calm : ∀ s t, Calm s t → P s → P t

theorem Calm.sane {s t : State} (h : Calm s t) (hs : s.Sane) : t.Sane where
  mem := h.mem hs.mem
  real hp := h.cpl.trans (hs.real (h.pe ▸ hp))
  vm hv := h.pe.trans (hs.vm (h.vm ▸ hv))
  paging hp := h.pe.trans (hs.paging (h.pg ▸ hp))
  cr3 := h.cr3 hs.cr3
  dr7 := h.dr7 hs.dr7

theorem Calm.sound {s t : State} (h : Calm s t) (hs : s.Sound) : t.Sound :=
  ⟨h.sane hs.toSane, fun hv => h.cpl.trans (hs.level (h.vm ▸ hv))⟩

theorem stable_guarded : Stable State.Guarded :=
  ⟨fun _ hs => hs.toSane, fun _ _ h hs => ⟨h.sane hs.toSane, h.pe.trans hs.pe⟩⟩

theorem stable_protected : Stable State.Protected :=
  ⟨fun _ hs => hs.toSane, fun s t h hs => ⟨stable_guarded.calm s t h hs.toGuarded, h.vm.trans hs.noVm⟩⟩

theorem stable_sound : Stable State.Sound := ⟨fun _ hs => hs.toSane, fun _ _ h hs => h.sound hs⟩

/-- A stable condition together with a value of the VM flag. -/
theorem Stable.withVm {P : State → Prop} (hP : Stable P) (v : Bool) : Stable fun s => P s ∧ s.flags.vm = v :=
  ⟨fun s hs => hP.sane s hs.1, fun s t h hs => ⟨hP.calm s t h hs.1, h.vm.trans hs.2⟩⟩

/-! ## From one kind to another -/

/-- From a state with `P` the operation completes in one with `Q`, or raises an exception in a sane one. -/
def Leads {α : Type} (P Q : State → Prop) (m : M α) : Prop :=
  ∀ s, P s → match m s with
  | .ok (_, t) => Q t
  | .error (.exc _ st _) => st.Sane
  | .error (.refuse _) => True

section
variable {α β : Type} {P Q R : State → Prop} {m : M α}

theorem Steady.leads (hm : Steady m) (hP : Stable P) : Leads P P m := by
  intro s hs
  have h := hm s
  rcases hms : m s with (⟨e, st, c⟩ | r) | ⟨a, t⟩ <;> simp only [hms] at h ⊢
  · exact h.sane (hP.sane s hs)
  · exact hP.calm s t h.1 hs

theorem Leads.bind' {f : α → M β} (hm : Leads P Q m) (hf : ∀ a, Leads Q R (f a)) : Leads P R (m >>= f) := by
  intro s hs
  rw [M.bind_run]
  have h := hm s hs
  rcases hms : m s with (⟨e, st, c⟩ | r) | ⟨a, t⟩ <;> simp only [hms] at h ⊢
  · exact h
  · exact hf a t h

/-- A steady operation first, which keeps a stable condition. -/
theorem Stable.bind' {f : α → M β} (hP : Stable P) (hm : Steady m) (hf : ∀ a, Leads P R (f a)) : Leads P R (m >>= f) :=
  (hm.leads hP).bind' hf

theorem Leads.get' {f : State → M α} (h : ∀ s, P s → Leads P Q (f s)) : Leads P Q (get >>= f) := fun s hs => h s hs s hs

theorem Leads.get_same {f : State → M α} (h : ∀ s, P s → Leads (· = s) Q (f s)) : Leads P Q (get >>= f) :=
  fun s hs => h s hs s rfl

theorem Leads.weaken {P' Q' : State → Prop} (hm : Leads P Q m) (hP : ∀ s, P' s → P s) (hQ : ∀ s, Q s → Q' s) :
    Leads P' Q' m := by
  intro s hs
  have h := hm s (hP s hs)
  rcases hms : m s with (⟨e, st, c⟩ | r) | ⟨a, t⟩ <;> simp only [hms] at h ⊢
  · exact h
  · exact hQ t h

theorem Leads.ite {c : Prop} [Decidable c] {n : M α} (hm : c → Leads P Q m) (hn : ¬ c → Leads P Q n) :
    Leads P Q (if c then m else n) := by
  split
  · exact hm ‹_›
  · exact hn ‹_›

/-- Two branches, then the rest that follows both. -/
theorem Leads.branch {c : Prop} [Decidable c] {n : M α} {f : α → M β} (hm : c → Leads P Q m) (hn : ¬ c → Leads P Q n)
    (hf : ∀ a, Leads Q R (f a)) : Leads P R (if c then m >>= f else n >>= f) :=
  Leads.ite (fun h => (hm h).bind' hf) fun h => (hn h).bind' hf

/-- An operation under a condition, then the rest. -/
theorem Leads.when {c : Prop} [Decidable c] {m : M Unit} {f : Unit → M β} (hm : c → Leads P P m)
    (hf : ∀ a, Leads P R (f a)) : Leads P R (if c then m >>= f else f ()) :=
  Leads.ite (fun h => (hm h).bind' hf) fun _ => hf ()

theorem Leads.committed (hm : Leads P Q m) : Leads P Q (committed m) := by
  intro s hs
  have h := hm s hs
  unfold Machine.committed
  rcases hms : m s with (⟨e, st, c⟩ | r) | ⟨a, t⟩ <;> simp only [hms] at h ⊢
  exact h
  exact h

theorem modify_leads {f : State → State} (h : ∀ s, P s → Q (f s)) : Leads P Q (modify f : M PUnit) := h

theorem refuse_bind_leads (r : Refusal) (f : α → M β) : Leads P Q (refuse r >>= f) := fun _ _ => trivial

theorem require_leads {b : Bool} {e : Exc} (hP : ∀ s, P s → s.Sane) (h : b = true → ∀ s, P s → Q s) :
    Leads P Q (require b e) := by
  cases b with
  | false => exact hP
  | true => exact h rfl

theorem set_leads {t : State} (h : Q t) : Leads P Q (set t : M PUnit) := fun _ _ => h

end

/-! ## Task switches -/

theorem pageMask_aligned (v : Dword) : (v &&& 0xFFFFF000#32).extractLsb' 0 12 = 0#12 := by
  ext i hi
  simp
  interval_cases i <;> simp

theorem breakpointsOn_and {v : Dword} (h : breakpointsOn v = false) (m : Dword) : breakpointsOn (v &&& m) = false := by
  simp only [breakpointsOn, bne_eq_false_iff_eq] at h ⊢
  rw [BitVec.and_assoc, BitVec.and_comm m, ← BitVec.and_assoc, h, BitVec.zero_and]

theorem State.Guarded.withTask {s : State} (h : s.Guarded) (i : TaskImage) (nested : Bool) : (s.withTask i nested).Guarded :=
  ⟨⟨h.mem, h.real, fun _ => h.pe, h.paging, h.cr3, breakpointsOn_and h.dr7 _⟩, h.pe⟩

theorem State.Guarded.withTaskLevel {s : State} (h : s.Guarded) (i : TaskImage) : (s.withTaskLevel i).Sound :=
  ⟨⟨h.mem, fun hp => absurd (h.pe.symm.trans hp) (by decide), h.vm, h.paging, h.cr3, h.dr7⟩,
    fun hv => by rw [withTaskLevel_cpl]; exact if_pos hv⟩

theorem State.Guarded.withCr3 {s : State} (h : s.Guarded) (v : Dword) :
    State.Guarded { s with cr3 := v &&& 0xFFFFF000#32, tlb := [], tlbUndef := false } :=
  ⟨⟨h.mem, h.real, h.vm, h.paging, pageMask_aligned v, h.dr7⟩, h.pe⟩

theorem enterTask_leads (k : SwitchKind) (t : Word) (td : Desc) : Leads State.Guarded State.Sound (enterTask k t td) := by
  refine Leads.committed ?_
  refine stable_guarded.bind' modify_steady fun _ => ?_
  refine Leads.branch (fun _ => (readTask386_steady _).leads stable_guarded) (fun _ => (readTask286_steady _).leads stable_guarded)
    fun i => ?_
  refine Leads.when (fun _ => (refuse_steady _).leads stable_guarded) fun _ => ?_
  refine Leads.get' fun s hs => ?_
  refine Leads.when (fun _ => set_leads (hs.withCr3 i.cr3)) fun _ => ?_
  refine (modify_leads fun s hs => hs.withTask i k.nested).bind' fun _ => ?_
  refine stable_guarded.bind' (jumpTo_steady _) fun _ => stable_guarded.bind' (loadTaskLdt_steady _) fun _ => ?_
  exact (modify_leads fun s hs => hs.withTaskLevel i).bind' fun _ => (loadTaskSegs_steady i).leads stable_sound

theorem switchTasks_leads (k : SwitchKind) (t : Word) (td : Desc) (ret : Dword) :
    Leads State.Guarded State.Sound (switchTasks k t td ret) := by
  refine Leads.get' fun s _ => stable_guarded.bind' (require_steady _ _) fun _ => ?_
  refine Leads.when (fun _ => (setBusy_steady _ _).leads stable_guarded) fun _ => ?_
  refine stable_guarded.bind' (saveTask_steady _ _) fun _ => ?_
  refine Leads.when (fun _ => (linWrite_accesses _ _ _).steady.leads stable_guarded) fun _ => ?_
  refine Leads.when (fun _ => (setBusy_steady _ _).leads stable_guarded) fun _ => ?_
  exact enterTask_leads k t td

/-! ## Delivery -/

/-- A change of the level in protected mode, with the registers of its stack. -/
theorem State.Protected.withLevel {s : State} (h : s.Protected) (level : BitVec 2) (g : GeneralRegs) :
    State.Protected { s with cpl := level, regs := g } :=
  ⟨⟨⟨h.mem, fun hp => absurd (h.pe.symm.trans hp) (by decide), h.vm, h.paging, h.cr3, h.dr7⟩, h.pe⟩, h.noVm⟩

theorem enterStack_leads (nss : Word) (d : Desc) (nsp : Dword) (level : BitVec 2) :
    Leads State.Protected State.Protected (enterStack nss d nsp level) :=
  stable_protected.bind' (loadSeg_steady _ _ _) fun _ => stable_protected.bind' (setStackPtr_steady _) fun _ =>
    modify_leads fun s hs => hs.withLevel level s.regs

theorem deliverInner_leads (e : Event) (g : Desc) (cs : Word) (c : Desc) :
    Leads State.Protected State.Protected (deliverInner e g cs c) := by
  refine Leads.get' fun s _ => ?_
  refine stable_protected.bind' (innerStack_steady _ _) fun _ => ?_
  refine stable_protected.bind' (checkRoom_steady _ _ _ _ _) fun _ => ?_
  refine stable_protected.bind' (checkCodeLimit_steady _ _) fun _ => ?_
  refine stable_protected.bind' (imageFlags_steady e) fun _ => ?_
  refine stable_protected.bind' (padSel_steady _ _) fun _ => stable_protected.bind' (padSel_steady _ _) fun _ => ?_
  refine (enterStack_leads _ _ _ _).bind' fun _ => ?_
  refine stable_protected.bind' (pushAll_steady _ _) fun _ => ?_
  refine stable_protected.bind' (enterHandler_steady _ _ _ _) fun _ => ?_
  exact (modifyFlags_steady).leads stable_protected

/-- The handler of an interrupt in V86 mode runs in protected mode (42_i.md R289). -/
theorem leaveVm_leads {f : Flags → Flags} (h : ∀ g, (f g).vm = false) :
    Leads State.Guarded State.Protected (modifyFlags f) :=
  fun s hs => ⟨⟨⟨hs.mem, hs.real, fun _ => hs.pe, hs.paging, hs.cr3, hs.dr7⟩, hs.pe⟩, h s.flags⟩

theorem deliverFromV86_leads (e : Event) (g : Desc) (cs : Word) (c : Desc) :
    Leads State.Guarded State.Protected (deliverFromV86 e g cs c) := by
  refine Leads.get' fun s _ => ?_
  refine stable_guarded.bind' (require_steady _ _) fun _ => ?_
  cases g.gateSize with
  | s16 => exact refuse_bind_leads _ _
  | s32 =>
    refine stable_guarded.bind' (innerStack_steady _ _) fun _ => stable_guarded.bind' (checkRoom_steady _ _ _ _ _) fun _ => ?_
    refine stable_guarded.bind' (imageFlags_steady e) fun _ => ?_
    refine stable_guarded.bind' (padSel_steady _ _) fun _ => stable_guarded.bind' (padSel_steady _ _) fun _ => ?_
    refine stable_guarded.bind' (padSel_steady _ _) fun _ => stable_guarded.bind' (padSel_steady _ _) fun _ => ?_
    refine stable_guarded.bind' (padSel_steady _ _) fun _ => stable_guarded.bind' (padSel_steady _ _) fun _ => ?_
    refine (leaveVm_leads (by exact fun _ => rfl)).bind' fun _ => ?_
    refine stable_protected.bind' (loadSeg_steady _ _ _) fun _ => ?_
    refine (modify_leads (by exact fun _ hs => hs.withLevel 0#2 _)).bind' fun _ => ?_
    refine stable_protected.bind' (pushAll_steady _ _) fun _ => ?_
    refine stable_protected.bind' (loadNull_steady _ _) fun _ => stable_protected.bind' (loadNull_steady _ _) fun _ => ?_
    refine stable_protected.bind' (loadNull_steady _ _) fun _ => stable_protected.bind' (loadNull_steady _ _) fun _ => ?_
    exact (enterHandler_steady _ _ _ _).leads stable_protected

theorem deliverTask_leads (e : Event) (g : Desc) : Leads State.Guarded State.Sound (deliverTask e g) := by
  refine stable_guarded.bind' (fetchTss_steady _ _) fun td => (switchTasks_leads _ _ _ _).bind' fun _ => Leads.committed ?_
  refine stable_sound.bind' modifyFlags_steady fun _ => Leads.get' fun s _ => ?_
  refine stable_sound.bind' (checkRoom_steady _ _ _ _ _) fun _ => stable_sound.bind' (pushAll_steady _ _) fun _ => ?_
  exact (Steady.get' fun _ => checkCodeLimit_steady _ _).leads stable_sound

/-- A delivery through the IDT: from the state of a task switch whose LDTR could not be loaded too. -/
theorem deliverProt_leads (e : Event) : Leads State.Guarded State.Sound (deliverProt e) := by
  refine Leads.get_same fun s hs => ?_
  have stable := stable_guarded.withVm s.flags.vm
  refine Leads.weaken (P := fun t => t.Guarded ∧ t.flags.vm = s.flags.vm) ?_ (by rintro _ rfl; exact ⟨hs, rfl⟩) fun _ => id
  refine stable.bind' (require_steady _ _) fun _ => stable.bind' (readDescAt_steady _) fun g => ?_
  refine stable.bind' (require_steady _ _) fun _ => stable.bind' (require_steady _ _) fun _ => ?_
  refine stable.bind' (require_steady _ _) fun _ => Leads.ite (fun _ => ?_) fun _ => ?_
  · exact ((deliverTask_leads e g).weaken (fun _ h => h.1) fun _ => id).bind' fun _ => (Steady.pure' _).leads stable_sound
  refine stable.bind' (require_steady _ _) fun _ => stable.bind' (fetchDesc_steady _ _) fun c => ?_
  refine stable.bind' (require_steady _ _) fun _ => stable.bind' (require_steady _ _) fun _ => ?_
  have done (u : Unit) : Leads State.Protected State.Sound (pure false : M Bool) :=
    ((Steady.pure' false).leads stable_protected).weaken (fun _ => id) fun _ h => h.sound
  refine Leads.ite (fun hv => ?_) fun hv => ?_
  · exact ((deliverFromV86_leads e g _ c).weaken (fun _ h => h.1) fun _ => id).bind' done
  refine Leads.weaken (P := State.Protected) (Q := State.Sound) ?_ (fun _ h => ⟨h.1, by simp_all⟩) fun _ => id
  refine Leads.ite (fun _ => (deliverInner_leads e g _ c).bind' done) fun _ => Leads.ite (fun _ => ?_) fun _ => ?_
  · exact stable_protected.bind' (deliverSame_steady e g _ c) done
  · exact stable_protected.bind' (raise_steady _) done

/-- One attempt to deliver an event, from the state of a task switch whose LDTR could not be loaded too. -/
theorem deliver_leads (e : Event) : Leads State.Sane State.Sound (deliver e) := by
  intro s hs
  have attempt : Leads (· = s) State.Sound (do
      modify fun s => { s with inhibit := .none, halted := false }
      if s.cr0.pe then deliverProt e
      else
        deliverReal e
        return false : M Bool) := by
    refine Leads.bind' (Q := fun t => t.Sane ∧ t.cr0.pe = s.cr0.pe) (modify_leads ?_) fun _ => Leads.ite (fun hp => ?_) fun hp => ?_
    · rintro _ rfl
      exact ⟨⟨hs.mem, hs.real, hs.vm, hs.paging, hs.cr3, hs.dr7⟩, rfl⟩
    · exact (deliverProt_leads e).weaken (fun t h => ⟨h.1, h.2.trans hp⟩) fun _ => id
    · refine Leads.weaken (P := State.Sound) ?_ (fun t h => ⟨h.1, fun hv => ?_⟩) fun _ => id
      · exact stable_sound.bind' (deliverReal_steady e) fun _ => (Steady.pure' _).leads stable_sound
      · exact absurd (h.2.symm.trans (h.1.vm hv)) hp
  have h := attempt s rfl
  unfold deliver
  dsimp only
  split at h <;> simp_all

/-! ## Taking an exception -/

/-- Whatever next state an outcome gives has the invariant. -/
def NextInv (o : Host.Outcome State Fault Refusal) : Prop := ∀ t, o = .next t → t.Inv

theorem settle_sound {s : State} (h : s.Sound) : (settle s).Sound := stable_sound.calm s _ ⟨rfl, rfl, rfl, rfl, id, id, id⟩ h

theorem nextInv_settle {s : State} (h : s.Sound) : NextInv (.next (settle s)) := by
  rintro _ ⟨⟩
  exact (settle_sound h).inv

/-- A processor in shutdown may be in V86 mode at another level (log entry 36). -/
theorem nextInv_shutdown {s : State} (h : s.Sane) : NextInv (.next (enterShutdown s)) := by
  rintro _ ⟨⟩
  exact ⟨h.mem, h.real, fun hv => ⟨h.vm hv, .inr rfl⟩, h.paging, h.cr3, h.dr7⟩

theorem nextInv_refused (r : Refusal) : NextInv (.refused r) := by rintro _ ⟨⟩

theorem rollback_sane {base st : State} {c : Bool} (hb : base.Sane) (hst : st.Sane) : (rollback base st c).Sane := by
  unfold rollback
  split
  · exact hst
  · exact ⟨hb.mem, hb.real, hb.vm, hb.paging, hb.cr3, hb.dr7⟩

theorem takeDoubleFault_nextInv {base : State} (h : base.Sane) : NextInv (takeDoubleFault base) := by
  have hd := deliver_leads (excEvent excDF base) base h
  unfold takeDoubleFault
  split at hd <;> simp only [*]
  · exact nextInv_settle hd
  · exact nextInv_shutdown (rollback_sane h hd)
  · exact nextInv_refused _

theorem takePageFault_nextInv (x : Exc) {base : State} (h : base.Sane) : NextInv (takePageFault x base) := by
  have hd := deliver_leads (excEvent x base) base h
  unfold takePageFault
  split at hd <;> simp only [*]
  · exact nextInv_settle hd
  · exact takeDoubleFault_nextInv (rollback_sane h hd)
  · exact nextInv_refused _

theorem takeContributory_nextInv (x : Exc) {base : State} (h : base.Sane) : NextInv (takeContributory x base) := by
  have hd := deliver_leads (excEvent x base) base h
  unfold takeContributory
  split at hd <;> simp only [*]
  · exact nextInv_settle hd
  · split
    · exact takePageFault_nextInv _ (rollback_sane h hd)
    · exact takeDoubleFault_nextInv (rollback_sane h hd)
  · exact nextInv_refused _

/-- An exception is taken from a sane state: that of a task switch whose LDTR could not be loaded among them. -/
theorem takeFault_nextInv (x : Exc) {base : State} (h : base.Sane) : NextInv (takeFault x base) := by
  have hd := deliver_leads (excEvent x base) base h
  unfold takeFault
  split
  · exact takePageFault_nextInv x h
  split
  · exact takeContributory_nextInv x h
  split
  · exact takeDoubleFault_nextInv h
  split at hd <;> simp only [*]
  · exact nextInv_settle hd
  · split
    · exact takePageFault_nextInv _ (rollback_sane h hd)
    · exact takeContributory_nextInv _ (rollback_sane h hd)
  · exact nextInv_refused _

theorem takeException_nextInv {base st : State} (x : Exc) (c : Bool) (hb : base.Sane) (hst : st.Sane) :
    NextInv (takeException base x st c) := takeFault_nextInv x (rollback_sane hb hst)

theorem takeInterrupt_nextInv (vector : Byte) {base : State} (h : base.Sane) : NextInv (takeInterrupt vector base) := by
  have hd := deliver_leads
    { vector := vector, code := none, ret := base.eip, software := false, ext := true, rf := .zero } base h
  unfold takeInterrupt
  split at hd <;> simp only [*]
  · exact nextInv_settle hd
  · exact takeException_nextInv _ _ h hd
  · exact nextInv_refused _

/-! ## Returns -/

theorem iretProt_leads (sz : Sz) : Leads State.Protected State.Protected (iretProt sz) := by
  refine Leads.get' fun s hs => ?_
  have flags_leads (v : Dword) : Leads State.Protected State.Protected
      (modify fun t => { t with flags := loadFlags s v sz false } : M PUnit) :=
    modify_leads fun t ht => ⟨⟨⟨ht.mem, ht.real, fun _ => ht.pe, ht.paging, ht.cr3, ht.dr7⟩, ht.pe⟩, hs.noVm⟩
  refine stable_protected.bind' (checkStackTop_steady _ _) fun _ => stable_protected.bind' (stackRead_steady _ _) fun _ => ?_
  refine stable_protected.bind' (require_steady _ _) fun _ => Leads.ite (fun _ => ?_) fun _ => ?_
  · refine stable_protected.bind' (checkStackTop_steady _ _) fun _ => stable_protected.bind' (returnCs_steady _ _) fun _ => ?_
    refine stable_protected.bind' (stackRead_steady _ _) fun _ => stable_protected.bind' (checkCodeLimit_steady _ _) fun _ => ?_
    refine stable_protected.bind' (stackRead_steady _ _) fun _ => stable_protected.bind' (loadSeg_steady _ _ _) fun _ => ?_
    refine (flags_leads _).bind' fun _ => stable_protected.bind' (addStackPtr_steady _) fun _ => ?_
    exact (jumpTo_steady _).leads stable_protected
  · refine stable_protected.bind' (checkStackTop_steady _ _) fun _ => stable_protected.bind' (returnCs_steady _ _) fun _ => ?_
    refine stable_protected.bind' (stackRead_steady _ _) fun _ => stable_protected.bind' (returnSs_steady _ _) fun _ => ?_
    refine stable_protected.bind' (stackRead_steady _ _) fun _ => stable_protected.bind' (checkCodeLimit_steady _ _) fun _ => ?_
    refine stable_protected.bind' (stackRead_steady _ _) fun _ => stable_protected.bind' (stackRead_steady _ _) fun _ => ?_
    refine stable_protected.bind' (loadSeg_steady _ _ _) fun _ => (flags_leads _).bind' fun _ => ?_
    refine stable_protected.bind' (loadSeg_steady _ _ _) fun _ => stable_protected.bind' (returnSp_steady _ _) fun _ => ?_
    refine (modify_leads fun t ht => ht.withLevel _ t.regs).bind' fun _ => ?_
    refine stable_protected.bind' (invalidate_steady _ _) fun _ => stable_protected.bind' (invalidate_steady _ _) fun _ => ?_
    refine stable_protected.bind' (invalidate_steady _ _) fun _ => stable_protected.bind' (invalidate_steady _ _) fun _ => ?_
    exact (jumpTo_steady _).leads stable_protected

/-- Into V86 mode the level becomes 3 with VM (42_i.md R293). -/
theorem State.Protected.enterVm {s : State} (h : s.Protected) (f : Flags) (g : GeneralRegs) :
    State.Sound { s with flags := f, cpl := 3#2, regs := g } :=
  ⟨⟨h.mem, fun hp => absurd (h.pe.symm.trans hp) (by decide), fun _ => h.pe, h.paging, h.cr3, h.dr7⟩, fun _ => rfl⟩

theorem iretToV86_leads : Leads State.Protected State.Sound iretToV86 := by
  refine stable_protected.bind' (checkStackTop_steady _ _) fun _ => stable_protected.bind' (stackRead_steady _ _) fun _ => ?_
  refine stable_protected.bind' (stackRead_steady _ _) fun _ => stable_protected.bind' (stackRead_steady _ _) fun _ => ?_
  refine stable_protected.bind' (stackRead_steady _ _) fun _ => stable_protected.bind' (stackRead_steady _ _) fun _ => ?_
  refine stable_protected.bind' (stackRead_steady _ _) fun _ => stable_protected.bind' (stackRead_steady _ _) fun _ => ?_
  refine stable_protected.bind' (stackRead_steady _ _) fun _ => stable_protected.bind' (stackRead_steady _ _) fun _ => ?_
  refine stable_protected.bind' (require_steady _ _) fun _ => (modify_leads fun t ht => ht.enterVm _ _).bind' fun _ => ?_
  refine stable_sound.bind' (loadRealSeg_steady _ _) fun _ => stable_sound.bind' (loadRealSeg_steady _ _) fun _ => ?_
  refine stable_sound.bind' (loadRealSeg_steady _ _) fun _ => stable_sound.bind' (loadRealSeg_steady _ _) fun _ => ?_
  refine stable_sound.bind' (loadRealSeg_steady _ _) fun _ => stable_sound.bind' (loadRealSeg_steady _ _) fun _ => ?_
  exact (jumpTo_steady _).leads stable_sound

theorem iretTask_leads : Leads State.Protected State.Sound iretTask := by
  refine Leads.get' fun s _ => stable_protected.bind' (linRead_accesses _ _).steady fun _ => ?_
  refine stable_protected.bind' (require_steady _ _) fun _ => stable_protected.bind' (fetchDesc_steady _ _) fun _ => ?_
  refine stable_protected.bind' (require_steady _ _) fun _ => stable_protected.bind' (require_steady _ _) fun _ => ?_
  refine ((switchTasks_leads _ _ _ _).weaken (fun _ h => h.toGuarded) fun _ => id).bind' fun _ => Leads.committed ?_
  exact (Steady.get' fun _ => checkCodeLimit_steady _ _).leads stable_sound

theorem returnFromInterrupt_leads (sz : Sz) : Leads State.Sound State.Sound (returnFromInterrupt sz) := by
  refine Leads.get_same fun s hs => ?_
  have unblock (u : Unit) : Leads State.Sound State.Sound (modify fun s => { s with nmiBlocked := false } : M PUnit) :=
    (modify_steady).leads stable_sound
  refine Leads.ite (fun _ => ?_) fun hreal => Leads.ite (fun _ => ?_) fun hv86 => ?_
  · exact Leads.weaken (stable_sound.bind' (iretReal_steady sz) unblock) (by rintro _ rfl; exact hs) fun _ => id
  · exact Leads.weaken (stable_sound.bind' (raise_steady _) unblock) (by rintro _ rfl; exact hs) fun _ => id
  have hprot : s.Protected := hs.protected (by cases hm : s.mode <;> simp_all)
  refine Leads.weaken (P := State.Protected) (Q := State.Sound) ?_ (by rintro _ rfl; exact hprot) fun _ => id
  have stackReturn : Leads State.Protected State.Sound (iretProt sz) := (iretProt_leads sz).weaken (fun _ => id) fun _ h => h.sound
  refine Leads.ite (fun _ => iretTask_leads.bind' unblock) fun _ => Leads.ite (fun _ => ?_) fun _ => stackReturn.bind' unblock
  refine stable_protected.bind' (checkStackTop_steady _ _) fun _ => stable_protected.bind' (stackRead_steady _ _) fun _ => ?_
  exact Leads.branch (fun _ => iretToV86_leads) (fun _ => stackReturn) unblock

/-! ## Far transfers -/

theorem pushReturn_steady (sz : Sz) : Steady (pushReturn sz) :=
  .get' fun _ => (padSel_steady _ _).bind' fun _ => pushAll_steady _ _

theorem farReal_steady (call : Bool) (os : Sz) (off : Dword) (sel : Word) : Steady (farReal call os off sel) :=
  (require_steady _ _).bind' fun _ => Steady.when (pushReturn_steady os) fun _ => (loadRealSeg_steady _ _).bind' fun _ =>
    jumpTo_steady _

theorem enterCode_steady (sel : Word) (d : Desc) (off : Dword) : Steady (enterCode sel d off) :=
  .get' fun _ => (loadSeg_steady _ _ _).bind' fun _ => jumpTo_steady _

theorem transferSame_steady (call : Bool) (sz : Sz) (off : Dword) (sel : Word) (d : Desc) :
    Steady (transferSame call sz off sel d) :=
  .get' fun _ => (require_steady _ _).bind' fun _ => Steady.when (checkRoom_steady _ _ _ _ _) fun _ =>
    (checkCodeLimit_steady _ _).bind' fun _ => Steady.when (pushReturn_steady sz) fun _ => enterCode_steady _ _ _

theorem farCode_steady (call : Bool) (os : Sz) (off : Dword) (sel : Word) (d : Desc) : Steady (farCode call os off sel d) := by
  refine .get' fun s => Steady.ite ?_ ?_
  · exact (require_steady _ _).bind' fun _ => transferSame_steady _ _ _ _ _
  · exact (require_steady _ _).bind' fun _ => (require_steady _ _).bind' fun _ => transferSame_steady _ _ _ _ _

theorem readParams_steady (sz : Sz) (n i : Nat) : Steady (readParams sz n i) := by
  induction n generalizing i with
  | zero => exact Steady.pure' _
  | succ n ih => exact (stackRead_steady _ _).bind' fun _ => (ih _).bind' fun _ => Steady.pure' _

theorem callInner_leads (g : Desc) (cs : Word) (c : Desc) : Leads State.Protected State.Protected (callInner g cs c) := by
  refine Leads.get' fun s _ => stable_protected.bind' (require_steady _ _) fun _ => ?_
  refine stable_protected.bind' (innerStack_steady _ _) fun _ => stable_protected.bind' (checkRoom_steady _ _ _ _ _) fun _ => ?_
  refine stable_protected.bind' (checkCodeLimit_steady _ _) fun _ => stable_protected.bind' (readParams_steady _ _ _) fun _ => ?_
  refine stable_protected.bind' (padSel_steady _ _) fun _ => stable_protected.bind' (padSel_steady _ _) fun _ => ?_
  refine (enterStack_leads _ _ _ _).bind' fun _ => stable_protected.bind' (pushAll_steady _ _) fun _ => ?_
  exact (enterCode_steady _ _ _).leads stable_protected

theorem farGate_leads (call : Bool) (sel : Word) (g : Desc) : Leads State.Protected State.Protected (farGate call sel g) := by
  refine Leads.get' fun s _ => stable_protected.bind' (require_steady _ _) fun _ => ?_
  refine stable_protected.bind' (require_steady _ _) fun _ => stable_protected.bind' (require_steady _ _) fun _ => ?_
  refine stable_protected.bind' (require_steady _ _) fun _ => stable_protected.bind' (fetchDesc_steady _ _) fun _ => ?_
  refine stable_protected.bind' (require_steady _ _) fun _ => Leads.ite (fun _ => ?_) fun _ => ?_
  · refine stable_protected.bind' (require_steady _ _) fun _ => Leads.ite (fun _ => callInner_leads _ _ _) fun _ => ?_
    exact (transferSame_steady _ _ _ _ _).leads stable_protected
  · exact stable_protected.bind' (require_steady _ _) fun _ => (transferSame_steady _ _ _ _ _).leads stable_protected

theorem farTask_leads (call : Bool) (sel : Word) (d : Desc) : Leads State.Protected State.Sound (farTask call sel d) := by
  have switch_leads k t td ret : Leads State.Protected State.Sound (switchTasks k t td ret) :=
    (switchTasks_leads k t td ret).weaken (fun _ h => h.toGuarded) fun _ => id
  refine Leads.get' fun s _ => stable_protected.bind' (require_steady _ _) fun _ => ?_
  refine stable_protected.bind' (require_steady _ _) fun _ => stable_protected.bind' (require_steady _ _) fun _ => ?_
  have limit (bad : Word → Exc) (u : Unit) : Leads State.Sound State.Sound
      (committed do
        let s ← get
        require (s.cs.holds s.eip.toNat 1) (bad 0#16)) :=
    Leads.committed ((Steady.get' fun _ => require_steady _ _).leads stable_sound)
  refine Leads.ite (fun _ => ?_) fun _ => ?_
  · exact stable_protected.bind' (require_steady _ _) fun _ => stable_protected.bind' (fetchTss_steady _ _) fun _ =>
      (switch_leads _ _ _ _).bind' (limit _)
  · exact stable_protected.bind' (require_steady _ _) fun _ => stable_protected.bind' (require_steady _ _) fun _ =>
      (switch_leads _ _ _ _).bind' (limit _)

theorem farProt_leads (call : Bool) (os : Sz) (off : Dword) (sel : Word) :
    Leads State.Protected State.Sound (farProt call os off sel) := by
  have answer (b : Bool) (u : Unit) : Leads State.Sound State.Sound (pure b : M Bool) := (Steady.pure' b).leads stable_sound
  have answer' (b : Bool) (u : Unit) : Leads State.Protected State.Sound (pure b : M Bool) :=
    ((Steady.pure' b).leads stable_protected).weaken (fun _ => id) fun _ h => h.sound
  refine stable_protected.bind' (require_steady _ _) fun _ => stable_protected.bind' (fetchDesc_steady _ _) fun d => ?_
  refine Leads.ite (fun _ => ?_) fun _ => Leads.ite (fun _ => ?_) fun _ => Leads.ite (fun _ => ?_) fun _ => ?_
  · exact stable_protected.bind' (farCode_steady _ _ _ _ _) (answer' _)
  · exact (farGate_leads _ _ _).bind' (answer' _)
  · exact (farTask_leads _ _ _).bind' (answer _)
  · exact ((raise_steady _).leads stable_protected).weaken (fun _ => id) fun _ h => h.sound

theorem farTransfer_leads (call : Bool) (os : Sz) (off : Dword) (sel : Word) :
    Leads State.Sound State.Sound (farTransfer call os off sel) := by
  refine Leads.get_same fun s hs => Leads.ite (fun hm => ?_) fun _ => ?_
  · exact (farProt_leads _ _ _ _).weaken (by rintro _ rfl; exact hs.protected hm) fun _ => id
  · refine Leads.weaken (P := State.Sound) (Q := State.Sound) ?_ (by rintro _ rfl; exact hs) fun _ => id
    exact stable_sound.bind' (farReal_steady _ _ _ _) fun _ => (Steady.pure' _).leads stable_sound

/-! ## Far returns -/

theorem retReal_steady (os : Sz) (n : Word) : Steady (retReal os n) :=
  (stackRead_steady _ _).bind' fun _ => (stackRead_steady _ _).bind' fun _ => (require_steady _ _).bind' fun _ =>
    (addStackPtr_steady _).bind' fun _ => (loadRealSeg_steady _ _).bind' fun _ => jumpTo_steady _

theorem clearInvalid_steady (r : Sreg) : Steady (clearInvalid r) := modify_steady fun s => setSegIf_calm s _ r _

theorem retSame_steady (os : Sz) (n : Word) (rcs : Word) : Steady (retSame os n rcs) :=
  .get' fun _ => (returnCs_steady _ _).bind' fun _ => (checkStackTop_steady _ _).bind' fun _ =>
    (stackRead_steady _ _).bind' fun _ => (checkCodeLimit_steady _ _).bind' fun _ => (loadSeg_steady _ _ _).bind' fun _ =>
      (addStackPtr_steady _).bind' fun _ => jumpTo_steady _

theorem retOuter_leads (os : Sz) (n : Word) (rcs : Word) : Leads State.Protected State.Protected (retOuter os n rcs) := by
  refine stable_protected.bind' (checkStackTop_steady _ _) fun _ => stable_protected.bind' (returnCs_steady _ _) fun _ => ?_
  refine stable_protected.bind' (stackRead_steady _ _) fun _ => stable_protected.bind' (returnSs_steady _ _) fun _ => ?_
  refine stable_protected.bind' (stackRead_steady _ _) fun _ => stable_protected.bind' (checkCodeLimit_steady _ _) fun _ => ?_
  refine stable_protected.bind' (stackRead_steady _ _) fun _ => (modify_leads fun t ht => ht.withLevel _ t.regs).bind' fun _ => ?_
  refine stable_protected.bind' (loadSeg_steady _ _ _) fun _ => stable_protected.bind' (loadSeg_steady _ _ _) fun _ => ?_
  refine stable_protected.bind' (returnSp_steady _ _) fun _ => stable_protected.bind' (clearInvalid_steady _) fun _ => ?_
  refine stable_protected.bind' (clearInvalid_steady _) fun _ => stable_protected.bind' (clearInvalid_steady _) fun _ => ?_
  exact stable_protected.bind' (clearInvalid_steady _) fun _ => (jumpTo_steady _).leads stable_protected

theorem retProt_leads (os : Sz) (n : Word) : Leads State.Protected State.Protected (retProt os n) := by
  refine Leads.get' fun s _ => stable_protected.bind' (checkStackTop_steady _ _) fun _ => ?_
  refine stable_protected.bind' (memBytes_accesses _ _ _).steady fun _ => stable_protected.bind' (require_steady _ _) fun _ => ?_
  exact Leads.ite (fun _ => (retSame_steady _ _ _).leads stable_protected) fun _ => retOuter_leads _ _ _

theorem softwareInterrupt_leads (vector : Byte) : Leads State.Sound State.Sound (softwareInterrupt vector) :=
  Leads.get' fun _ _ => (deliver_leads _).weaken (fun _ h => h.toSane) fun _ => id

end Sys2Proof.Machine
end

section
/-! PROOFS. The operations of the instructions that are steady, in the order of the model's files. -/

namespace Sys2Proof.Machine

/-! ## Operands -/

/-- The addresses of a place in memory lie in the address space. -/
def Place.Bounded (p : Place) : Prop := ∀ as, p = .mem as → ∀ a ∈ as, a < 2 ^ 32

theorem bounded_reg (r : Reg) : Place.Bounded (.reg r) := nofun

theorem bounded_mem {as : List Nat} (h : ∀ a ∈ as, a < 2 ^ 32) : Place.Bounded (.mem as) := by
  rintro _ ⟨⟩
  exact h

/-- Opened memory as an operand's place. -/
theorem openMem_bounded (r : Sreg) (off : Dword) (n : Nat) (wr : Bool) :
    SteadyWith Place.Bounded (do return .mem (← openMem r off n wr)) :=
  (openMem_accesses r off n wr).steadyWith.bindWith fun _ h => SteadyWith.pure' (bounded_mem h)

theorem openRm_bounded (w : Width) (rm : Rm) (wr : Bool) : SteadyWith Place.Bounded (openRm w rm wr) :=
  (openRm_accesses w rm wr).steadyWith

theorem effAddr_steady (m : Mem) : Steady (effAddr m) := (effAddr_accesses m).steady

theorem resolve_steady (m : Mem) : Steady (resolve m) := (resolve_accesses m).steady

theorem memBytes_steady (r : Sreg) (off : Dword) (n : Nat) : Steady (memBytes r off n) := (memBytes_accesses r off n).steady

theorem memStore_steady (r : Sreg) (off : Dword) (bs : List Byte) : Steady (memStore r off bs) :=
  (memStore_accesses r off bs).steady

theorem linRead_steady (a : Dword) (n : Nat) : Steady (linRead a n) := (linRead_accesses a n).steady

theorem readPlace_steady (w : Width) (p : Place) : Steady (readPlace w p) := by
  cases p with
  | reg r => exact readReg_steady w r
  | mem as => exact (readPhys_accesses as).steady.bind' fun _ => Steady.pure' _

theorem writePlace_steady (w : Width) {p : Place} (h : p.Bounded) (v : BitVec w.bits) : Steady (writePlace w p v) := by
  cases p with
  | reg r => exact writeReg_steady w r v
  | mem as => exact (writePhys_accesses (h as rfl) _).steady

theorem readRm_steady (w : Width) (rm : Rm) : Steady (readRm w rm) :=
  (openRm_bounded _ _ _).bind' fun _ _ => readPlace_steady _ _

theorem writeRm_steady (w : Width) (rm : Rm) (v : BitVec w.bits) : Steady (writeRm w rm v) :=
  (openRm_bounded _ _ _).bind' fun _ h => writePlace_steady _ h _

theorem updateRm_steady (w : Width) (rm : Rm) {f : BitVec w.bits → M (BitVec w.bits)} (hf : ∀ a, Steady (f a)) :
    Steady (updateRm w rm f) :=
  (openRm_bounded _ _ _).bind' fun _ h => (readPlace_steady _ _).bind' fun a => (hf a).bind' fun _ => writePlace_steady _ h _

theorem updateReg_steady (w : Width) (r : Reg) {f : BitVec w.bits → M (BitVec w.bits)} (hf : ∀ a, Steady (f a)) :
    Steady (updateReg w r f) :=
  (readReg_steady _ _).bind' fun a => (hf a).bind' fun _ => writeReg_steady _ _ _

theorem requireMem_steady (rm : Rm) : Steady (requireMem rm) := by
  cases rm with
  | reg r => exact raise_steady _
  | mem m => exact Steady.pure' m

theorem readSelector_steady (os : Sz) (rm : Rm) : Steady (readSelector os rm) :=
  (readRm_steady _ _).bind' fun _ => Steady.pure' _

theorem openMoffs_bounded (w : Width) (o : Imm) (wr : Bool) : SteadyWith Place.Bounded (openMoffs w o wr) :=
  .get' fun _ => openMem_bounded _ _ _ _

theorem readPair_steady (m : Mem) (k n : Nat) : Steady (readPair m k n) :=
  (resolve_steady m).bind' fun _ => (memParts_accesses _ _ _ _).steady.bind' fun _ => Steady.pure' _

theorem readFar_steady (os : Sz) (rm : Rm) : Steady (readFar os rm) :=
  (requireMem_steady rm).bind' fun _ => (resolve_steady _).bind' fun _ => (memBytes_steady _ _ _).bind' fun _ => Steady.pure' _

theorem stepIndex_steady (as : Sz) (w : Width) (r : Reg) : Steady (stepIndex as w r) :=
  getFlags_steady.bind' fun _ => (readRegSz_steady _ _).bind' fun _ => writeRegSz_steady _ _ _

theorem openSource_bounded (as : Sz) (w : Width) : SteadyWith Place.Bounded (openSource as w) :=
  .get' fun _ => (readRegSz_steady _ _).bindWith fun _ => openMem_bounded _ _ _ _

theorem openDest_bounded (as : Sz) (w : Width) (wr : Bool) : SteadyWith Place.Bounded (openDest as w wr) :=
  (readRegSz_steady _ _).bindWith fun _ => openMem_bounded _ _ _ _

/-! ## Arithmetic and logic -/

theorem aluFlags_vm {n : Nat} (op : AluOp) (a b : BitVec n) (u : Bool) (f : Flags) : (aluFlags op a b u f).vm = f.vm := by
  cases op <;> rfl

theorem alu_steady {n : Nat} (op : AluOp) (a b : BitVec n) : Steady (alu op a b) :=
  getFlags_steady.bind' fun _ => Steady.branch (draw_steady 1) (Steady.pure' _) fun _ =>
    (modifyFlags_steady (aluFlags_vm op a b _)).bind' fun _ => Steady.pure' _

theorem aluTo_steady (w : Width) (op : AluOp) {p : Place} (h : p.Bounded) (b : BitVec w.bits) : Steady (aluTo w op p b) :=
  (readPlace_steady _ _).bind' fun _ => (alu_steady _ _ _).bind' fun _ => (writePlace_steady _ h _).ite (Steady.pure' ())

theorem incr_steady {n : Nat} (a : BitVec n) : Steady (incr a) := (modifyFlags_steady).bind' fun _ => Steady.pure' _
theorem decr_steady {n : Nat} (a : BitVec n) : Steady (decr a) := (modifyFlags_steady).bind' fun _ => Steady.pure' _
theorem negate_steady {n : Nat} (a : BitVec n) : Steady (negate a) := (modifyFlags_steady).bind' fun _ => Steady.pure' _
theorem complement_steady {n : Nat} (a : BitVec n) : Steady (complement a) := Steady.pure' _
theorem testBits_steady {n : Nat} (a b : BitVec n) : Steady (testBits a b) := (draw_steady 1).bind' fun _ => modifyFlags_steady

theorem readDouble_steady (w : Width) : Steady (readDouble w) := by
  cases w with
  | b8 => exact readReg_steady _ _
  | b16 => exact (readReg_steady _ _).bind' fun _ => (readReg_steady _ _).bind' fun _ => Steady.pure' _
  | b32 => exact (readReg_steady _ _).bind' fun _ => (readReg_steady _ _).bind' fun _ => Steady.pure' _

theorem writePair_steady (w : Width) (hi lo : BitVec w.bits) : Steady (writePair w hi lo) := by
  cases w <;> exact (writeReg_steady _ _ _).bind' fun _ => writeReg_steady _ _ _

theorem mulFlags_steady (high : Bool) : Steady (mulFlags high) := (modifyFlags_steady).bind' fun _ => undefStatus_steady _

theorem mulUnsigned_steady (w : Width) (b : BitVec w.bits) : Steady (mulUnsigned w b) :=
  (readReg_steady _ _).bind' fun _ => (writePair_steady _ _ _).bind' fun _ => mulFlags_steady _

theorem mulSigned_steady (w : Width) (b : BitVec w.bits) : Steady (mulSigned w b) :=
  (readReg_steady _ _).bind' fun _ => (writePair_steady _ _ _).bind' fun _ => mulFlags_steady _

theorem mulSignedTo_steady (w : Width) (r : Reg) (a b : BitVec w.bits) : Steady (mulSignedTo w r a b) :=
  (writeReg_steady _ _ _).bind' fun _ => mulFlags_steady _

theorem divUnsigned_steady (w : Width) (v : BitVec w.bits) : Steady (divUnsigned w v) :=
  (readDouble_steady _).bind' fun _ => (require_steady _ _).bind' fun _ => (require_steady _ _).bind' fun _ =>
    (writePair_steady _ _ _).bind' fun _ => undefStatus_steady _

theorem divSigned_steady (w : Width) (v : BitVec w.bits) : Steady (divSigned w v) :=
  (readDouble_steady _).bind' fun _ => (require_steady _ _).bind' fun _ => (require_steady _ _).bind' fun _ =>
    (writePair_steady _ _ _).bind' fun _ => undefStatus_steady _

theorem asciiAdjust_steady (d h : Byte) : Steady (asciiAdjust d h) := by
  refine getFlags_steady.bind' fun f => (readReg_steady _ _).bind' fun al => (readReg_steady _ _).bind' fun ah => ?_
  refine Steady.ite ?_ ?_
  · exact (writeReg_steady _ _ _).bind' fun _ => (writeReg_steady _ _ _).bind' fun _ => (modifyFlags_steady).bind' fun _ =>
      undefStatus_steady _
  · exact (writeReg_steady _ _ _).bind' fun _ => (modifyFlags_steady).bind' fun _ => undefStatus_steady _

theorem decimalAdjust_steady (d h : Byte) : Steady (decimalAdjust d h) :=
  getFlags_steady.bind' fun _ => (readReg_steady _ _).bind' fun _ => (writeReg_steady _ _ _).bind' fun _ =>
    (modifyFlags_steady).bind' fun _ => undefStatus_steady _

theorem asciiBeforeDivide_steady : Steady asciiBeforeDivide :=
  (readReg_steady _ _).bind' fun _ => (readReg_steady _ _).bind' fun _ => (writeReg_steady _ _ _).bind' fun _ =>
    (writeReg_steady _ _ _).bind' fun _ => (modifyFlags_steady).bind' fun _ => undefStatus_steady _

theorem asciiAfterMultiply_steady : Steady asciiAfterMultiply :=
  (readReg_steady _ _).bind' fun _ => (writeReg_steady _ _ _).bind' fun _ => (writeReg_steady _ _ _).bind' fun _ =>
    (modifyFlags_steady).bind' fun _ => undefStatus_steady _

/-! ## Bits, rotates and shifts -/

theorem bitOn_steady (w : Width) (op : BitOp) {p : Place} (h : p.Bounded) (i : Nat) : Steady (bitOn w op p i) :=
  (readPlace_steady _ _).bind' fun _ => (modifyFlags_steady).bind' fun _ => (undefStatus_steady _).bind' fun _ =>
    (writePlace_steady _ h _).ite (Steady.pure' ())

theorem openBit_bounded (w : Width) (rm : Rm) (o : BitVec w.bits) (wr : Bool) : SteadyWith Place.Bounded (openBit w rm o wr) := by
  cases rm with
  | reg r => exact SteadyWith.pure' (bounded_reg r)
  | mem m => exact (resolve_steady m).bindWith fun _ => openMem_bounded _ _ _ _

theorem shiftFlags_vm {n : Nat} (op : ShiftOp) (c : Nat) (a : BitVec n) (uo ua : Bool) (f : Flags) :
    (shiftFlags op c a uo ua f).vm = f.vm := by
  by_cases hc : c = 0 <;> by_cases hr : isRotate op = true <;> simp [shiftFlags, szpFlags, hc, hr]

theorem shiftBits_steady {n : Nat} (op : ShiftOp) (c : Nat) (a : BitVec n) : Steady (shiftBits op c a) :=
  getFlags_steady.bind' fun _ => (draw_steady 2).bind' fun _ =>
    (modifyFlags_steady (shiftFlags_vm op c a _ _)).bind' fun _ => Steady.pure' _

theorem doubleShift_steady {n : Nat} (left : Bool) (c : Nat) (b a : BitVec n) : Steady (doubleShift left c b a) := by
  refine (Steady.pure' a).ite (Steady.ite ?_ ?_)
  · exact (draw_steady n).bind' fun _ => (undefStatus_steady _).bind' fun _ => Steady.pure' _
  · exact (modifyFlags_steady).bind' fun _ => (undefStatus_steady _).bind' fun _ => Steady.pure' _

/-! ## Near transfers -/

theorem jumpNear_steady (os : Sz) (t : Dword) : Steady (jumpNear os t) :=
  .get' fun _ => (checkCodeLimit_steady _ _).bind' fun _ => jumpTo_steady _

theorem jumpRelative_steady (os : Sz) (rel : Dword) : Steady (jumpRelative os rel) := .get' fun _ => jumpNear_steady _ _

theorem callNear_steady (os : Sz) (t : Dword) : Steady (callNear os t) :=
  .get' fun _ => (checkCodeLimit_steady _ _).bind' fun _ => (push_steady _ _).bind' fun _ => jumpTo_steady _

/-! ## Data movement and ports -/

theorem checkBounds_steady (os : Sz) (r : Reg) (rm : Rm) : Steady (checkBounds os r rm) :=
  (requireMem_steady rm).bind' fun _ => (readPair_steady _ _ _).bind' fun _ => (readReg_steady _ _).bind' fun _ =>
    require_steady _ _

theorem ioPermission_steady (port : Word) (n : Nat) : Steady (ioPermission port n) := by
  refine .get' fun s => Steady.ite ((linRead_steady _ _).bind' fun base => Steady.ite ?_ (Steady.pure' _)) (Steady.pure' _)
  exact (linRead_steady _ _).bind' fun _ => Steady.pure' _

theorem checkPort_steady (port : Word) (w : Width) : Steady (checkPort port w) :=
  .get' fun _ => ((ioPermission_steady _ _).bind' fun _ => require_steady _ _).ite (Steady.pure' ())

theorem portIn_steady (w : Width) (port : Word) : Steady (portIn w port) :=
  fun _ => ⟨⟨rfl, rfl, rfl, rfl, id, id, id⟩, trivial⟩

theorem portOut_steady (w : Width) (port : Word) (v : BitVec w.bits) : Steady (portOut w port v) :=
  fun _ => ⟨⟨rfl, rfl, rfl, rfl, id, id, id⟩, trivial⟩

theorem inPort_steady (w : Width) (port : Word) : Steady (inPort w port) :=
  (checkPort_steady _ _).bind' fun _ => (portIn_steady _ _).bind' fun _ => writeReg_steady _ _ _

theorem outPort_steady (w : Width) (port : Word) : Steady (outPort w port) :=
  (checkPort_steady _ _).bind' fun _ => (readReg_steady _ _).bind' fun _ => portOut_steady _ _ _

/-! ## Segment and table registers -/

theorem storeSreg_steady (os : Sz) (rm : Rm) (f : BitVec 3) : Steady (storeSreg os rm f) := by
  refine .get' fun s => ?_
  split
  · exact raise_steady _
  · split
    · exact (padSel_steady _ _).bind' fun _ => writeRegSz_steady _ _ _
    · exact writeRm_steady _ _ _

theorem moveSreg_steady (f : BitVec 3) (rm : Rm) : Steady (moveSreg f rm) := by
  unfold moveSreg
  split
  · exact raise_steady _
  · exact (require_steady _ _).bind' fun _ => (readRm_steady _ _).bind' fun _ => (segLoad_steady _ _).bind' fun _ =>
      (modify_steady).ite (Steady.pure' ())

theorem readTable_steady (os : Sz) (rm : Rm) : Steady (readTable os rm) :=
  (requireMem_steady rm).bind' fun _ => requireCpl0_steady.bind' fun _ => (readPair_steady _ _ _).bind' fun _ => Steady.pure' _

theorem storeTable_steady (os : Sz) (rm : Rm) (t : TableReg) : Steady (storeTable os rm t) :=
  (requireMem_steady rm).bind' fun _ => (resolve_steady _).bind' fun _ => memStore_steady _ _ _

theorem lookup_steady (sel : Word) : Steady (lookup sel) :=
  .get' fun _ => (Steady.bind' (.get' fun _ => readDescAt_steady _) fun _ => Steady.pure' _).ite (Steady.pure' _)

theorem setZero_steady (b : Bool) : Steady (setZero b) := modifyFlags_steady

theorem accessRights_steady (d : Desc) : Steady (accessRights d) := (draw_steady 4).bind' fun _ => Steady.pure' _

theorem loadLdt_steady (sel : Word) : Steady (loadLdt sel) :=
  (modify_steady).ite <| (require_steady _ _).bind' fun _ => (fetchDesc_steady _ _).bind' fun _ =>
    (require_steady _ _).bind' fun _ => (require_steady _ _).bind' fun _ => modify_steady

theorem loadTask_steady (sel : Word) : Steady (loadTask sel) :=
  (require_steady _ _).bind' fun _ => (require_steady _ _).bind' fun _ => (fetchDesc_steady _ _).bind' fun _ =>
    (require_steady _ _).bind' fun _ => (require_steady _ _).bind' fun _ => (setBusy_steady _ _).bind' fun _ => modify_steady

theorem adjustRpl_steady (rm : Rm) (src : Word) : Steady (adjustRpl rm src) := by
  have change : Steady (do
      let p ← openRm .b16 rm true
      let d ← readPlace .b16 p
      if decide (selRpl d < selRpl src) then writePlace .b16 p (withRpl d (selRpl src))
      setZero (decide (selRpl d < selRpl src)) : M Unit) :=
    (openRm_bounded _ _ _).bind' fun _ h => (readPlace_steady _ _).bind' fun _ =>
      Steady.when (writePlace_steady _ h _) fun _ => setZero_steady _
  intro s
  by_cases hc : isMem rm = true ∧ Config.arplChecksWrite = false
  · have h := readRm_steady .b16 rm s
    simp only [adjustRpl, if_pos hc]
    rcases hr : readRm .b16 rm s with (⟨e, st, c⟩ | r) | ⟨d, t⟩ <;> simp only [hr] at h ⊢
    · exact h
    · by_cases hl : decide (selRpl d < selRpl src) = true
      · simpa only [if_pos hl] using change s
      · simp only [if_neg hl]
        exact ⟨h.1.trans (setZero_steady false t).1, trivial⟩
  · simp only [adjustRpl, if_neg hc]
    exact change s

/-! ## The stack -/

theorem popSegment_steady (os : Sz) (r : Sreg) : Steady (popSegment os r) :=
  .get' fun _ => (stackRead_steady _ _).bind' fun _ => (segLoad_steady _ _).bind' fun _ => setStackPtr_steady _

theorem requireIopl_steady : Steady requireIopl := .get' fun _ => require_steady _ _

theorem setElements_calm (s : State) (sz : Sz) {ps : List (List Nat)} (h : ∀ as ∈ ps, ∀ a ∈ as, a < 2 ^ 32) (vs : List Dword) :
    Calm s (s.setElements sz ps vs) := by
  induction ps generalizing s vs with
  | nil => exact Calm.refl s
  | cons p ps ih =>
    cases vs with
    | nil => exact Calm.refl s
    | cons v vs =>
      have first : Calm s (s.setBytes p (leBytes sz.bytes v)) :=
        (writePhys_accesses (h p (by simp)) (leBytes sz.bytes v)).steady s |>.1
      exact first.trans (ih _ (fun as has => h as (by simp [has])) vs)

theorem pushAllRegs_steady (os : Sz) : Steady (pushAllRegs os) :=
  .get' fun _ => (openBelow_accesses _ _ _).steadyWith.bind' fun _ h =>
    (modify_steady fun t => setElements_calm t _ h _).bind' fun _ => setStackPtr_steady _

theorem popAllRegs_steady (os : Sz) : Steady (popAllRegs os) := by
  refine .get' fun s => (memBytes_steady _ _ _).bind' fun bs => (addStackPtr_steady _).bind' fun _ => ?_
  refine (writeRegSz_steady _ _ _).bind' fun _ => (writeRegSz_steady _ _ _).bind' fun _ => ?_
  refine (writeRegSz_steady _ _ _).bind' fun _ => (writeRegSz_steady _ _ _).bind' fun _ => ?_
  exact (writeRegSz_steady _ _ _).bind' fun _ => (writeRegSz_steady _ _ _).bind' fun _ => writeRegSz_steady _ _ _

theorem copyDisplay_steady (os : Sz) (k : Nat) : Steady (copyDisplay os k) := by
  induction k with
  | zero => exact Steady.pure' ()
  | succ k ih =>
    exact (readRegSz_steady _ _).bind' fun _ => (writeRegSz_steady _ _ _).bind' fun _ => .get' fun _ =>
      (readRegSz_steady _ _).bind' fun _ => (memBytes_steady _ _ _).bind' fun _ => (push_steady _ _).bind' fun _ => ih

theorem enterFrame_steady (os : Sz) (locals : Word) (level : Byte) : Steady (enterFrame os locals level) := by
  refine (readRegSz_steady _ _).bind' fun _ => (push_steady _ _).bind' fun _ => .get' fun s => ?_
  refine Steady.ite ?_ ?_
  · exact (copyDisplay_steady _ _).bind' fun _ => (push_steady _ _).bind' fun _ => (writeRegSz_steady _ _ _).bind' fun _ =>
      modify_steady
  · exact (writeRegSz_steady _ _ _).bind' fun _ => modify_steady

theorem leaveFrame_steady (os : Sz) : Steady (leaveFrame os) :=
  .get' fun _ => (readRegSz_steady _ _).bind' fun _ => (memBytes_steady _ _ _).bind' fun _ =>
    (setStackPtr_steady _).bind' fun _ => writeRegSz_steady _ _ _

/-! ## String instructions -/

theorem repeatOnce_steady (pc : Dword) (rep : Rep) (scan : Bool) (as : Sz) {body : M Unit} (h : Steady body) :
    Steady (repeatOnce pc rep scan as body) := by
  refine (readRegSz_steady _ _).bind' fun _ => (Steady.pure' ()).ite <| h.bind' fun _ => ?_
  exact (writeRegSz_steady _ _ _).bind' fun _ => getFlags_steady.bind' fun _ => (Steady.pure' ()).ite modify_steady

theorem moveString_steady (as : Sz) (w : Width) : Steady (moveString as w) :=
  (openSource_bounded _ _).bind' fun _ _ => (readPlace_steady _ _).bind' fun _ => (openDest_bounded _ _ _).bind' fun _ h =>
    (writePlace_steady _ h _).bind' fun _ => (stepIndex_steady _ _ _).bind' fun _ => stepIndex_steady _ _ _

theorem compareString_steady (as : Sz) (w : Width) : Steady (compareString as w) :=
  (openSource_bounded _ _).bind' fun _ _ => (readPlace_steady _ _).bind' fun _ => (openDest_bounded _ _ _).bind' fun _ _ =>
    (readPlace_steady _ _).bind' fun _ => (modifyFlags_steady).bind' fun _ => (stepIndex_steady _ _ _).bind' fun _ =>
      stepIndex_steady _ _ _

theorem scanString_steady (as : Sz) (w : Width) : Steady (scanString as w) :=
  (openDest_bounded _ _ _).bind' fun _ _ => (readPlace_steady _ _).bind' fun _ => (readReg_steady _ _).bind' fun _ =>
    (modifyFlags_steady).bind' fun _ => stepIndex_steady _ _ _

theorem loadString_steady (as : Sz) (w : Width) : Steady (loadString as w) :=
  (openSource_bounded _ _).bind' fun _ _ => (readPlace_steady _ _).bind' fun _ => (writeReg_steady _ _ _).bind' fun _ =>
    stepIndex_steady _ _ _

theorem storeString_steady (as : Sz) (w : Width) : Steady (storeString as w) :=
  (openDest_bounded _ _ _).bind' fun _ h => (readReg_steady _ _).bind' fun _ => (writePlace_steady _ h _).bind' fun _ =>
    stepIndex_steady _ _ _

theorem inputString_steady (as : Sz) (w : Width) : Steady (inputString as w) :=
  (readReg_steady _ _).bind' fun _ => (checkPort_steady _ _).bind' fun _ => (openDest_bounded _ _ _).bind' fun _ h =>
    (portIn_steady _ _).bind' fun _ => (writePlace_steady _ h _).bind' fun _ => stepIndex_steady _ _ _

theorem outputString_steady (as : Sz) (w : Width) : Steady (outputString as w) :=
  (readReg_steady _ _).bind' fun _ => (checkPort_steady _ _).bind' fun _ => (openSource_bounded _ _).bind' fun _ _ =>
    (readPlace_steady _ _).bind' fun _ => (portOut_steady _ _ _).bind' fun _ => stepIndex_steady _ _ _

/-! ## Processor control -/

theorem requireIo_steady : Steady requireIo := .get' fun _ => require_steady _ _

theorem enableInterrupts_steady (shadowed : Bool) : Steady (enableInterrupts shadowed) :=
  requireIo_steady.bind' fun _ => getFlags_steady.bind' fun _ => (modifyFlags_steady).bind' fun _ =>
    (modify_steady).ite (Steady.pure' ())

theorem writeCr3_steady (v : Dword) : Steady (writeCr3 v) :=
  modify_steady fun _ => ⟨rfl, rfl, rfl, rfl, id, fun _ => pageMask_aligned v, id⟩

/-- A breakpoint is never enabled: the model refuses it (60_exceptions.md R546). -/
theorem writeDReg_steady (d : DReg) (v : Dword) : Steady (writeDReg d v) := by
  cases d with
  | dr7 =>
    unfold writeDReg
    dsimp only
    split
    · exact refuse_bind_steady _ _
    · exact modify_steady fun _ => ⟨rfl, rfl, rfl, rfl, id, id, fun _ => by simpa using ‹¬ breakpointsOn v = true›⟩
  | _ => exact modify_steady

theorem writeTReg_steady (t : TReg) (v : Dword) : Steady (writeTReg t v) := by
  cases t <;> exact modify_steady

theorem waitChecks_steady : Steady waitChecks := .get' fun _ => (require_steady _ _).bind' fun _ => require_steady _ _

end Sys2Proof.Machine
end

section
/-! PROOFS. The invariant of the machine is kept by every instruction and by every step (20_memory.md R80, 10_state.md R43, R47,
60_exceptions.md R546). -/

namespace Sys2Proof.Machine

open Sys2Proof.Claims

/-! ## Control registers -/

/-- A sound state of a processor at level 0 outside V86 mode: what the privileged instructions ask for. -/
structure State.Supervisor (s : State) : Prop extends s.Sound where
  level0 : s.cpl = 0#2
  noVm : s.flags.vm = false

theorem stable_supervisor : Stable State.Supervisor :=
  ⟨fun _ hs => hs.toSane, fun _ _ h hs => ⟨h.sound hs.toSound, h.cpl.trans hs.level0, h.vm.trans hs.noVm⟩⟩

theorem requireCpl0_leads : Leads State.Sound State.Supervisor requireCpl0 := by
  refine Leads.get_same fun s hs => require_leads (by rintro _ rfl; exact hs.toSane) fun h => ?_
  rintro t rfl
  cases hp : t.cr0.pe with
  | false => exact ⟨hs, hs.real hp, by have := hs.vm; simp_all⟩
  | true => exact ⟨hs, by simp_all, by simp_all⟩

theorem setCr0_leads {c : Cr0} (h : c.pg = true → c.pe = true) : Leads State.Supervisor State.Sound (setCr0 c) :=
  modify_leads fun _ hs =>
    ⟨⟨hs.mem, fun _ => hs.level0, fun hv => absurd (hs.noVm.symm.trans hv) (by decide), h, hs.cr3, hs.dr7⟩,
      fun hv => absurd (hs.noVm.symm.trans hv) (by decide)⟩

theorem writeCr0_leads (v : Dword) : Leads State.Supervisor State.Sound (writeCr0 v) := by
  refine Leads.ite (fun _ => refuse_bind_leads _ _) fun h => stable_supervisor.bind' (draw_steady 26) fun _ => setCr0_leads ?_
  intro hg
  have hg : (cr0OfWord v).pg = true := hg
  simpa [hg] using h

theorem writeCReg_leads (c : CReg) (v : Dword) : Leads State.Supervisor State.Sound (writeCReg c v) := by
  cases c with
  | cr0 => exact writeCr0_leads v
  | cr2 => exact ((modify_steady).leads stable_supervisor).weaken (fun _ => id) fun _ h => h.toSound
  | cr3 => exact ((writeCr3_steady v).leads stable_supervisor).weaken (fun _ => id) fun _ h => h.toSound

theorem loadMsw_leads (v : Word) : Leads State.Supervisor State.Sound (loadMsw v) :=
  Leads.get' fun s hs => setCr0_leads fun hg => by simp [hs.paging hg]

/-! ## Running one instruction -/

/-- From a sound state the outcome keeps the invariant. -/
def Keeps (s : State) (o : Host.Outcome State Fault Refusal) : Prop := s.Sound → NextInv o

theorem keeps_refused (s : State) (r : Refusal) : Keeps s (.refused r) := fun _ => nextInv_refused r

theorem keeps_next {s t : State} (h : Calm s t) : Keeps s (.next t) := by
  rintro hs _ ⟨⟩
  exact (h.sound hs).inv

theorem runM_keeps {s : State} {m : M Unit} (hm : Leads State.Sound State.Sound m) : Keeps s (runM s m) := by
  intro hs
  have hb : (begun s).Sound := stable_sound.calm s _ ⟨rfl, rfl, rfl, rfl, id, id, id⟩ hs
  have h := hm (begun s) hb
  unfold runM
  split at h <;> simp only [*]
  case h_1 t _ =>
    rintro _ ⟨⟩
    exact (stable_sound.calm t (retire s t) ⟨rfl, rfl, rfl, rfl, id, id, id⟩ h).inv
  · exact takeException_nextInv _ _ hs.toSane h
  · exact nextInv_refused _

theorem perform_keeps_of_leads {s : State} {l : Bool} {m : M Unit} (hm : Leads State.Sound State.Sound m) :
    Keeps s (perform s l m) :=
  runM_keeps <| stable_sound.bind' (checkPrefixes_steady _ _) fun _ => hm.bind' fun _ => clearRF_steady.leads stable_sound

theorem perform_keeps {s : State} {l : Bool} {m : M Unit} (hm : Steady m) : Keeps s (perform s l m) :=
  perform_keeps_of_leads (hm.leads stable_sound)

theorem performKeepingRF_keeps {s : State} {m : M Unit} (hm : Leads State.Sound State.Sound m) :
    Keeps s (performKeepingRF s m) :=
  runM_keeps <| stable_sound.bind' (checkPrefixes_steady _ _) fun _ => hm

theorem performTransfer_keeps {s : State} {m : M Bool} (hm : Leads State.Sound State.Sound m) : Keeps s (performTransfer s m) :=
  performKeepingRF_keeps <| hm.bind' fun _ => ((Steady.pure' ()).ite clearRF_steady).leads stable_sound

theorem performString_keeps {s : State} {scan : Bool} {as : Sz} {body : M Unit} (h : Steady body) :
    Keeps s (performString s scan as body) := by
  refine runM_keeps (Steady.leads ?_ stable_sound)
  refine (require_steady _ _).bind' fun _ => ?_
  split
  · exact h.bind' fun _ => clearRF_steady
  · exact (require_steady _ _).bind' fun _ => (repeatOnce_steady _ _ _ _ h).bind' fun _ => clearRF_steady

/-! ## The shapes of instructions -/

section
variable (s : State) (w : Width)

theorem aluRmReg_keeps (op : AluOp) (rm : Rm) (r : Reg) : Keeps s (aluRmReg s w op rm r) :=
  perform_keeps <| (readReg_steady _ _).bind' fun _ => (openRm_bounded _ _ _).bind' fun _ h => aluTo_steady _ _ h _

theorem aluRmImm_keeps (op : AluOp) (rm : Rm) (b : BitVec w.bits) : Keeps s (aluRmImm s w op rm b) :=
  perform_keeps <| (openRm_bounded _ _ _).bind' fun _ h => aluTo_steady _ _ h _

theorem aluRegRm_keeps (op : AluOp) (r : Reg) (rm : Rm) : Keeps s (aluRegRm s w op r rm) :=
  perform_keeps <| (readRm_steady _ _).bind' fun _ => aluTo_steady _ _ (bounded_reg r) _

theorem aluAccImm_keeps (op : AluOp) (b : BitVec w.bits) : Keeps s (aluAccImm s w op b) :=
  perform_keeps <| aluTo_steady _ _ (bounded_reg .ax) _

theorem unaryRm_keeps (rm : Rm) {f : BitVec w.bits → M (BitVec w.bits)} (hf : ∀ a, Steady (f a)) : Keeps s (unaryRm s w rm f) :=
  perform_keeps <| updateRm_steady _ _ hf

theorem accRm_keeps (rm : Rm) {f : BitVec w.bits → M Unit} (hf : ∀ a, Steady (f a)) : Keeps s (accRm s w rm f) :=
  perform_keeps <| (readRm_steady _ _).bind' hf

theorem imulTo_keeps (r : Reg) (rm : Rm) (b : BitVec w.bits) : Keeps s (imulTo s w r rm b) :=
  perform_keeps <| (readRm_steady _ _).bind' fun _ => mulSignedTo_steady _ _ _ _

theorem bitRmReg_keeps (op : BitOp) (rm : Rm) (r : Reg) : Keeps s (bitRmReg s w op rm r) :=
  perform_keeps <| (readReg_steady _ _).bind' fun _ => (openBit_bounded _ _ _ _).bind' fun _ h => bitOn_steady _ _ h _

theorem bitRmImm_keeps (op : BitOp) (rm : Rm) (b : Byte) : Keeps s (bitRmImm s w op rm b) :=
  perform_keeps <| (openRm_bounded _ _ _).bind' fun _ h => bitOn_steady _ _ h _

theorem bitScan_keeps (r : Reg) (rm : Rm) (scan : BitVec w.bits → Nat) : Keeps s (bitScan s w r rm scan) := by
  refine perform_keeps <| (readRm_steady _ _).bind' fun a => Steady.ite ?_ ?_
  · exact (draw_steady _).bind' fun _ => (writeReg_steady _ _ _).bind' fun _ => (modifyFlags_steady).bind' fun _ =>
      undefStatus_steady _
  · exact (writeReg_steady _ _ _).bind' fun _ => (modifyFlags_steady).bind' fun _ => undefStatus_steady _

theorem shiftRm_keeps (op : ShiftOp) (rm : Rm) (count : Byte) : Keeps s (shiftRm s w op rm count) :=
  perform_keeps <| updateRm_steady _ _ fun _ => shiftBits_steady _ _ _

theorem shiftRmCl_keeps (op : ShiftOp) (rm : Rm) : Keeps s (shiftRmCl s w op rm) :=
  perform_keeps <| (readReg_steady _ _).bind' fun _ => updateRm_steady _ _ fun _ => shiftBits_steady _ _ _

theorem doubleRm_keeps (left : Bool) (rm : Rm) (r : Reg) (count : Byte) : Keeps s (doubleRm s w left rm r count) :=
  perform_keeps <| (readReg_steady _ _).bind' fun _ => updateRm_steady _ _ fun _ => doubleShift_steady _ _ _ _

theorem doubleRmCl_keeps (left : Bool) (rm : Rm) (r : Reg) : Keeps s (doubleRmCl s w left rm r) :=
  perform_keeps <| (readReg_steady _ _).bind' fun _ => (readReg_steady _ _).bind' fun _ => updateRm_steady _ _ fun _ =>
    doubleShift_steady _ _ _ _

theorem jumpIf_keeps (c : Cond) (os : Sz) (rel : Dword) : Keeps s (jumpIf s c os rel) :=
  perform_keeps <| getFlags_steady.bind' fun _ => (jumpRelative_steady _ _).ite (Steady.pure' ())

theorem loopIf_keeps (os as : Sz) (b : Byte) (extra : Flags → Bool) : Keeps s (loopIf s os as b extra) :=
  perform_keeps <| (readRegSz_steady _ _).bind' fun _ => (writeRegSz_steady _ _ _).bind' fun _ => getFlags_steady.bind' fun _ =>
    (jumpRelative_steady _ _).ite (Steady.pure' ())

theorem returnNear_keeps (os : Sz) (n : Word) : Keeps s (returnNear s os n) :=
  perform_keeps <| (pop_steady _).bind' fun _ => (jumpNear_steady _ _).bind' fun _ => addStackPtr_steady _

theorem returnFar_keeps (os : Sz) (n : Word) : Keeps s (returnFar s os n) := by
  refine perform_keeps_of_leads <| Leads.get_same fun t ht => Leads.ite (fun hm => ?_) fun _ => ?_
  · exact (retProt_leads os n).weaken (by rintro _ rfl; exact ht.protected hm) fun _ h => h.sound
  · exact ((retReal_steady os n).leads stable_sound).weaken (by rintro _ rfl; exact ht) fun _ => id

theorem moveToRm_keeps (rm : Rm) {src : M (BitVec w.bits)} (h : Steady src) : Keeps s (moveToRm s w rm src) :=
  perform_keeps <| h.bind' fun _ => writeRm_steady _ _ _

theorem moveToReg_keeps (r : Reg) (rm : Rm) : Keeps s (moveToReg s w r rm) :=
  perform_keeps <| (readRm_steady _ _).bind' fun _ => writeReg_steady _ _ _

theorem loadMoffs_keeps (o : Imm) : Keeps s (loadMoffs s w o) :=
  perform_keeps <| (openMoffs_bounded _ _ _).bind' fun _ _ => (readPlace_steady _ _).bind' fun _ => writeReg_steady _ _ _

theorem storeMoffs_keeps (o : Imm) : Keeps s (storeMoffs s w o) :=
  perform_keeps <| (readReg_steady _ _).bind' fun _ => (openMoffs_bounded _ _ _).bind' fun _ h => writePlace_steady _ h _

theorem moveExtend_keeps (dst : Width) (signed : Bool) (r : Reg) (rm : Rm) : Keeps s (moveExtend s w dst signed r rm) :=
  perform_keeps <| (readRm_steady _ _).bind' fun _ => writeReg_steady _ _ _

theorem exchangeRm_keeps (rm : Rm) (r : Reg) : Keeps s (exchangeRm s w rm r) :=
  perform_keeps <| (openRm_bounded _ _ _).bind' fun _ h => (readPlace_steady _ _).bind' fun _ => (readReg_steady _ _).bind' fun _ =>
    (writePlace_steady _ h _).bind' fun _ => writeReg_steady _ _ _

theorem setCond_keeps (c : Cond) (rm : Rm) : Keeps s (setCond s c rm) :=
  perform_keeps <| getFlags_steady.bind' fun _ => writeRm_steady _ _ _

theorem loadFarPointer_keeps (os : Sz) (sr : Sreg) (r : Reg) (rm : Rm) : Keeps s (loadFarPointer s os sr r rm) :=
  perform_keeps <| (requireMem_steady rm).bind' fun _ => (readPair_steady _ _ _).bind' fun _ => (segLoad_steady _ _).bind' fun _ =>
    writeRegSz_steady _ _ _

theorem inspect_keeps (os : Sz) (r : Reg) (rm : Rm) (valid : Desc → Bool) {value : Desc → M Dword} (hv : ∀ d, Steady (value d)) :
    Keeps s (inspect s os r rm valid value) := by
  refine perform_keeps <| requireProt_steady.bind' fun _ => (readSelector_steady _ _).bind' fun _ => .get' fun t => ?_
  refine (lookup_steady _).bind' fun d => ?_
  cases d with
  | none => exact setZero_steady _
  | some d =>
    exact ((hv d).bind' fun _ => (writeRegSz_steady _ _ _).bind' fun _ => setZero_steady _).ite (setZero_steady _)

theorem verify_keeps (rm : Rm) (valid : Desc → Bool) : Keeps s (verify s rm valid) := by
  refine perform_keeps <| requireProt_steady.bind' fun _ => (readRm_steady _ _).bind' fun _ => .get' fun t => ?_
  refine (lookup_steady _).bind' fun d => ?_
  cases d <;> exact setZero_steady _

theorem pushSreg_keeps (os : Sz) (r : Sreg) : Keeps s (pushSreg s os r) :=
  perform_keeps <| .get' fun _ => (padSel_steady _ _).bind' fun _ => push_steady _ _

theorem moveFromSpecial_keeps (r : Reg) (read : State → Dword) : Keeps s (moveFromSpecial s r read) :=
  perform_keeps <| requireCpl0_steady.bind' fun _ => .get' fun _ => (writeReg_steady _ _ _).bind' fun _ => undefStatus_steady _

theorem moveToSpecial_keeps (r : Reg) {write : Dword → M Unit} (h : ∀ v, Leads State.Supervisor State.Sound (write v)) :
    Keeps s (moveToSpecial s r write) :=
  perform_keeps_of_leads <| requireCpl0_leads.bind' fun _ => stable_supervisor.bind' (readReg_steady _ _) fun v =>
    (h v).bind' fun _ => (undefStatus_steady _).leads stable_sound

theorem addOverride_keeps (r : Sreg) : Keeps s (addOverride r s) := by
  unfold addOverride
  split
  · exact keeps_next ⟨rfl, rfl, rfl, rfl, id, id, id⟩
  · exact keeps_refused _ _

theorem addRepeat_keeps (r : Rep) : Keeps s (addRepeat r s) := by
  unfold addRepeat
  split
  · exact keeps_next ⟨rfl, rfl, rfl, rfl, id, id, id⟩
  · exact keeps_refused _ _

end

theorem memRead_steady (w : Width) (r : Sreg) (off : Dword) : Steady (memRead w r off) :=
  (memBytes_steady _ _ _).bind' fun _ => Steady.pure' _

/-- WAIT while BUSY# is asserted stays where it is. -/
theorem execWait_keeps (s : State) : Keeps s (execWait s) := by
  unfold execWait
  split
  · exact keeps_next ⟨rfl, rfl, rfl, rfl, id, id, id⟩
  · exact perform_keeps waitChecks_steady

/-- Every instruction keeps the invariant, by the shape of its operation. -/
theorem exec_keeps (i : Instr) (s : State) : Keeps s (exec i s) := by
  cases i
  case lockPrefix | operandSizePrefix | addressSizePrefix => exact keeps_next ⟨rfl, rfl, rfl, rfl, id, id, id⟩
  case repnePrefix | repPrefix => exact addRepeat_keeps _ _
  case esPrefix | csPrefix | ssPrefix | dsPrefix | fsPrefix | gsPrefix => exact addOverride_keeps _ _
  case addRm8R8 | addRmR | orRm8R8 | orRmR | adcRm8R8 | adcRmR | sbbRm8R8 | sbbRmR | andRm8R8 | andRmR | subRm8R8 | subRmR |
      xorRm8R8 | xorRmR | cmpRm8R8 | cmpRmR =>
    exact aluRmReg_keeps _ _ _ _ _
  case addR8Rm8 | addRRm | orR8Rm8 | orRRm | adcR8Rm8 | adcRRm | sbbR8Rm8 | sbbRRm | andR8Rm8 | andRRm | subR8Rm8 | subRRm |
      xorR8Rm8 | xorRRm | cmpR8Rm8 | cmpRRm =>
    exact aluRegRm_keeps _ _ _ _ _
  case addAlImm8 | addAccImm | orAlImm8 | orAccImm | adcAlImm8 | adcAccImm | sbbAlImm8 | sbbAccImm | andAlImm8 | andAccImm |
      subAlImm8 | subAccImm | xorAlImm8 | xorAccImm | cmpAlImm8 | cmpAccImm =>
    exact aluAccImm_keeps _ _ _ _
  case addRm8Imm8 | addRmImm | addRmImm8 | orRm8Imm8 | orRmImm | orRmImm8 | adcRm8Imm8 | adcRmImm | adcRmImm8 | sbbRm8Imm8 |
      sbbRmImm | sbbRmImm8 | andRm8Imm8 | andRmImm | andRmImm8 | subRm8Imm8 | subRmImm | subRmImm8 | xorRm8Imm8 | xorRmImm |
      xorRmImm8 | cmpRm8Imm8 | cmpRmImm | cmpRmImm8 =>
    exact aluRmImm_keeps _ _ _ _ _
  case aaa | aas => exact perform_keeps <| asciiAdjust_steady _ _
  case aad => exact perform_keeps <| asciiBeforeDivide_steady
  case aam => exact perform_keeps <| asciiAfterMultiply_steady
  case daa | das => exact perform_keeps <| decimalAdjust_steady _ _
  case arplRmR =>
    exact perform_keeps <| requireProt_steady.bind' fun _ => (readReg_steady _ _).bind' fun _ => adjustRpl_steady _ _
  case bound => exact perform_keeps <| checkBounds_steady _ _ _
  case bsfRRm | bsrRRm => exact bitScan_keeps _ _ _ _ _
  case btRmR | btcRmR | btrRmR | btsRmR => exact bitRmReg_keeps _ _ _ _ _
  case btRmImm8 | btcRmImm8 | btrRmImm8 | btsRmImm8 => exact bitRmImm_keeps _ _ _ _ _
  case callRel => exact perform_keeps <| .get' fun _ => callNear_steady _ _
  case callRm => exact perform_keeps <| (readRm_steady _ _).bind' fun _ => callNear_steady _ _
  case callFarPtr | jmpFarPtr => exact performTransfer_keeps (farTransfer_leads _ _ _ _)
  case callFarMem | jmpFarMem =>
    exact performTransfer_keeps <| stable_sound.bind' (readFar_steady _ _) fun _ => farTransfer_leads _ _ _ _
  case cbw os => cases os <;> exact perform_keeps <| (readReg_steady _ _).bind' fun _ => writeReg_steady _ _ _
  case clc | cld | cmc | stc | std => exact perform_keeps <| modifyFlags_steady
  case cli => exact perform_keeps <| requireIo_steady.bind' fun _ => modifyFlags_steady
  case clts | hlt => exact perform_keeps <| requireCpl0_steady.bind' fun _ => modify_steady
  case cmpsb | cmpsw => exact performString_keeps (compareString_steady _ _)
  case cwd => exact perform_keeps <| (readReg_steady _ _).bind' fun _ => writeReg_steady _ _ _
  case decRm8 | decRm => exact unaryRm_keeps _ _ _ decr_steady
  case decR => exact perform_keeps <| updateReg_steady _ _ decr_steady
  case divRm8 | divRm => exact accRm_keeps _ _ _ (divUnsigned_steady _)
  case enter => exact perform_keeps <| enterFrame_steady _ _ _
  case idivRm8 | idivRm => exact accRm_keeps _ _ _ (divSigned_steady _)
  case imulRm8 | imulRm => exact accRm_keeps _ _ _ (mulSigned_steady _)
  case imulRRm =>
    exact perform_keeps <| (readReg_steady _ _).bind' fun _ => (readRm_steady _ _).bind' fun _ => mulSignedTo_steady _ _ _ _
  case imulRRmImm8 | imulRRmImm => exact imulTo_keeps _ _ _ _ _
  case inAlImm8 | inAccImm8 => exact perform_keeps <| inPort_steady _ _
  case inAlDx | inAccDx => exact perform_keeps <| (readReg_steady _ _).bind' fun _ => inPort_steady _ _
  case incRm8 | incRm => exact unaryRm_keeps _ _ _ incr_steady
  case incR => exact perform_keeps <| updateReg_steady _ _ incr_steady
  case insb | insw => exact performString_keeps (inputString_steady _ _)
  case int3 => exact performTransfer_keeps (softwareInterrupt_leads _)
  case intImm8 =>
    exact performTransfer_keeps <| Leads.get' fun _ _ => stable_sound.bind' (require_steady _ _) fun _ =>
      softwareInterrupt_leads _
  case into =>
    exact performTransfer_keeps <| stable_sound.bind' getFlags_steady fun _ => Leads.ite (fun _ => softwareInterrupt_leads _)
      fun _ => (Steady.pure' _).leads stable_sound
  case iret => exact performKeepingRF_keeps (returnFromInterrupt_leads _)
  case joRel8 | jnoRel8 | jbRel8 | jaeRel8 | jeRel8 | jneRel8 | jbeRel8 | jaRel8 | jsRel8 | jnsRel8 | jpRel8 | jnpRel8 | jlRel8
      | jgeRel8 | jleRel8 | jgRel8 | joRel | jnoRel | jbRel | jaeRel | jeRel | jneRel | jbeRel | jaRel | jsRel | jnsRel | jpRel
      | jnpRel | jlRel | jgeRel | jleRel | jgRel =>
    exact jumpIf_keeps _ _ _ _
  case jcxz => exact perform_keeps <| (readRegSz_steady _ _).bind' fun _ => (jumpRelative_steady _ _).ite (Steady.pure' ())
  case jmpRel8 | jmpRel => exact perform_keeps <| jumpRelative_steady _ _
  case jmpRm => exact perform_keeps <| (readRm_steady _ _).bind' fun _ => jumpNear_steady _ _
  case lahf => exact perform_keeps <| getFlags_steady.bind' fun _ => writeReg_steady _ _ _
  case larRRm => exact inspect_keeps _ _ _ _ _ accessRights_steady
  case lea =>
    exact perform_keeps <| (requireMem_steady _).bind' fun _ => (effAddr_steady _).bind' fun _ => writeReg_steady _ _ _
  case leave => exact perform_keeps <| leaveFrame_steady _
  case lgdt | lidt => exact perform_keeps <| (readTable_steady _ _).bind' fun _ => modify_steady
  case lds | les | lfs | lgs | lss => exact loadFarPointer_keeps _ _ _ _ _
  case lldt =>
    exact perform_keeps <| requireProt_steady.bind' fun _ => requireCpl0_steady.bind' fun _ => (readRm_steady _ _).bind' fun _
      => loadLdt_steady _
  case lmsw =>
    exact perform_keeps_of_leads <| requireCpl0_leads.bind' fun _ => stable_supervisor.bind' (readRm_steady _ _) fun _ =>
      loadMsw_leads _
  case lodsb | lodsw => exact performString_keeps (loadString_steady _ _)
  case loop | loope | loopne => exact loopIf_keeps _ _ _ _ _
  case lslRRm => exact inspect_keeps _ _ _ _ _ fun _ => Steady.pure' _
  case ltr =>
    exact perform_keeps <| requireProt_steady.bind' fun _ => requireCpl0_steady.bind' fun _ => (readRm_steady _ _).bind' fun _
      => loadTask_steady _
  case movRm8R8 | movRmR => exact moveToRm_keeps _ _ _ (readReg_steady _ _)
  case movR8Rm8 | movRRm => exact moveToReg_keeps _ _ _ _
  case movRmSreg => exact perform_keeps <| storeSreg_steady _ _ _
  case movSregRm => exact perform_keeps <| moveSreg_steady _ _
  case movAlMoffs | movAccMoffs => exact loadMoffs_keeps _ _ _
  case movMoffsAl | movMoffsAcc => exact storeMoffs_keeps _ _ _
  case movR8Imm8 | movRImm => exact perform_keeps <| writeReg_steady _ _ _
  case movRm8Imm8 | movRmImm => exact moveToRm_keeps _ _ _ (Steady.pure' _)
  case movRCr | movRDr | movRTr => exact moveFromSpecial_keeps _ _ _
  case movCrR => exact moveToSpecial_keeps _ _ (writeCReg_leads _)
  case movDrR =>
    exact moveToSpecial_keeps _ _ fun _ => ((writeDReg_steady _ _).leads stable_supervisor).weaken (fun _ => id) fun _ h =>
      h.toSound
  case movTrR =>
    exact moveToSpecial_keeps _ _ fun _ => ((writeTReg_steady _ _).leads stable_supervisor).weaken (fun _ => id) fun _ h =>
      h.toSound
  case movsb | movsw => exact performString_keeps (moveString_steady _ _)
  case movsxRRm8 | movsxR32Rm16 | movzxRRm8 | movzxR32Rm16 => exact moveExtend_keeps _ _ _ _ _ _
  case mulRm8 | mulRm => exact accRm_keeps _ _ _ (mulUnsigned_steady _)
  case negRm8 | negRm => exact unaryRm_keeps _ _ _ negate_steady
  case nop => exact perform_keeps <| Steady.pure' ()
  case notRm8 | notRm => exact unaryRm_keeps _ _ _ complement_steady
  case outImm8Al | outImm8Acc => exact perform_keeps <| outPort_steady _ _
  case outDxAl | outDxAcc => exact perform_keeps <| (readReg_steady _ _).bind' fun _ => outPort_steady _ _
  case outsb | outsw => exact performString_keeps (outputString_steady _ _)
  case popMem => exact perform_keeps <| (pop_steady _).bind' fun _ => (resolve_steady _).bind' fun _ => memStore_steady _ _ _
  case popR => exact perform_keeps <| (pop_steady _).bind' fun _ => writeRegSz_steady _ _ _
  case popDs | popEs | popFs | popGs => exact perform_keeps (popSegment_steady _ _)
  case popSs => exact perform_keeps <| (popSegment_steady _ _).bind' fun _ => modify_steady
  case popa => exact perform_keeps <| popAllRegs_steady _
  case popf =>
    exact performKeepingRF_keeps <| stable_sound.bind' requireIopl_steady fun _ => stable_sound.bind' (pop_steady _) fun _ =>
      (modify_steady).leads stable_sound
  case pushMem =>
    exact perform_keeps <| (resolve_steady _).bind' fun _ => (memBytes_steady _ _ _).bind' fun _ => push_steady _ _
  case pushR => exact perform_keeps <| (readRegSz_steady _ _).bind' fun _ => push_steady _ _
  case pushImm8 | pushImm => exact perform_keeps <| push_steady _ _
  case pushCs | pushSs | pushDs | pushEs | pushFs | pushGs => exact pushSreg_keeps _ _ _
  case pusha => exact perform_keeps <| pushAllRegs_steady _
  case pushf => exact perform_keeps <| requireIopl_steady.bind' fun _ => getFlags_steady.bind' fun _ => push_steady _ _
  case rolRm8One | rolRm8Imm8 | rolRmOne | rolRmImm8 | rorRm8One | rorRm8Imm8 | rorRmOne | rorRmImm8 | rclRm8One | rclRm8Imm8 |
      rclRmOne | rclRmImm8 | rcrRm8One | rcrRm8Imm8 | rcrRmOne | rcrRmImm8 | salRm8One | salRm8Imm8 | salRmOne | salRmImm8 |
      shrRm8One | shrRm8Imm8 | shrRmOne | shrRmImm8 | sarRm8One | sarRm8Imm8 | sarRmOne | sarRmImm8 =>
    exact shiftRm_keeps _ _ _ _ _
  case rolRm8Cl | rolRmCl | rorRm8Cl | rorRmCl | rclRm8Cl | rclRmCl | rcrRm8Cl | rcrRmCl | salRm8Cl | salRmCl | shrRm8Cl |
      shrRmCl | sarRm8Cl | sarRmCl =>
    exact shiftRmCl_keeps _ _ _ _
  case retNear | retNearImm => exact returnNear_keeps _ _ _
  case retFar | retFarImm => exact returnFar_keeps _ _ _
  case sahf => exact perform_keeps <| (readReg_steady _ _).bind' fun _ => modifyFlags_steady
  case scasb | scasw => exact performString_keeps (scanString_steady _ _)
  case seto | setno | setb | setae | sete | setne | setbe | seta | sets | setns | setp | setnp | setl | setge | setle | setg =>
    exact setCond_keeps _ _ _
  case sgdt | sidt => exact perform_keeps <| .get' fun _ => storeTable_steady _ _ _
  case shldRmRImm8 | shrdRmRImm8 => exact doubleRm_keeps _ _ _ _ _ _
  case shldRmRCl | shrdRmRCl => exact doubleRmCl_keeps _ _ _ _ _
  case sldt | str => exact perform_keeps <| requireProt_steady.bind' fun _ => .get' fun _ => writeRm_steady _ _ _
  case smsw => exact perform_keeps <| .get' fun _ => writeRm_steady _ _ _
  case sti => exact perform_keeps <| enableInterrupts_steady _
  case stosb | stosw => exact performString_keeps (storeString_steady _ _)
  case testAlImm8 | testAccImm => exact perform_keeps <| (readReg_steady _ _).bind' fun _ => testBits_steady _ _
  case testRm8Imm8 | testRmImm => exact accRm_keeps _ _ _ fun _ => testBits_steady _ _
  case testRm8R8 | testRmR =>
    exact perform_keeps <| (readRm_steady _ _).bind' fun _ => (readReg_steady _ _).bind' fun _ => testBits_steady _ _
  case verr | verw => exact verify_keeps _ _ _
  case wait => exact execWait_keeps s
  case xchgAccR =>
    exact perform_keeps <| (readReg_steady _ _).bind' fun _ => (readReg_steady _ _).bind' fun _ => (writeReg_steady _ _
      _).bind' fun _ => writeReg_steady _ _ _
  case xchgRm8R8 | xchgRmR => exact exchangeRm_keeps _ _ _ _
  case xlat =>
    exact perform_keeps <| (readRegSz_steady _ _).bind' fun _ => (readReg_steady _ _).bind' fun _ => .get' fun _ =>
      (memRead_steady _ _ _).bind' fun _ => writeReg_steady _ _ _
  case esc => exact perform_keeps <| .get' fun _ => (raise_steady _).ite (refuse_steady _)
  case unassigned82 | unassignedD6 | unassignedF1 => exact keeps_refused _ _

/-! ## Fetching and running an instruction -/

theorem queuedByte_steady (lin : Dword) (a : Nat) : Steady (queuedByte lin a) :=
  .get' fun _ => (Steady.pure' _).ite <| (draw_steady 16).bind' fun _ => Steady.pure' _

theorem fetchByte_steady (i : Nat) : Steady (fetchByte i) :=
  .get' fun _ => ((translate_accesses _ _ _).steady.bind' fun _ => queuedByte_steady _ _).ite (raise_steady _)

/-- How a fetch that starts from `s` ends: with an exception in a state that is as calm. -/
def CalmStop (s : State) (stop : Stop) : Prop := ∀ e st c, stop = .exc e st c → Calm s st

theorem CalmStop.trans {s t : State} {stop : Stop} (h : Calm s t) (h' : CalmStop t stop) : CalmStop s stop :=
  fun e st c hs => h.trans (h' e st c hs)

theorem fetchBytes_calm (n i : Nat) (s : State) :
    (∀ x ∈ (fetchBytes n i s).1, Calm s x.2) ∧ CalmStop s (fetchBytes n i s).2 := by
  induction n generalizing i s with
  | zero =>
    refine ⟨by simp [fetchBytes], fun e st c h => ?_⟩
    simp only [fetchBytes, Stop.exc.injEq] at h
    exact h.2.1 ▸ Calm.refl s
  | succ n ih =>
    have h := fetchByte_steady i s
    unfold fetchBytes
    rcases hf : fetchByte i s with stop | ⟨b, t⟩ <;> simp only [hf] at h ⊢
    · refine ⟨by simp, ?_⟩
      rintro e st c rfl
      exact h
    · obtain ⟨hbytes, hstop⟩ := ih (i + 1) t
      refine ⟨?_, hstop.trans h.1⟩
      rintro x (_ | ⟨_, hx⟩)
      · exact h.1
      · exact h.1.trans (hbytes x hx)

theorem atInstr_calm {s : State} {bs : List (Byte × State)} (h : ∀ x ∈ bs, Calm s x.2) (p : Prefixes) (used n : Nat) :
    Calm s (atInstr s p bs used n) := by
  have last : Calm s (((bs.drop (used - 1)).head?.map (·.2)).getD s) := by
    cases hd : (bs.drop (used - 1)).head? with
    | none => exact Calm.refl s
    | some x => exact h x (List.mem_of_mem_drop (List.mem_of_head? hd))
  exact last.trans ⟨rfl, rfl, rfl, rfl, id, id, id⟩

theorem fetchFailed_nextInv {s : State} {stop : Stop} (hs : s.Sound) (h : CalmStop s stop) : NextInv (fetchFailed s stop) := by
  cases stop with
  | exc e st c => exact takeException_nextInv e c hs.toSane ((h e st c rfl).sane hs.toSane)
  | refuse r => exact nextInv_refused r

theorem runDecoded_nextInv (i : Instr) {t : State} (ht : t.Sound) : NextInv (runDecoded i t) := by
  unfold runDecoded
  split
  · exact nextInv_refused _
  · exact exec_keeps i t ht

/-- Decoding goes on past the bytes already read, with those that follow them. -/
theorem runFrom_nextInv {s : State} {stop : Stop} (hs : s.Sound) (hstop : CalmStop s stop) (fuel : Nat) (p : Prefixes)
    {bs : List (Byte × State)} (hbs : ∀ x ∈ bs, Calm s x.2) (n : Nat) : NextInv (runFrom s stop fuel p bs n) := by
  induction fuel generalizing p bs n with
  | zero => exact fetchFailed_nextInv hs hstop
  | succ fuel ih =>
    have hp : State.Sound { s with pfx := p } := stable_sound.calm s _ ⟨rfl, rfl, rfl, rfl, id, id, id⟩ hs
    unfold runFrom
    dsimp only
    split
    · exact nextInv_refused _
    · exact fetchFailed_nextInv hs hstop
    · rename_i i rest _
      split
      · split
        · exact ih _ (fun x hx => hbs x (List.mem_of_mem_drop hx)) _
        · exact exec_keeps i _ hp
      · exact runDecoded_nextInv i ((atInstr_calm hbs _ _ _).sound hs)

theorem runInstruction_nextInv {s : State} (hs : s.Sound) : NextInv (runInstruction s) :=
  have h := fetchBytes_calm Config.maxInstrLength 0 s
  runFrom_nextInv hs h.2 _ _ h.1 _

/-! ## The instruction boundary -/

/-- An NMI that leaves shutdown is delivered; one that cannot be leaves the state in shutdown (60_exceptions.md R548). -/
theorem inShutdown_nextInv {s : State} (h : s.Inv) : NextInv (inShutdown s) := by
  unfold inShutdown
  split
  · have hd := deliver_leads
      { vector := 2#8, code := none, ret := (acceptNmi s).eip, software := false, ext := true, rf := .zero }
      { acceptNmi s with shutdown := false } ⟨h.mem, h.real, fun hv => (h.vm hv).1, h.paging, h.cr3, h.dr7⟩
    dsimp only
    split at hd <;> simp only [*]
    · exact nextInv_settle hd
    · rintro _ ⟨⟩
      exact ⟨h.mem, h.real, h.vm, h.paging, h.cr3, h.dr7⟩
    · exact nextInv_refused _
  · rintro _ ⟨⟩
    exact h

theorem afterReset_inv {m : List Host.Cell} (h : Memory.wf m = true) (pins : Pins) (ioLog : List PortEvent) (draws : Nat) :
    (State.afterReset m pins ioLog draws).Inv :=
  ⟨h, fun _ => rfl, nofun, nofun, rfl, by simp [State.afterReset, breakpointsOn]⟩

/-- Settles O58: RESET, a delivery from a sane state, or an instruction from a sound one. -/
theorem stepKeepsInv : Obligations.StepKeepsInv := by
  unfold Obligations.StepKeepsInv
  intro s t hs
  suffices h : NextInv (step s) from h t
  unfold step stepBoundary
  split
  · rintro _ ⟨⟩
    exact afterReset_inv hs.mem _ _ _
  split
  · rintro _ ⟨⟩
  split
  · exact nextInv_refused _
  split
  · exact nextInv_refused _
  split
  · exact inShutdown_nextInv hs
  have hsound : s.Sound := hs.sound (by simp_all)
  split
  · exact takeInterrupt_nextInv _ ⟨hs.mem, hs.real, hsound.vm, hs.paging, hs.cr3, hs.dr7⟩
  split
  · exact takeInterrupt_nextInv _ ⟨hs.mem, hs.real, hsound.vm, hs.paging, hs.cr3, hs.dr7⟩
  split
  · exact takeInterrupt_nextInv _ hs.sane
  split
  · exact keeps_next (s := s) ⟨rfl, rfl, rfl, rfl, id, id, id⟩ hsound
  · exact runInstruction_nextInv (stable_sound.calm s _ ⟨rfl, rfl, rfl, rfl, id, id, id⟩ hsound)

end Sys2Proof.Machine
end

section
/-! PROOFS. Memory (20_memory.md R80, R81): the canonical form is the only one that reads as it does, and a value stored is read
back, its bytes the digits of the number to base 256. -/

namespace Sys2Proof.Machine

open Sys2Proof.Claims

/-! ## The canonical form -/

/-- The parts of the canonical form of a memory that lists a byte. -/
theorem Memory.wfFrom_cons {lo k : Nat} {v : Byte} {m : List Host.Cell} (h : Memory.wfFrom lo ((k, v) :: m) = true) :
    v ≠ Memory.unlisted ∧ Memory.wfFrom k ((k, v) :: m) = true ∧ Memory.wfFrom (k + 1) m = true := by
  simp_all [Memory.wfFrom]

theorem Memory.read_head (k : Nat) (v : Byte) (m : List Host.Cell) : Memory.read ((k, v) :: m) k = v := if_pos rfl

/-- In two memories in canonical form that read alike, no byte is listed below the first listed one of the other. -/
theorem Memory.head_le_of_read_eq {lo k k' : Nat} {v v' : Byte} {m m' : List Host.Cell}
    (h : Memory.wfFrom lo ((k, v) :: m) = true) (h' : Memory.wfFrom lo ((k', v') :: m') = true)
    (hr : ∀ a, Memory.read ((k, v) :: m) a = Memory.read ((k', v') :: m') a) : k' ≤ k := by
  by_contra hlt
  have listed := (hr k).symm.trans (Memory.read_head k v m)
  exact (Memory.wfFrom_cons h).1 (listed.symm.trans (Memory.read_below (Memory.wfFrom_cons h').2.1 (by omega)))

theorem Memory.eq_of_read_eq {lo : Nat} {m m' : List Host.Cell} (h : Memory.wfFrom lo m = true)
    (h' : Memory.wfFrom lo m' = true) (hr : ∀ a, Memory.read m a = Memory.read m' a) : m = m' := by
  induction m generalizing lo m' with
  | nil =>
    cases m' with
    | nil => rfl
    | cons c' t' => exact absurd ((hr c'.1).trans (Memory.read_head c'.1 c'.2 t')).symm (Memory.wfFrom_cons h').1
  | cons c t ih =>
    obtain ⟨k, v⟩ := c
    cases m' with
    | nil => exact absurd ((hr k).symm.trans (Memory.read_head k v t)).symm (Memory.wfFrom_cons h).1
    | cons c' t' =>
      obtain ⟨k', v'⟩ := c'
      obtain rfl : k = k' :=
        Nat.le_antisymm (Memory.head_le_of_read_eq h' h fun a => (hr a).symm) (Memory.head_le_of_read_eq h h' hr)
      obtain rfl : v = v' := by simpa only [Memory.read_head] using hr k
      have ht := (Memory.wfFrom_cons h).2.2
      have ht' := (Memory.wfFrom_cons h').2.2
      rw [ih ht ht' fun a => ?_]
      by_cases ha : a = k
      · rw [ha, Memory.read_below ht (Nat.lt_succ_self k), Memory.read_below ht' (Nat.lt_succ_self k)]
      · simpa only [Memory.read, if_neg ha] using hr a

/-! ## Values of several bytes -/

/-- Byte `i` of a value, little-endian, is digit `i` to base 256. -/
theorem toNat_getElem_leBytes {n : Nat} (k : Nat) (v : BitVec n) {i : Nat} (hi : i < (leBytes k v).length) :
    ((leBytes k v)[i]).toNat = v.toNat / 256 ^ i % 256 := by
  induction k generalizing v i with
  | zero => simp [leBytes] at hi
  | succ k ih =>
    cases i with
    | zero => simp [leBytes]
    | succ i =>
      have hstep : (v >>> 8).toNat = v.toNat / 256 := by simp [Nat.shiftRight_eq_div_pow]
      simp only [leBytes, List.getElem_cons_succ]
      rw [ih, hstep, Nat.div_div_eq_div_mul, ← Nat.pow_succ']

theorem width_bytes_le (w : Width) : w.bytes ≤ 2 ^ 32 := by cases w <;> decide

/-- The bytes at the addresses of a value just stored are its bytes. -/
theorem map_byte_put {s : State} (w : Width) (lin : Dword) (v : BitVec w.bits) (h : Memory.wf s.mem = true) :
    (spanOf lin w.bytes).map (put s w (.mem (spanOf lin w.bytes)) v).byte = leBytes w.bytes v :=
  map_byte_setBytes h (fun _ => spanOf_lt) (spanOf_nodup (width_bytes_le w)) (by simp)

theorem byte_put_span {s : State} (w : Width) (lin : Dword) (v : BitVec w.bits) (h : Memory.wf s.mem = true) {i : Nat}
    (hi : i < w.bytes) :
    ((put s w (.mem (spanOf lin w.bytes)) v).byte (lin + BitVec.ofNat 32 i).toNat).toNat = v.toNat / 256 ^ i % 256 := by
  have hb := congrArg (·[i]?) (map_byte_put w lin v h)
  have hl : i < (leBytes w.bytes v).length := by rwa [leBytes_length]
  simp only [spanOf, List.getElem?_map, List.getElem?_range hi, Option.map_some, List.getElem?_eq_getElem hl,
    Option.some.injEq] at hb
  rw [← toNat_getElem_leBytes w.bytes v hl, ← hb]
  rfl

/-- Settles O42: memories in canonical form are compared by their listed bytes, and a store writes a value's digits. -/
theorem memoryReadWrite : Obligations.MemoryReadWrite := by
  unfold Obligations.MemoryReadWrite
  refine ⟨fun s a v h ha => ⟨byte_setByte_same v h, fun b hb => byte_setByte_other v hb, Memory.wf_write v h ha⟩,
    fun m m' h h' hr => Memory.eq_of_read_eq h h' hr, fun s w lin v h => ⟨?_, fun i hi => byte_put_span w lin v h hi⟩⟩
  show leValue w.bits ((spanOf lin w.bytes).map (put s w (.mem (spanOf lin w.bytes)) v).byte) = v
  rw [map_byte_put w lin v h, leValue_leBytes_width]

end Sys2Proof.Machine
end

section
/-! PROOFS. The checks of an access (20_memory.md R87, R90 to R93) and the places of operands with paging off (R83, R90, R94,
R97). -/

namespace Sys2Proof.Machine

open Sys2Proof.Claims

/-! ## Limit and type of a segment -/

theorem expandDown_iff (g : SegReg) :
    g.expandDown = true ↔ g.s = true ∧ g.typ.getLsbD 3 = false ∧ g.typ.getLsbD 2 = true := by
  simp [SegReg.expandDown, and_assoc]

/-- Consecutive offsets are all valid exactly when the first and the last are. -/
theorem holds_iff (g : SegReg) (k : Nat) {n : Nat} (hn : 0 < n) : g.holds k n = true ↔ ∀ i, i < n → ValidOffset g (k + i) := by
  unfold SegReg.holds ValidOffset
  by_cases hd : g.expandDown = true
  · simp only [hd, (expandDown_iff g).1 hd, and_self, if_true, Bool.and_eq_true, decide_eq_true_eq]
    constructor
    · intro h i hi
      omega
    · intro h
      have first := h 0 hn
      have last := h (n - 1) (by omega)
      omega
  · simp only [if_neg hd, if_neg (mt (expandDown_iff g).2 hd), decide_eq_true_eq]
    constructor
    · intro h i hi
      omega
    · intro h
      have last := h (n - 1) (by omega)
      omega

theorem fitsType_iff (g : SegReg) (wr : Bool) : FitsType g wr ↔ (if wr then g.writable else g.readable) = true := by
  cases wr <;> simp [FitsType, SegReg.writable, SegReg.readable, and_assoc]

/-! ## The checks of an access -/

theorem limitExc_prot {s : State} (h : s.mode = .prot) (r : Sreg) :
    s.limitExc r = if r = .ss then excSS 0#16 else excGP 0#16 := by
  unfold State.limitExc
  cases r <;> simp [h]

/-- Outside protected mode SS too raises Interrupt 13 (log entry 12). -/
theorem limitExc_of_ne_prot {s : State} (h : s.mode ≠ .prot) (r : Sreg) : s.limitExc r = excGP 0#16 := by
  unfold State.limitExc
  split
  · exact absurd ‹s.mode = .prot› h
  · rfl
  · rfl

theorem accessExc_prot {s : State} (h : s.mode = .prot) (r : Sreg) (off : Dword) (n : Nat) (wr : Bool) :
    s.accessExc r off n wr =
      if (s.seg r).valid = false then some (s.limitExc r)
      else if (if wr then (s.seg r).writable else (s.seg r).readable) = true then
        if (s.seg r).holds off.toNat n = true then none else some (s.limitExc r)
      else some (excGP 0#16) := by
  unfold State.accessExc
  cases wr
  · cases hr : (s.seg r).readable <;> simp [h, hr]
  · cases hw : (s.seg r).writable <;> simp [h, hw]

theorem accessExc_of_ne_prot {s : State} (h : s.mode ≠ .prot) (r : Sreg) (off : Dword) (n : Nat) (wr : Bool) :
    s.accessExc r off n wr = if (s.seg r).holds off.toNat n = true then none else some (excGP 0#16) := by
  simp [State.accessExc, h, limitExc_of_ne_prot]

/-- Settles O45: the three checks of an access in their order, each by what it says of the segment. -/
theorem segmentChecks : Obligations.SegmentChecks := by
  unfold Obligations.SegmentChecks
  refine ⟨fun g k n hn => holds_iff g k hn, fun b r off n wr hn => ⟨fun hm => ?_, fun hm => ?_⟩⟩
  · rw [accessExc_prot hm, limitExc_prot hm]
    simp only [fitsType_iff, ← holds_iff _ _ hn]
    generalize (if wr then (b.seg r).writable else (b.seg r).readable) = fits
    refine ⟨?_, ?_, ?_⟩
    · cases (b.seg r).valid <;> cases fits <;> simp
    · intro hv hf
      simp [hv, hf]
    · rintro (hv | ⟨hf, hh⟩)
      · simp [hv]
      · simp [hf, hh]
  · rw [accessExc_of_ne_prot hm]
    simp only [← holds_iff _ _ hn]
    exact ⟨by simp, fun hh => if_neg hh⟩

/-! ## The places of operands -/

/-- An operand of two parts that passes its checks as a whole, paging off. -/
theorem readsParts_off {s : State} {seg : Sreg} {off : Dword} {k n : Nat} (hp : s.cr0.pg = false)
    (hk : s.accessExc seg off k false = none) (hn : s.accessExc seg off (k + n) false = none) :
    ReadsParts s seg off k n ((span (s.linear seg off) k).map s.byte)
      ((span (s.linear seg off + BitVec.ofNat 32 k) n).map s.byte) s :=
  ⟨_, s, _, openMem_off hp hk, openTail_off hp hn, rfl, rfl⟩

/-- An operand in memory is opened where its bytes are. -/
theorem openRm_mem_ok {s v u : State} {w : Width} {m : Mem} {wr : Bool} {seg : Sreg} {off : Dword} {as : List Nat}
    (ha : Addressed s m seg off v) (ho : openMem seg off w.bytes wr v = .ok (as, u)) :
    openRm w (.mem m) wr s = .ok (.mem as, u) := by
  have ha : resolve m s = .ok ((seg, off), v) := ha
  simp [openRm, ha, ho]

theorem openRm_mem_error {s v : State} {w : Width} {m : Mem} {wr : Bool} {seg : Sreg} {off : Dword} {x : Stop}
    (ha : Addressed s m seg off v) (ho : openMem seg off w.bytes wr v = .error x) : openRm w (.mem m) wr s = .error x := by
  have ha : resolve m s = .ok ((seg, off), v) := ha
  simp [openRm, ha, ho]

/-- Settles O44: finding an address draws at most a free value, so paging stays off and the checks decide. -/
theorem operandPlaces : Obligations.OperandPlaces := by
  unfold Obligations.OperandPlaces
  refine ⟨fun b seg off k n hp hk hn => readsParts_off hp hk hn, fun b w wr r m => ⟨openRm_reg w r wr b, ?_⟩⟩
  intro seg off v ha hp
  have hpv : v.cr0.pg = false := by rw [resolve_ok_off ha]; exact hp
  refine ⟨fun hc => ?_, fun e he => ?_⟩
  · have ho := openMem_off hpv hc
    exact ⟨ho, openRm_mem_ok ha ho⟩
  · have ho := openMem_exc he
    exact ⟨ho, openRm_mem_error ha ho⟩

end Sys2Proof.Machine
end

section
/-! PROOFS. Page translation (20_memory.md R100 to R104). -/

namespace Sys2Proof.Machine

open Sys2Proof.Claims

/-! ## The doublewords of the tables -/

theorem physBytes_eq (s : State) (a : Dword) (n : Nat) : s.physBytes a n = (spanOf a n).map s.byte := by
  induction n generalizing a with
  | zero => rfl
  | succ n ih => rw [State.physBytes, spanOf_succ, List.map_cons, ih]

theorem physDword_eq_dwordAt (s : State) (a : Dword) : s.physDword a = dwordAt s a :=
  congrArg (leValue 32) (physBytes_eq s a 4)

theorem leBytes_four (v : Dword) :
    leBytes 4 v = [v.extractLsb' 0 8, v.extractLsb' 8 8, v.extractLsb' 16 8, v.extractLsb' 24 8] := by
  simp only [leBytes, List.cons.injEq, and_true]
  refine ⟨?_, ?_, ?_, ?_⟩ <;> ext i <;> simp

theorem setPhysDword_eq_putBytes (s : State) (a v : Dword) : s.setPhysDword a v = s.putBytes (span a 4) (leBytes 4 v) := by
  rw [leBytes_four, show span a 4 = spanOf a 4 from rfl]
  simp only [spanOf_succ]
  simp [State.putBytes, State.setPhysDword, BitVec.add_assoc]

/-! ## Addresses of the entries and in the frame -/

/-- The number of two bit strings one after the other. -/
theorem toNat_append_eq {m n : Nat} (x : BitVec m) (y : BitVec n) : (x ++ y).toNat = x.toNat * 2 ^ n + y.toNat := by
  rw [BitVec.toNat_append, ← Nat.shiftLeft_add_eq_or_of_lt y.isLt, Nat.shiftLeft_eq]

theorem pdeAt_eq (s : State) (lin : Dword) : s.cr3.extractLsb' 12 20 ++ lin.extractLsb' 22 10 ++ 0#2 = pdeAt s lin := by
  apply BitVec.eq_of_toNat_eq
  simp only [pdeAt, toNat_append_eq, BitVec.extractLsb'_toNat, Nat.shiftRight_eq_div_pow, BitVec.toNat_ofNat]
  omega

theorem pteAt_eq (pde lin : Dword) : pde.extractLsb' 12 20 ++ lin.extractLsb' 12 10 ++ 0#2 = pteAt pde lin := by
  apply BitVec.eq_of_toNat_eq
  simp only [pteAt, toNat_append_eq, BitVec.extractLsb'_toNat, Nat.shiftRight_eq_div_pow, BitVec.toNat_ofNat]
  omega

theorem phys_entryOf (pde pte lin : Dword) : (entryOf pde pte).phys lin = inFrame pte lin := by
  simp only [TlbEntry.phys, entryOf, inFrame, toNat_append_eq, BitVec.extractLsb'_toNat, Nat.shiftRight_eq_div_pow]
  omega

theorem permits_entryOf (pde pte : Dword) (wr user : Bool) :
    (entryOf pde pte).permits wr user = true ↔ PermittedBy pde pte wr user := by
  cases user <;> cases wr <;> simp [entryOf, TlbEntry.permits, PermittedBy]; grind

/-! ## Page faults -/

theorem faultCode_eq (s : State) (present wr user : Bool) :
    free s 0 13 ++ BitVec.ofBool user ++ BitVec.ofBool wr ++ BitVec.ofBool present = faultCode s present wr user := by
  apply BitVec.eq_of_toNat_eq
  simp only [faultCode, toNat_append_eq, BitVec.toNat_ofBool, BitVec.toNat_ofNat]
  have := (free s 0 13).isLt
  have := user.toNat_lt
  have := wr.toNat_lt
  have := present.toNat_lt
  omega

theorem pageFault_eq (s : State) (lin : Dword) (present wr user : Bool) :
    pageFault lin present wr user s = pageFaulted s lin present wr user := by
  rw [pageFaulted, ← faultCode_eq]
  rfl

/-! ## The outcome of one translation -/

/-- The walk over doublewords that hold the entries `pde` and `pte` of the page. -/
theorem walkOver_eq {read : Dword → Dword} {s : State} {lin pde pte : Dword} (hd : read (pdeAt s lin) = pde)
    (ht : read (pteAt pde lin) = pte) :
    walkOver read s.cr3 lin =
      if pde.getLsbD 0 = true ∧ pte.getLsbD 0 = true then .found (pdeAt s lin) (pteAt pde lin) pde pte else .absent := by
  subst hd ht
  simp only [walkOver, pdeAt_eq, pteAt_eq]
  split <;> simp_all

theorem walk_eq (s : State) (lin : Dword) :
    s.walk lin = if (pdeOf s lin).getLsbD 0 = true ∧ (pteOf s lin).getLsbD 0 = true
      then .found (pdeAt s lin) (pteAt (pdeOf s lin) lin) (pdeOf s lin) (pteOf s lin) else .absent :=
  walkOver_eq (physDword_eq_dwordAt s _) (physDword_eq_dwordAt s _)

theorem useWalk_byTables (s : State) (lin : Dword) (wr user : Bool) : ByTables s lin wr user (useWalk lin wr user s) := by
  unfold ByTables
  simp only [← permits_entryOf, Bool.not_eq_true, ← phys_entryOf (pdeOf s lin), ← pageFault_eq]
  refine ⟨fun hp hok => ?_, fun hp hok => ?_, fun hp => ?_⟩
  · rw [useWalk_found ((walk_eq s lin).trans (if_pos hp)) hok, touched, setPhysDword_eq_putBytes, setPhysDword_eq_putBytes]
  · exact useWalk_forbidden ((walk_eq s lin).trans (if_pos hp)) hok
  · exact useWalk_absent ((walk_eq s lin).trans (if_neg hp))

theorem useEntry_byEntries (s : State) (pde pte lin : Dword) (wr user : Bool) :
    ByEntries s lin pde pte wr user (useEntry (entryOf pde pte) lin wr user s) := by
  unfold ByEntries useEntry
  rw [← permits_entryOf, ← phys_entryOf pde, ← pageFault_eq]
  constructor <;> intro h <;> simp [h]

/-- Every translation the TLB can hold is that of some two entries. -/
theorem exists_entryOf (e : TlbEntry) : ∃ pde pte, entryOf pde pte = e := by
  obtain ⟨frame, rw, us⟩ := e
  refine ⟨(if us then 4#32 else 0#32) ||| if rw then 2#32 else 0#32, frame.setWidth 32 <<< 12 ||| 6#32, ?_⟩
  simp only [entryOf, TlbEntry.mk.injEq]
  refine ⟨?_, ?_, ?_⟩
  · ext i hi
    have hi' : 12 + i < 32 := by omega
    have low : (6#32)[12 + i] = false := Nat.testBit_lt_two_pow <|
      calc 6 < 2 ^ 12 := by decide
        _ ≤ 2 ^ (12 + i) := Nat.pow_le_pow_right (by decide) (Nat.le_add_right 12 i)
    simp [hi, hi', low]
  · cases rw <;> cases us <;> simp
  · cases rw <;> cases us <;> simp

/-! ## Which translation is used -/

theorem translate_of_oldWalks_nil {s : State} {lin : Dword} (hp : s.cr0.pg = true) (hu : s.tlbUndef = false)
    (ho : s.oldWalks lin = []) (wr user : Bool) : translate lin wr user s = useWalk lin wr user s := by
  simp [translate, hp, hu, ho]

/-- With one old translation an even free value chooses it, an odd one today's. -/
theorem translate_of_oldWalks_one {s : State} {lin a a' pde pte : Dword} (hp : s.cr0.pg = true) (hu : s.tlbUndef = false)
    (ho : s.oldWalks lin = [.found a a' pde pte]) (wr user : Bool) :
    translate lin wr user s =
      if (free s 0 32).toNat % 2 = 0 then useEntry (entryOf pde pte) lin wr user (withFlags s 1 s.flags)
      else useWalk lin wr user (withFlags s 1 s.flags) := by
  have hdraw : draw 32 s = .ok (free s 0 32, withFlags s 1 s.flags) := rfl
  simp only [translate, M.bind_run, M.get_run, hp, hu, ho, hdraw, if_true, Bool.false_eq_true, if_false, List.length_cons,
    List.length_nil]
  rcases Nat.mod_two_eq_zero_or_one (free s 0 32).toNat with h | h <;> simp [h]

theorem translate_of_tlbUndef {s : State} (lin : Dword) (hp : s.cr0.pg = true) (hu : s.tlbUndef = true) (wr user : Bool) :
    let u := free s 0 24
    let t := withFlags s 1 s.flags
    translate lin wr user s =
      if u.getLsbD 23 then useWalk lin wr user t
      else if u.getLsbD 22 then pageFault lin false wr user t
      else useEntry { frame := u.extractLsb' 0 20, rw := u.getLsbD 20, us := u.getLsbD 21 } lin wr user t := by
  have hdraw : draw 24 s = .ok (free s 0 24, withFlags s 1 s.flags) := rfl
  simp only [translate, M.bind_run, M.get_run, hp, hu, hdraw, if_true, M.ite_run]

/-! ## Old translations -/

/-- A doubleword that no change names is today's at every time. -/
theorem earlier_of_unchanged {s : State} {a : Dword} (h : ∀ c ∈ s.tlb, c.addr ≠ a) (k : Nat) : s.earlier k a = dwordAt s a := by
  have hf : (s.tlb.take k).reverse.find? (fun c => c.addr = a) = none := by
    simp only [List.find?_eq_none, List.mem_reverse, decide_eq_true_eq]
    exact fun c hc => h c (List.mem_of_mem_take hc)
  simp [State.earlier, hf, physDword_eq_dwordAt]

theorem earlier_of_changed {s : State} {c : OldEntry} (h : s.tlb = [c]) : s.earlier 1 c.addr = c.value := by
  simp [State.earlier, h]

theorem oldWalks_of_agrees {s : State} {lin : Dword} (h : TlbAgrees s lin) : s.oldWalks lin = [] := by
  obtain ⟨-, hc⟩ := h
  have same : ∀ k, walkOver (s.earlier k) s.cr3 lin = s.walk lin := fun k =>
    (walkOver_eq (earlier_of_unchanged (fun c h => (hc c h).1) k) (earlier_of_unchanged (fun c h => (hc c h).2) k)).trans
      (walk_eq s lin).symm
  simp [State.oldWalks, same]

/-- The entries of a page before the one change that software made. -/
theorem oldWalks_of_changed {s : State} {lin pde pte : Dword} (h : Changed s lin pde pte) :
    s.oldWalks lin = [.found (pdeAt s lin) (pteAt pde lin) pde pte] := by
  obtain ⟨-, hne, hpd, hpt, haddr, hc⟩ := h
  have before : s.tlb.length = 1 ∧ s.earlier 1 (pdeAt s lin) = pde ∧ s.earlier 1 (pteAt pde lin) = pte := by
    rcases hc with ⟨ht, he⟩ | ⟨ht, he⟩
    · exact ⟨by simp [ht], (earlier_of_unchanged (by simp [ht, haddr]) 1).trans he.symm, earlier_of_changed ht⟩
    · exact ⟨by simp [ht], earlier_of_changed ht, (earlier_of_unchanged (by simp [ht, haddr.symm]) 1).trans he.symm⟩
  obtain ⟨hl, hd, ht⟩ := before
  have hold := (walkOver_eq hd ht).trans (if_pos ⟨hpd, hpt⟩)
  have hnew : Walk.found (pdeAt s lin) (pteAt pde lin) pde pte ≠ s.walk lin := by
    rw [walk_eq]
    split
    · intro h
      obtain ⟨-, -, hd, ht⟩ := Walk.found.inj h
      exact hne (Prod.ext hd ht)
    · exact nofun
  simp [State.oldWalks, hl, hold, hnew]

/-- Settles O46: each of the model's four ways to translate, by what the tables or the TLB's entries give. -/
theorem pagedTranslation : Obligations.PagedTranslation := by
  unfold Obligations.PagedTranslation
  intro s lin wr user
  refine ⟨fun hp => translate_off hp lin wr user, fun hp ha => ?_, fun hp pde pte hc => ?_, fun hp hu => ?_⟩
  · rw [translate_of_oldWalks_nil hp ha.1 (oldWalks_of_agrees ha)]
    exact useWalk_byTables s lin wr user
  · intro u
    rw [translate_of_oldWalks_one hp hc.1 (oldWalks_of_changed hc)]
    split
    · exact useEntry_byEntries u pde pte lin wr user
    · exact useWalk_byTables u lin wr user
  · intro u r
    have hr : r = _ := translate_of_tlbUndef lin hp hu wr user
    split at hr
    · exact .inl (hr ▸ useWalk_byTables u lin wr user)
    · split at hr
      · exact .inr (.inl (hr.trans (pageFault_eq u lin false wr user)))
      · obtain ⟨pde, pte, he⟩ := exists_entryOf
          { frame := (free s 0 24).extractLsb' 0 20, rw := (free s 0 24).getLsbD 20, us := (free s 0 24).getLsbD 21 }
        rw [← he] at hr
        exact .inr (.inr ⟨pde, pte, hr ▸ useEntry_byEntries u pde pte lin wr user⟩)

end Sys2Proof.Machine
end

section
/-! PROOFS. Decoding what `encode` writes (30_encoding.md R120 to R170). -/

namespace Sys2Proof

/-! ## Parsers and the bytes they take -/

/-- The parser takes the bytes `bs` for `a`, whatever bytes follow. -/
def Parses {α : Type} (p : P α) (bs : List Byte) (a : α) : Prop := ∀ rest, p (bs ++ rest) = .ok (a, rest)

namespace Parses

section
variable {α β : Type} {p : P α} {f : α → P β} {bs bs' : List Byte} {a a' : α} {b : β}

theorem done (h : a = a') : Parses (pure a) [] a' := fun rest => by rw [P.pure_apply, h]; rfl

/-- One field, then the rest of the instruction. -/
theorem field (hp : Parses p bs a) (hf : Parses (f a) bs' b) : Parses (p >>= f) (bs ++ bs') b := fun rest => by
  rw [List.append_assoc, P.bind_ok (hp _), hf]

/-- The last field of an instruction. -/
theorem last (hp : Parses p bs a) (hf : Parses (f a) [] b) : Parses (p >>= f) bs b := by
  simpa only [List.append_nil] using field hp hf

/-- The opcode byte, then what its row of the map reads. -/
theorem opcode {f : Byte → P β} {op : Byte} (h : Parses (f op) bs b) : Parses (byteP >>= f) (op :: bs) b :=
  field (p := byteP) (bs := [op]) (fun _ => rfl) h
end

/-! The fields of an instruction: what each of `Laws/Codec` reads back. -/

theorem byte (b : Byte) : Parses byteP [b] b := fun _ => rfl
theorem word (w : Word) : Parses wordP w.le w := wordP_le w
theorem imm {sz : Sz} {v : Imm} (h : v.wf sz = true) : Parses (immP sz) v.le v := immP_le h
theorem farPtr {sz : Sz} {p : FarPtr} (h : p.wf sz = true) : Parses (farPtrP sz) p.le p := farPtrP_le h
theorem modrm {as : Sz} {rm : Rm} (g : BitVec 3) (h : rm.wf as = true) : Parses (modrmP as) (rm.enc g) (g, rm) := modrmP_enc g h
theorem mem {as : Sz} {m : Mem} (g : BitVec 3) (h : m.wf as = true) : Parses (modrmP as) (m.enc g) (g, .mem m) := modrmP_mem g h

end Parses

/-! ## Every instruction -/

/-- What well-formedness says of an instruction that carries a size and more. -/
theorem of_sized {a b : Sz} {c : Bool} (h : (decide (a = b) && c) = true) : a = b ∧ c = true := by simpa using h

/-- Every three-bit number is the number of a register. -/
theorem bits_ofBits (n : BitVec 3) : (Reg.ofBits n).bits = n := by revert n; decide

/-- The decoder reads back every well-formed instruction, by the layout of its encoding: opcode bytes, operand fields. -/
theorem parses_encode (os as : Sz) (i : Instr) (h : i.wf os as = true) : Parses (oneByte os as) (encode i) i := by
  cases i
  case lockPrefix | repnePrefix | repPrefix | esPrefix | csPrefix | ssPrefix | dsPrefix | fsPrefix | gsPrefix |
      operandSizePrefix | addressSizePrefix | aaa | aas | daa | das | clc | cld | cli | cmc | hlt | inAlDx | int3 | into |
      lahf | nop | outDxAl | sahf | stc | std | sti | wait | unassigned82 | unassignedD6 | unassignedF1 =>
    exact .opcode (.done rfl)
  case clts | aad | aam => exact .opcode (.opcode (.done rfl))
  case cbw | cwd | inAccDx | iret | leave | outDxAcc | popDs | popEs | popSs | popa | popf | pushCs | pushSs | pushDs | pushEs |
      pusha | pushf | retNear | retFar | cmpsb | insb | lodsb | movsb | outsb | scasb | stosb | xlat =>
    obtain rfl := of_decide_eq_true h
    exact .opcode (.done rfl)
  case popFs | popGs | pushFs | pushGs =>
    obtain rfl := of_decide_eq_true h
    exact .opcode (.opcode (.done rfl))
  case cmpsw | insw | lodsw | movsw | outsw | scasw | stosw =>
    obtain ⟨rfl, hw⟩ := of_sized h
    obtain rfl := of_decide_eq_true hw
    exact .opcode (.done rfl)
  case incR r | decR r | popR r | pushR r =>
    obtain rfl := of_decide_eq_true h
    cases r <;> exact .opcode (.done rfl)
  case esc n =>
    rw [← bits_ofBits n]
    cases Reg.ofBits n <;> exact .opcode (.done rfl)
  case xchgAccR r =>
    obtain ⟨rfl, hw⟩ := of_sized h
    have hr : r ≠ .ax := of_decide_eq_true hw
    cases r
    case ax => exact absurd rfl hr
    all_goals exact .opcode (.done rfl)
  case addAlImm8 | orAlImm8 | adcAlImm8 | sbbAlImm8 | andAlImm8 | subAlImm8 | xorAlImm8 | cmpAlImm8 | inAlImm8 | intImm8 |
      outImm8Al | testAlImm8 =>
    exact .opcode (.last (.byte _) (.done rfl))
  case inAccImm8 | outImm8Acc | pushImm8 | joRel8 | jnoRel8 | jbRel8 | jaeRel8 | jeRel8 | jneRel8 | jbeRel8 | jaRel8 |
      jsRel8 | jnsRel8 | jpRel8 | jnpRel8 | jlRel8 | jgeRel8 | jleRel8 | jgRel8 | jmpRel8 =>
    obtain rfl := of_decide_eq_true h
    exact .opcode (.last (.byte _) (.done rfl))
  case jcxz | loop | loope | loopne =>
    obtain ⟨rfl, hw⟩ := of_sized h
    obtain rfl := of_decide_eq_true hw
    exact .opcode (.last (.byte _) (.done rfl))
  case movR8Imm8 r b => cases r <;> exact .opcode (.last (.byte _) (.done rfl))
  case retNearImm | retFarImm =>
    obtain rfl := of_decide_eq_true h
    exact .opcode (.last (.word _) (.done rfl))
  case enter =>
    obtain rfl := of_decide_eq_true h
    exact .opcode (.field (.word _) (.last (.byte _) (.done rfl)))
  case addAccImm | orAccImm | adcAccImm | sbbAccImm | andAccImm | subAccImm | xorAccImm | cmpAccImm | testAccImm | callRel |
      jmpRel | pushImm | movAlMoffs | movMoffsAl =>
    exact .opcode (.last (.imm h) (.done rfl))
  case movAccMoffs | movMoffsAcc =>
    obtain ⟨rfl, hw⟩ := of_sized h
    exact .opcode (.last (.imm hw) (.done rfl))
  case movRImm r v => cases r <;> exact .opcode (.last (.imm h) (.done rfl))
  case joRel | jnoRel | jbRel | jaeRel | jeRel | jneRel | jbeRel | jaRel | jsRel | jnsRel | jpRel | jnpRel | jlRel | jgeRel |
      jleRel | jgRel =>
    exact .opcode (.opcode (.last (.imm h) (.done rfl)))
  case callFarPtr | jmpFarPtr => exact .opcode (.last (.farPtr h) (.done rfl))
  case addRm8R8 | addR8Rm8 | orRm8R8 | orR8Rm8 | adcRm8R8 | adcR8Rm8 | sbbRm8R8 | sbbR8Rm8 | andRm8R8 | andR8Rm8 | subRm8R8 |
      subR8Rm8 | xorRm8R8 | xorR8Rm8 | cmpRm8R8 | cmpR8Rm8 | arplRmR | movRm8R8 | movR8Rm8 | testRm8R8 | xchgRm8R8 =>
    exact .opcode (.last (.modrm _ h) (.done (by rw [Reg.ofBits_bits])))
  case addRmR | addRRm | orRmR | orRRm | adcRmR | adcRRm | sbbRmR | sbbRRm | andRmR | andRRm | subRmR | subRRm | xorRmR |
      xorRRm | cmpRmR | cmpRRm | bound | lea | lds | les | movRmR | movRRm | testRmR | xchgRmR =>
    obtain ⟨rfl, hw⟩ := of_sized h
    exact .opcode (.last (.modrm _ hw) (.done (by rw [Reg.ofBits_bits])))
  case bsfRRm | bsrRRm | btRmR | btcRmR | btrRmR | btsRmR | imulRRm | larRRm | lfs | lgs | lss | lslRRm | movsxRRm8 |
      movzxRRm8 | shldRmRCl | shrdRmRCl =>
    obtain ⟨rfl, hw⟩ := of_sized h
    exact .opcode (.opcode (.last (.modrm _ hw) (.done (by rw [Reg.ofBits_bits]))))
  case movsxR32Rm16 | movzxR32Rm16 =>
    obtain ⟨hw, hos⟩ := Bool.and_eq_true_iff.1 h
    obtain rfl := of_decide_eq_true hos
    exact .opcode (.opcode (.last (.modrm _ hw) (.done (by rw [Reg.ofBits_bits]))))
  case imulRRmImm8 =>
    obtain ⟨rfl, hw⟩ := of_sized h
    exact .opcode (.field (.modrm _ hw) (.last (.byte _) (.done (by rw [Reg.ofBits_bits]))))
  case imulRRmImm =>
    obtain ⟨hw, hv⟩ := Bool.and_eq_true_iff.1 h
    exact .opcode (.field (.modrm _ hw) (.last (.imm hv) (.done (by rw [Reg.ofBits_bits]))))
  case shldRmRImm8 | shrdRmRImm8 =>
    obtain ⟨rfl, hw⟩ := of_sized h
    exact .opcode (.opcode (.field (.modrm _ hw) (.last (.byte _) (.done (by rw [Reg.ofBits_bits])))))
  case movSregRm => exact .opcode (.last (.modrm _ h) (.done rfl))
  case movRmSreg =>
    obtain ⟨rfl, hw⟩ := of_sized h
    exact .opcode (.last (.modrm _ hw) (.done rfl))
  case decRm8 | divRm8 | idivRm8 | imulRm8 | incRm8 | mulRm8 | negRm8 | notRm8 | rolRm8One | rolRm8Cl | rorRm8One | rorRm8Cl |
      rclRm8One | rclRm8Cl | rcrRm8One | rcrRm8Cl | salRm8One | salRm8Cl | shrRm8One | shrRm8Cl | sarRm8One | sarRm8Cl =>
    exact .opcode (.last (.modrm _ h) (.done rfl))
  case callRm | callFarMem | decRm | divRm | idivRm | imulRm | incRm | jmpRm | jmpFarMem | mulRm | negRm | notRm | rolRmOne |
      rolRmCl | rorRmOne | rorRmCl | rclRmOne | rclRmCl | rcrRmOne | rcrRmCl | salRmOne | salRmCl | shrRmOne | shrRmCl |
      sarRmOne | sarRmCl =>
    obtain ⟨rfl, hw⟩ := of_sized h
    exact .opcode (.last (.modrm _ hw) (.done rfl))
  case popMem | pushMem =>
    obtain ⟨rfl, hw⟩ := of_sized h
    exact .opcode (.last (.mem _ hw) (.last (.done rfl) (.done rfl)))
  case addRm8Imm8 | orRm8Imm8 | adcRm8Imm8 | sbbRm8Imm8 | andRm8Imm8 | subRm8Imm8 | xorRm8Imm8 | cmpRm8Imm8 | movRm8Imm8 |
      rolRm8Imm8 | rorRm8Imm8 | rclRm8Imm8 | rcrRm8Imm8 | salRm8Imm8 | shrRm8Imm8 | sarRm8Imm8 | testRm8Imm8 =>
    exact .opcode (.field (.modrm _ h) (.last (.byte _) (.done rfl)))
  case addRmImm8 | orRmImm8 | adcRmImm8 | sbbRmImm8 | andRmImm8 | subRmImm8 | xorRmImm8 | cmpRmImm8 | rolRmImm8 | rorRmImm8 |
      rclRmImm8 | rcrRmImm8 | salRmImm8 | shrRmImm8 | sarRmImm8 =>
    obtain ⟨rfl, hw⟩ := of_sized h
    exact .opcode (.field (.modrm _ hw) (.last (.byte _) (.done rfl)))
  case addRmImm | orRmImm | adcRmImm | sbbRmImm | andRmImm | subRmImm | xorRmImm | cmpRmImm | movRmImm | testRmImm =>
    obtain ⟨hw, hv⟩ := Bool.and_eq_true_iff.1 h
    exact .opcode (.field (.modrm _ hw) (.last (.imm hv) (.done rfl)))
  case btRmImm8 | btcRmImm8 | btrRmImm8 | btsRmImm8 =>
    obtain ⟨rfl, hw⟩ := of_sized h
    exact .opcode (.opcode (.field (.modrm _ hw) (.last (.byte _) (.done rfl))))
  case lldt | lmsw | ltr | seto | setno | setb | setae | sete | setne | setbe | seta | sets | setns | setp | setnp | setl |
      setge | setle | setg | sldt | smsw | str | verr | verw =>
    exact .opcode (.opcode (.last (.modrm _ h) (.done rfl)))
  case lgdt | lidt | sgdt | sidt =>
    obtain ⟨rfl, hw⟩ := of_sized h
    exact .opcode (.opcode (.last (.modrm _ hw) (.done rfl)))
  case movRCr | movCrR | movRDr | movDrR | movRTr | movTrR =>
    refine .opcode (.opcode (.opcode ?_))
    simp only [modrmByte_reg, modrmByte_rm, Reg.ofBits_bits, CReg.ofBits_bits, DReg.ofBits_bits, TReg.ofBits_bits]
    exact .done rfl

/-- Settles O56: the decoder takes each field of an encoding for what `encode` wrote there. -/
theorem roundTrip : Obligations.RoundTrip := by
  unfold Obligations.RoundTrip
  exact fun os as i rest h => parses_encode os as i h rest

/-- Settles O55: each word is read by evaluating the decoder. -/
theorem decodeWords : Obligations.DecodeWords := by
  unfold Obligations.DecodeWords
  exact ⟨rfl, rfl, rfl, rfl, rfl, rfl, rfl, rfl, rfl, rfl, rfl⟩

/-- Settles O54: the three opcodes have rows of their own, whose meaning is the refusal. -/
theorem unassignedRefused : Obligations.UnassignedRefused := by
  unfold Obligations.UnassignedRefused
  exact fun s => ⟨fun os as rest => ⟨rfl, rfl, rfl⟩, rfl, rfl, rfl⟩

end Sys2Proof
end

section
/-! PROOFS. What completes an instruction whose operand is an r/m operand: the state its checks leave, and a store at its place. -/

namespace Sys2Proof.Machine

open Sys2Proof.Claims

theorem found_refl (b : State) : Found b b := ⟨rfl, fun _ => rfl⟩

/-- Finding an r/m operand changes memory and the count of free values at most. -/
theorem found_of_opens {b u : State} {w : Width} {rm : Rm} {wr : Bool} {p : Place} (h : Opens b w rm wr p u) : Found b u where
  same := by
    obtain ⟨hu, -⟩ := (openRm_accesses w rm wr).ok h
    rwa [openRm_keepsTlb w rm wr b p u h] at hu
  off hp := openRm_ok_off hp h

/-- Storing at a place leaves the bytes elsewhere. -/
theorem byte_put_other {u : State} {w : Width} {p : Place} (v : BitVec w.bits) {a : Nat} (ha : a ∉ bytesOf p) :
    (put u w p v).byte a = u.byte a := by
  cases p with
  | reg r => rfl
  | mem as => exact byte_setBytes_other ha

theorem writePlace_run (w : Width) (p : Place) (v : BitVec w.bits) (u : State) :
    writePlace w p v u = .ok ((), put u w p v) := by
  cases p <;> rfl

theorem writeRm_ok {b u : State} {w : Width} {rm : Rm} {p : Place} (h : Opens b w rm true p u) (v : BitVec w.bits) :
    writeRm w rm v b = .ok ((), put u w p v) := by
  have h : openRm w rm true b = .ok (p, u) := h
  simp only [writeRm, M.bind_run, h, writePlace_run]

end Sys2Proof.Machine
end

section
/-! PROOFS. SETcc, LAHF and the conditions (30_encoding.md R160, 48_s.md R447, 44_l.md R320, 10_state.md R37). -/

namespace Sys2Proof.Machine

open Sys2Proof.Claims

theorem exec_setcc (c : Cond) (rm : Rm) (s : State) : exec (setcc c rm) s = setCond s c rm := by cases c <;> rfl

theorem setcc_storesRm (c : Cond) (rm : Rm) :
    StoresRm (setcc c rm) .b8 rm (fun s => if condHolds c s.flags then 1#8 else 0#8) := by
  intro s p u ha ho
  refine ⟨(exec_setcc c rm s).trans (perform_ok ha.1 ha.2 ?_), fun a hn => byte_put_other _ hn, found_of_opens ho⟩
  simp only [M.bind_run, getFlags_run, begun_flags, writeRm_ok ho]

/-- The low byte of the flag image is what LAHF stores (10_state.md R36). -/
theorem flagsLow_low (f : Flags) : (flagsLow f).setWidth 8 = lahfByte f := by
  apply BitVec.eq_of_getLsbD_eq
  intro i hi
  simp only [flagsLow, lahfByte, BitVec.getLsbD_setWidth, BitVec.getLsbD_append]
  grind

theorem lahf_plain : Plain .lahf (fun u => u.setReg .b8 .sp (lahfByte u.flags)) := by
  intro s ha
  refine ⟨perform_ok ha.1 ha.2 ?_, fun _ _ => rfl, found_refl _⟩
  simp only [M.bind_run, getFlags_run, writeReg_run, flagsLow_low]

/-! ## The conditions after a comparison -/

theorem subResult_false {n : Nat} (a b : BitVec n) : subResult a b false = a - b := by simp [subResult]

/-- Without overflow the difference is exact; with overflow the operands have opposite signs and the difference has the sign
of the second. -/
theorem toInt_lt_iff_sign_ne_overflow {n : Nat} (hn : 0 < n) (a b : BitVec n) :
    a.toInt < b.toInt ↔ ¬ ((a - b).toInt < 0 ↔ (a - b).toInt ≠ a.toInt - b.toInt) := by
  have hov := toInt_subResult_ne_iff hn a b false
  simp only [subResult_false, BitVec.msb_eq_toInt, Bool.toNat_false, Nat.cast_zero, sub_zero, ne_eq, decide_eq_decide] at hov
  omega

/-- The flags of a comparison, by what they say of the operands (10_state.md R37). -/
theorem subFlags_compare {n : Nat} (hn : 0 < n) (a b : BitVec n) (f : Flags) :
    subFlags a b false f = { f with
      cf := decide (a.toNat < b.toNat)
      ov := decide ((a - b).toInt ≠ a.toInt - b.toInt)
      af := decide (a.toNat % 16 < b.toNat % 16)
      zf := decide (a = b)
      sf := decide ((a - b).toInt < 0)
      pf := decide (((List.range 8).countP fun i => (a - b).getLsbD i) % 2 = 0) } := by
  have hcf : (a.toNat : Int) - b.toNat < 0 ↔ a.toNat < b.toNat := by omega
  have haf : (a.toNat % 16 : Int) - b.toNat % 16 < 0 ↔ a.toNat % 16 < b.toNat % 16 := by omega
  have hzf : (a - b).toNat = 0 ↔ a = b := by rw [← BitVec.toNat_zero (w := n), BitVec.toNat_inj]; exact sub_eq_zero
  rw [subFlags_eq hn]
  simp only [subResult_false, Bool.toNat_false, Nat.cast_zero, sub_zero, hcf, haf, hzf]

/-- Settles O15: a comparison's flags say equality and unsigned order outright, and signed order by sign and overflow. -/
theorem conditionsAndSets : Obligations.ConditionsAndSets := by
  unfold Obligations.ConditionsAndSets
  refine ⟨setcc_storesRm, lahf_plain, fun w => ?_⟩
  have hn := width_bits_pos w
  generalize w.bits = n at hn
  intro a b f
  have hlt := toInt_lt_iff_sign_ne_overflow hn a b
  have heq : a.toNat = b.toNat ↔ a.toInt = b.toInt := BitVec.toNat_inj.trans BitVec.toInt_inj.symm
  simp only [subFlags_compare hn, condHolds, decide_eq_true_eq, Bool.not_eq_true', decide_eq_false_iff_not, Bool.or_eq_true,
    Bool.and_eq_true, bne_iff_ne, beq_iff_eq, ne_eq, decide_eq_decide, BitVec.toNat_eq, iff_self, true_and]
  omega

end Sys2Proof.Machine
end

section
/-! PROOFS. Effective addresses (30_encoding.md R131 to R135). -/

namespace Sys2Proof.Machine

open Sys2Proof.Claims

/-! ## Sums of parts as machine words -/

theorem ofInt_emod (n : Nat) (x : Int) : BitVec.ofInt n (x % 2 ^ n) = BitVec.ofInt n x := by
  apply BitVec.eq_of_toNat_eq
  simp [BitVec.toNat_ofInt]

/-- A sum cut to 16 bits is the 16-bit sum, zero-extended. -/
theorem ofInt_emod_word (x : Int) : BitVec.ofInt 32 (x % 2 ^ 16) = (BitVec.ofInt 16 x).setWidth 32 := by
  apply BitVec.eq_of_toNat_eq
  simp only [BitVec.toNat_ofInt, BitVec.toNat_setWidth]
  omega

theorem ofInt_toNat {n : Nat} (v : BitVec n) : BitVec.ofInt n v.toNat = v := by
  rw [BitVec.ofInt_natCast, BitVec.ofNat_toNat, BitVec.setWidth_eq]

theorem ofInt_disp16 (d : Disp16) : BitVec.ofInt 16 (disp16 d) = dispWord d := by
  cases d
  · rfl
  · rfl
  · exact BitVec.ofInt_toInt

theorem ofInt_disp32 (d : Disp32) : BitVec.ofInt 32 (disp32 d) = dispDword d := by
  cases d
  · rfl
  · rfl
  · exact BitVec.ofInt_toInt

theorem ofInt_scaled (b : State) (scale : BitVec 2) (index : Reg) :
    BitVec.ofInt 32 (scaled b scale index) = b.regs.scaledIndex scale index := by
  unfold scaled GeneralRegs.scaledIndex
  split
  · rfl
  · have hcast : ((b.reg .b32 index).toNat : Int) * 2 ^ scale.toNat = ((b.reg .b32 index).toNat * 2 ^ scale.toNat : Nat) := by
      push_cast; rfl
    rw [hcast, BitVec.ofInt_natCast]
    apply BitVec.eq_of_toNat_eq
    rw [BitVec.toNat_ofNat, BitVec.toNat_shiftLeft, Nat.shiftLeft_eq]
    rfl

theorem ofInt_base16 (b : State) (r : Base16) :
    BitVec.ofInt 16 ((baseRegs r).map fun q => ((b.reg .b16 q).toNat : Int)).sum = b.regs.base16 r := by
  cases r <;> simp [baseRegs, GeneralRegs.base16, BitVec.ofInt_add, State.reg]

/-- The effective address is the sum of its parts, modulo 2^AS. -/
theorem ea_eq_offsetSum (b : State) (m : Mem) :
    b.regs.ea m = BitVec.ofInt 32 (offsetSum b m % 2 ^ (addressSize m).bits) := by
  cases m <;> simp only [addressSize, ofInt_emod, ofInt_emod_word, offsetSum, BitVec.ofInt_add, ofInt_toNat, ofInt_disp16,
      ofInt_disp32, ofInt_scaled, ofInt_base16]
  all_goals rfl

theorem segmentOf_eq (b : State) (m : Mem) : segmentOf b m = b.dataSeg (defaultSeg m) := by
  cases m
  case based16 r d => cases r <;> rfl
  case based32 r d => cases r <;> rfl
  case sib scale index r d => cases r <;> rfl
  all_goals rfl

theorem openAddress_iff (m : Mem) : openAddress m = true ↔ Unscaled m := by
  cases m <;> simp [openAddress, Unscaled]

/-- An address with a scale but no index is a free value (R133, log entry 28). -/
theorem resolve_open {m : Mem} (h : openAddress m = true) (b : State) :
    resolve m b = .ok ((segmentOf b m, free b 0 32), withFlags b 1 b.flags) := by
  simp only [resolve, effAddr, h, if_true, M.bind_run, draw_run, segmentOf_eq]
  rfl

/-- Settles O43: cutting a sum to the address size is a homomorphism, so the parts can be added as words. -/
theorem effectiveAddresses : Obligations.EffectiveAddresses := by
  unfold Obligations.EffectiveAddresses
  refine fun b m => ⟨fun hm => ?_, fun hm => resolve_open ((openAddress_iff m).2 hm) b⟩
  have hm : openAddress m = false := Bool.eq_false_iff.2 (mt (openAddress_iff m).1 hm)
  rw [← ea_eq_offsetSum, segmentOf_eq]
  exact resolve_ok hm b

end Sys2Proof.Machine
end

section
/-! PROOFS. Prefixes (30_encoding.md R121, R122, 44_l.md R340, 47_r.md R420). -/

namespace Sys2Proof.Machine

open Sys2Proof.Claims

/-! ## Prefixes recorded -/

/-- What one of the prefixes does, by what `withPrefix` records: none is a conflict. -/
def recorded (s : State) : Option Prefixes → Host.Outcome State Fault Refusal
  | some p => .next { s with pfx := p }
  | none => .refused .conflictingPrefixes

theorem addOverride_recorded (r : Sreg) (s : State) :
    addOverride r s = recorded s (if s.pfx.seg = none ∨ s.pfx.seg = some r then some { s.pfx with seg := some r } else none) := by
  unfold addOverride
  split <;> rfl

/-- F2 and F3 conflict with each other alone. -/
theorem addRepeat_recorded {r other : Rep} (h : r ≠ other) (s : State) :
    addRepeat r s = recorded s (if s.pfx.rep = some other then none else some { s.pfx with rep := some r }) := by
  have hno : (s.pfx.rep = none ∨ s.pfx.rep = some r) ↔ ¬ s.pfx.rep = some other := by
    cases s.pfx.rep with
    | none => simp
    | some q => cases r <;> cases other <;> cases q <;> simp_all
  unfold addRepeat
  simp only [hno, ite_not]
  split <;> rfl

/-- All prefixes do what `withPrefix` records. -/
theorem exec_prefix {i : Instr} (hi : isPrefix i = true) (s : State) : exec i s = recorded s (withPrefix s.pfx i) := by
  cases i
  case lockPrefix | operandSizePrefix | addressSizePrefix => rfl
  case repnePrefix => exact addRepeat_recorded (by decide) s
  case repPrefix => exact addRepeat_recorded (by decide) s
  case esPrefix | csPrefix | ssPrefix | dsPrefix | fsPrefix | gsPrefix => exact addOverride_recorded _ s
  all_goals exact absurd hi Bool.false_ne_true

/-! ## Prefixes refused -/

/-- An operation that begins with the check of its prefixes raises #UD for those the instruction does not accept. -/
theorem runM_badPrefix {s : State} {i : Instr} {l : Bool} {m : Unit → M Unit} (h : BadPrefix s i) (hl : lockable i = l) :
    runM s (checkPrefixes s l >>= m) = takeFault excUD s := by
  have hbad : (s.pfx.lock = true ∧ l = false) ∨ s.pfx.rep ≠ none := by
    rcases h with ⟨hlock, hi⟩ | ⟨hrep, -⟩ | ⟨hrep, -⟩
    · exact .inl ⟨hlock, hl ▸ hi⟩
    · exact .inr hrep
    · exact .inr (by simp [hrep])
  have hc : checkPrefixes s l (begun s) = .error (.exc excUD (begun s) false) := by
    rcases hbad with ⟨hlock, rfl⟩ | hrep
    · simp [checkPrefixes, hlock]
    · have hsome : s.pfx.rep.isNone = false := by simpa using Option.isSome_iff_ne_none.2 hrep
      cases hlock : (!s.pfx.lock || l) <;> simp [checkPrefixes, hlock, hsome]
  rw [runM_exc (by rw [M.bind_run, hc])]
  rfl

/-- A string instruction checks LOCK and F2 itself. -/
theorem performString_badPrefix {s : State} {i : Instr} {scan : Bool} {as : Sz} {body : M Unit} (h : BadPrefix s i)
    (hi : isString i = true) (hscan : isScan i = scan) : performString s scan as body = takeFault excUD s := by
  refine (runM_exc (e := excUD) (st := begun s) (c := false) ?_).trans rfl
  rcases h with ⟨hlock, -⟩ | ⟨-, hn⟩ | ⟨hrep, hn⟩
  · simp [hlock]
  · exact absurd (hn.symm.trans hi) Bool.false_ne_true
  · obtain rfl : scan = false := hscan.symm.trans hn
    cases s.pfx.lock <;> simp [hrep]

/-- WAIT does not wait under prefixes it does not accept. -/
theorem execWait_badPrefix {s : State} (h : BadPrefix s .wait) : execWait s = takeFault excUD s := by
  have hw : s.waits = false := by
    rcases h with ⟨hlock, -⟩ | ⟨hrep, -⟩ | ⟨hrep, -⟩
    · simp [State.waits, hlock]
    · simp [State.waits, Option.isSome_iff_ne_none, hrep]
    · simp [State.waits, hrep]
  simp only [execWait, hw, Bool.false_eq_true, if_false]
  exact runM_badPrefix h rfl

/-- Prefixes an instruction does not accept raise #UD, by the way the instruction runs: a string instruction, one that LOCK may
precede (the eight operations but for CMP), WAIT, or any other, which checks LOCK and repeat prefixes alike. -/
theorem exec_badPrefix {i : Instr} {s : State} (hp : isPrefix i = false) (hu : isUnassigned i = false) (h : BadPrefix s i) :
    exec i s = takeFault excUD s := by
  cases i
  case lockPrefix | repnePrefix | repPrefix | esPrefix | csPrefix | ssPrefix | dsPrefix | fsPrefix | gsPrefix |
      operandSizePrefix | addressSizePrefix =>
    exact absurd hp.symm Bool.false_ne_true
  case unassigned82 | unassignedD6 | unassignedF1 => exact absurd hu.symm Bool.false_ne_true
  case movsb | movsw | cmpsb | cmpsw | scasb | scasw | lodsb | lodsw | stosb | stosw | insb | insw | outsb | outsw =>
    exact performString_badPrefix h rfl rfl
  case addRm8R8 | addRmR | addRm8Imm8 | addRmImm | addRmImm8 | orRm8R8 | orRmR | orRm8Imm8 | orRmImm | orRmImm8 | adcRm8R8 |
      adcRmR | adcRm8Imm8 | adcRmImm | adcRmImm8 | sbbRm8R8 | sbbRmR | sbbRm8Imm8 | sbbRmImm | sbbRmImm8 | andRm8R8 | andRmR |
      andRm8Imm8 | andRmImm | andRmImm8 | subRm8R8 | subRmR | subRm8Imm8 | subRmImm | subRmImm8 | xorRm8R8 | xorRmR |
      xorRm8Imm8 | xorRmImm | xorRmImm8 =>
    exact runM_badPrefix h (Bool.and_true _).symm
  case cmpRm8R8 | cmpRmR | cmpRm8Imm8 | cmpRmImm | cmpRmImm8 => exact runM_badPrefix h (Bool.and_false _).symm
  case wait => exact execWait_badPrefix h
  all_goals exact runM_badPrefix h rfl

/-- Settles O53: the recorded prefixes and the ones refused, each instruction by the way it runs. -/
theorem prefixesRecorded : Obligations.PrefixesRecorded := by
  unfold Obligations.PrefixesRecorded
  refine fun i s => ⟨fun hi => ⟨fun p hp => ?_, fun hp => ?_⟩, exec_badPrefix⟩
  · rw [exec_prefix hi, hp]; rfl
  · rw [exec_prefix hi, hp]; rfl

end Sys2Proof.Machine
end

section
/-! PROOFS. Forms that raise #UD, and privileged table loads (30_encoding.md R137, R142, 60_exceptions.md R551). -/

namespace Sys2Proof.Machine

open Sys2Proof.Claims

/-- An operation that raises an exception before it changes anything: the exception is taken from the instruction. -/
theorem perform_raises {s : State} {l : Bool} {m : M Unit} {e : Exc} (ha : Accepts s l)
    (h : m (begun s) = .error (.exc e (begun s) false)) : perform s l m = takeFault e s :=
  (perform_exc ha.1 ha.2 h).trans rfl

theorem performTransfer_raises {s : State} {m : M Bool} {e : Exc} (ha : Accepts s false)
    (h : m (begun s) = .error (.exc e (begun s) false)) : performTransfer s m = takeFault e s :=
  (performTransfer_exc (Bool.eq_false_iff.2 fun hl => Bool.false_ne_true (ha.1 hl)) ha.2 h).trans rfl

theorem bind_raises {α β : Type} {m : M α} {f : α → M β} {s : State} {e : Exc} (h : m s = .error (.exc e s false)) :
    (m >>= f) s = .error (.exc e s false) := by rw [M.bind_run, h]

theorem bind_passes {α β : Type} {m : M α} {f : α → M β} {s : State} {a : α} (h : m s = .ok (a, s)) :
    (m >>= f) s = f a s := by rw [M.bind_run, h]

/-! ## The mode and the privilege level -/

theorem requireProt_ok {s : State} (h : s.mode = .prot) : requireProt s = .ok ((), s) := by simp [requireProt, h]

theorem requireProt_raises {s : State} (h : s.mode ≠ .prot) : requireProt s = .error (.exc excUD s false) := by
  simp [requireProt, h]

theorem requireCpl0_raises {s : State} (h : ¬ Privileged s) : requireCpl0 s = .error (.exc (excGP 0#16) s false) := by
  unfold Privileged at h
  have : (!s.cr0.pe || (!s.flags.vm && s.cpl = 0#2)) = false := by
    simpa using h
  simp [requireCpl0, this]

theorem not_privileged_of_cpl {s : State} (hm : s.mode = .prot) (h : s.cpl ≠ 0#2) : ¬ Privileged s := by
  rintro (hpe | ⟨-, hcpl⟩)
  · simp [State.mode, hpe] at hm
  · exact h hcpl

/-- An instruction that protected mode alone recognizes. -/
theorem perform_requireProt_raises {s : State} {m : Unit → M Unit} (ha : Accepts s false) (h : s.mode ≠ .prot) :
    perform s false (requireProt >>= m) = takeFault excUD s :=
  perform_raises ha (bind_raises (requireProt_raises (begun_mode s ▸ h)))

/-- A protected-mode instruction for CPL 0 alone. -/
theorem perform_requireCpl0_raises {s : State} {m : Unit → M Unit} (ha : Accepts s false) (hm : s.mode = .prot)
    (h : s.cpl ≠ 0#2) : perform s false (requireProt >>= fun _ => requireCpl0 >>= m) = takeFault (excGP 0#16) s := by
  have hprot : (begun s).mode = .prot := hm
  exact perform_raises ha <| (bind_passes (requireProt_ok hprot)).trans <| bind_raises <|
    requireCpl0_raises (not_privileged_of_cpl hprot h)

/-- LGDT and LIDT check the privilege level before they find their operand. -/
theorem readTable_raises {os : Sz} {m : Mem} {s : State} (h : ¬ Privileged s) :
    readTable os (.mem m) s = .error (.exc (excGP 0#16) s false) :=
  (bind_passes (m := requireMem (.mem m)) rfl).trans (bind_raises (requireCpl0_raises h))

/-- Settles O39: every form checks its operand's kind, the mode and the privilege level before it changes anything. -/
theorem invalidOpcodeTraps : Obligations.InvalidOpcodeTraps := by
  unfold Obligations.InvalidOpcodeTraps
  intro os r q rm s ha
  simp only [List.forall_mem_cons, List.not_mem_nil, false_implies, implies_true, and_true]
  refine ⟨?_, fun hm => ?_, fun hp m => ?_, fun hm hc => ?_⟩
  · have bad {m : M Unit} (h : m (begun s) = .error (.exc excUD (begun s) false)) : perform s false m = takeFault excUD s :=
      perform_raises ha h
    have far {m : M Bool} (h : m (begun s) = .error (.exc excUD (begun s) false)) : performTransfer s m = takeFault excUD s :=
      performTransfer_raises ha h
    exact ⟨bad rfl, bad rfl, bad rfl, bad rfl, bad rfl, bad rfl, bad rfl, bad rfl, bad rfl, bad rfl, bad rfl, far rfl, far rfl,
      bad rfl, bad rfl, bad rfl, bad rfl, bad rfl⟩
  · have prot {m : Unit → M Unit} : perform s false (requireProt >>= m) = takeFault excUD s :=
      perform_requireProt_raises ha hm
    constructorm* _ ∧ _ <;> exact prot
  · exact ⟨perform_raises ha (bind_raises (readTable_raises hp)), perform_raises ha (bind_raises (readTable_raises hp))⟩
  · exact ⟨perform_requireCpl0_raises ha hm hc, perform_requireCpl0_raises ha hm hc⟩

end Sys2Proof.Machine
end

section
/-! PROOFS. What completes an instruction, or raises its exception, once its operands are found; reading operands, and what
finding memory operands of one and of two parts changes (20_memory.md R90, 30_encoding.md R130 to R135). -/

namespace Sys2Proof.Machine

open Sys2Proof.Claims

/-! ## Completing and raising -/

/-- An instruction whose operation completes in `t`, its operands found in `u`. -/
theorem completes_of_perform {i : Instr} {s u t : State} {l : Bool} {m : M Unit} {stored : List Nat}
    (hi : exec i s = perform s l m) (ha : Accepts s l) (hm : m (begun s) = .ok ((), t))
    (hb : ∀ a, a ∉ stored → t.byte a = u.byte a) (hf : Found (begun s) u) : Completes i s u t stored :=
  ⟨hi.trans (perform_ok ha.1 ha.2 hm), hb, hf⟩

/-- A form without operands whose operation has the effect `effect`, storing nothing. -/
theorem plain_of_perform {i : Instr} {m : M Unit} {effect : State → State} (hi : ∀ s, exec i s = perform s false m)
    (hm : ∀ u, m u = .ok ((), effect u)) (hb : ∀ u a, (effect u).byte a = u.byte a) : Plain i effect :=
  fun s ha => completes_of_perform (hi s) ha (hm _) (fun a _ => hb _ a) (found_refl _)

/-- An exception that the operation raises once its operands are found. -/
theorem takes_of_perform {i : Instr} {s u : State} {l : Bool} {m : M Unit} {e : Exc} (hi : exec i s = perform s l m)
    (ha : Accepts s l) (hm : m (begun s) = .error (.exc e u false)) (hf : Found (begun s) u) : Takes i s u e := by
  have hcr2 : u.cr2 = s.cr2 := by rw [hf.same]; rfl
  have hback : rollback s u false = { s with draws := u.draws } := by simp [rollback, hcr2]
  exact (hi.trans (perform_exc ha.1 ha.2 hm)).trans (congrArg (takeFault e) hback)

/-! ## Finding operands -/

theorem found_trans {b v u : State} (h : Found b v) (h' : Found v u) : Found b u where
  same := by
    have hu := h'.same
    rw [h.same] at hu
    exact hu
  off hp := by
    have hv := h.off hp
    have hu := h'.off (by rw [hv]; exact hp)
    rw [hv] at hu
    exact hu

theorem reg_of_found {b u : State} (h : Found b u) (w : Width) (r : Reg) : u.reg w r = b.reg w r := by
  rw [h.same]; rfl

/-- An access that leaves the record of page-table changes alone, and with paging off all but the count of free values. -/
theorem found_of_accesses {α : Type} {post : α → Prop} {m : M α} (hm : Accesses post m) (hk : KeepsTlb m) {b u : State} {x : α}
    (h : m b = .ok (x, u)) (hoff : b.cr0.pg = false → u = { b with draws := u.draws }) : Found b u where
  same := by
    obtain ⟨hu, -⟩ := hm.ok h
    rwa [hk b x u h] at hu
  off := hoff

theorem found_of_addressed {b v : State} {m : Mem} {seg : Sreg} {off : Dword} (h : Addressed b m seg off v) : Found b v :=
  found_of_accesses (resolve_accesses m) (resolve_keepsTlb m) h fun _ => resolve_ok_off h

theorem found_of_opensMem {b u : State} {seg : Sreg} {off : Dword} {n : Nat} {wr : Bool} {as : List Nat}
    (h : OpensMem b seg off n wr as u) : Found b u :=
  found_of_accesses (openMem_accesses seg off n wr) (openMem_keepsTlb seg off n wr) h fun hp => by
    rw [(openMem_ok_off hp h).1]

/-- With paging off finding the tail of an operand changes nothing. -/
theorem openTail_ok_off {r : Sreg} {off : Dword} {k n : Nat} {wr : Bool} {s u : State} {as : List Nat}
    (hp : s.cr0.pg = false) (h : openTail r off k n wr s = .ok (as, u)) : u = s := by
  rcases checkAccess_accesses r off (k + n) wr s with hc | ⟨e, hc⟩
  · simp only [openTail, M.bind_run, hc, M.get_run, translateAll_off hp] at h
    cases h
    rfl
  · simp only [openTail, M.bind_run, hc] at h
    cases h

theorem found_of_readsParts {b u : State} {seg : Sreg} {off : Dword} {k n : Nat} {lo hi : List Byte}
    (h : ReadsParts b seg off k n lo hi u) : Found b u := by
  obtain ⟨as, v, as', hfirst, htail, -, -⟩ := h
  refine found_trans (found_of_opensMem hfirst) ?_
  exact found_of_accesses (openTail_accesses seg off k n false) (openTail_keepsTlb seg off k n false) htail fun hp => by
    rw [openTail_ok_off hp htail]

/-! ## Reading operands -/

theorem readPlace_run (w : Width) (p : Place) (u : State) : readPlace w p u = .ok (at' u w p, u) := by cases p <;> rfl

theorem readRm_ok {b u : State} {w : Width} {rm : Rm} {p : Place} (h : Opens b w rm false p u) :
    readRm w rm b = .ok (at' u w p, u) := by
  have h : openRm w rm false b = .ok (p, u) := h
  simp only [readRm, M.bind_run, h, readPlace_run]

theorem readPair_ok {b v u : State} {m : Mem} {seg : Sreg} {off : Dword} {k n : Nat} {lo hi : List Byte}
    (hm : Addressed b m seg off v) (hp : ReadsParts v seg off k n lo hi u) :
    readPair m k n b = .ok ((leValue 32 lo, leValue 32 hi), u) := by
  have hm : resolve m b = .ok ((seg, off), v) := hm
  obtain ⟨as, t, as', hfirst, htail, rfl, rfl⟩ := hp
  have hfirst : openMem seg off k false v = .ok (as, t) := hfirst
  simp only [readPair, memParts, memBytes, M.bind_run, hm, hfirst, htail, readPhys_run, M.pure_run]

/-- A register at an operand size is the low part of the 32-bit register (10_state.md R31). -/
theorem reg_width (s : State) (os : Sz) (r : Reg) : s.reg os.width r = (s.reg .b32 r).setWidth os.width.bits := by
  cases os with
  | s16 => rfl
  | s32 => exact (BitVec.setWidth_eq _).symm

end Sys2Proof.Machine
end

section
/-! PROOFS. ADD, OR, ADC, SBB, AND, SUB, XOR and CMP (40_a_b.md R204 to R206, R215, 41_c_d_e_h.md R240, 45_m_n_o.md R380, 48_s.md
R445, R469, 49_t_v_w_x.md R487). -/

namespace Sys2Proof.Machine

open Sys2Proof.Claims

/-! ## One operation -/

theorem addResult_false {n : Nat} (a b : BitVec n) : addResult a b false = a + b := by simp [addResult]

theorem aluResult_eq_aluValue {n : Nat} (op : AluOp) (a b : BitVec n) (c : Bool) : aluResult op a b c = aluValue op a b c := by
  cases op with
  | add => exact addResult_false a b
  | sub | cmp => exact subResult_false a b
  | adc | sbb | and | or | xor => rfl

/-- One operation answers its result and leaves its flags. -/
theorem alu_run {n : Nat} (op : AluOp) (a b : BitVec n) (u : State) :
    alu op a b u = .ok (aluValue op a b u.flags.cf, aluState op a b u) := by
  rw [← aluResult_eq_aluValue]
  cases op <;> rfl

theorem aluTo_run (w : Width) (op : AluOp) (p : Place) (b : BitVec w.bits) (u : State) :
    aluTo w op p b u = .ok ((), aluEffect w op p b u) := by
  simp only [aluTo, M.bind_run, readPlace_run, alu_run, M.ite_run, writePlace_run, M.pure_run, aluEffect]
  by_cases h : op = .cmp
  · rw [if_neg (by simp [writesResult, h]), if_pos h]
  · rw [if_pos (by simp [writesResult, h]), if_neg h]

theorem byte_aluState {n : Nat} (op : AluOp) (a b : BitVec n) (u : State) : (aluState op a b u).byte = u.byte := by
  cases op <;> rfl

/-- An operation stores at its destination, CMP nowhere. -/
theorem byte_aluEffect_other {w : Width} {op : AluOp} {p : Place} (b : BitVec w.bits) (u : State) {a : Nat}
    (ha : a ∉ aluStored op p) : (aluEffect w op p b u).byte a = u.byte a := by
  unfold aluStored at ha
  unfold aluEffect
  split
  · rw [byte_aluState]
  · rw [byte_put_other _ (by simpa only [if_neg ‹_›] using ha), byte_aluState]

theorem aluStored_reg (op : AluOp) (r : Reg) : aluStored op (.reg r) = [] := ite_self _

/-! ## The forms -/

/-- A form with an r/m destination, whose operation finds the destination once its source is at hand. -/
theorem aluToRm_of_perform {i : Instr} {w : Width} {op : AluOp} {rm : Rm} {b : State → BitVec w.bits} {m : State → M Unit}
    (hi : ∀ s, exec i s = perform s (isMem rm && writesResult op) (m s))
    (hm : ∀ s, m s (begun s) = (openRm w rm (writesResult op) >>= fun p => aluTo w op p (b s)) (begun s)) :
    AluToRm i w op rm b := by
  intro s p u ha ho
  refine completes_of_perform (hi s) ha ?_ (fun a hn => byte_aluEffect_other _ u hn) (found_of_opens ho)
  have ho : openRm w rm (writesResult op) (begun s) = .ok (p, u) := ho
  simp only [hm, M.bind_run, ho, aluTo_run]

theorem aluRmImm_toRm {i : Instr} {w : Width} {op : AluOp} {rm : Rm} {b : BitVec w.bits}
    (hi : ∀ s, exec i s = aluRmImm s w op rm b) : AluToRm i w op rm (fun _ => b) :=
  aluToRm_of_perform hi fun _ => rfl

theorem aluRmReg_toRm {i : Instr} {w : Width} {op : AluOp} {rm : Rm} {r : Reg} (hi : ∀ s, exec i s = aluRmReg s w op rm r) :
    AluToRm i w op rm (fun s => s.reg w r) :=
  aluToRm_of_perform hi fun _ => rfl

theorem aluRegRm_fromRm {i : Instr} {w : Width} {op : AluOp} {rm : Rm} {r : Reg} (hi : ∀ s, exec i s = aluRegRm s w op r rm) :
    AluFromRm i w op r rm := by
  intro s p u ha ho
  refine completes_of_perform (hi s) ha ?_ (fun a hn => ?_) (found_of_opens ho)
  · simp only [M.bind_run, readRm_ok ho, aluTo_run]
  · exact byte_aluEffect_other _ u (by rwa [aluStored_reg])

theorem aluAccImm_acc {i : Instr} {w : Width} {op : AluOp} {b : BitVec w.bits} (hi : ∀ s, exec i s = aluAccImm s w op b) :
    AluAcc i w op b := by
  intro s ha
  refine completes_of_perform (hi s) ha (aluTo_run w op (.reg .ax) b (begun s)) (fun a hn => ?_) (found_refl _)
  exact byte_aluEffect_other b (begun s) (by rwa [aluStored_reg])

theorem exec_aluRm8R8 (op : AluOp) (rm : Rm) (r : Reg) (s : State) : exec (aluRm8R8 op rm r) s = aluRmReg s .b8 op rm r := by
  cases op <;> rfl

theorem exec_aluRmR (op : AluOp) (os : Sz) (rm : Rm) (r : Reg) (s : State) :
    exec (aluRmR op os rm r) s = aluRmReg s os.width op rm r := by
  cases op <;> rfl

theorem exec_aluR8Rm8 (op : AluOp) (r : Reg) (rm : Rm) (s : State) : exec (aluR8Rm8 op r rm) s = aluRegRm s .b8 op r rm := by
  cases op <;> rfl

theorem exec_aluRRm (op : AluOp) (os : Sz) (r : Reg) (rm : Rm) (s : State) :
    exec (aluRRm op os r rm) s = aluRegRm s os.width op r rm := by
  cases op <;> rfl

theorem exec_aluAlImm8 (op : AluOp) (b : Byte) (s : State) : exec (aluAlImm8 op b) s = aluAccImm s .b8 op b := by
  cases op <;> rfl

theorem exec_aluAccImm (op : AluOp) (v : Imm) (s : State) :
    exec (Claims.aluAccImm op v) s = aluAccImm s (immSize v).width op (immAt _ v) := by
  cases op <;> rfl

theorem exec_aluRm8Imm8 (op : AluOp) (rm : Rm) (b : Byte) (s : State) : exec (aluRm8Imm8 op rm b) s = aluRmImm s .b8 op rm b := by
  cases op <;> rfl

theorem exec_aluRmImm (op : AluOp) (rm : Rm) (v : Imm) (s : State) :
    exec (Claims.aluRmImm op rm v) s = aluRmImm s (immSize v).width op rm (immAt _ v) := by
  cases op <;> rfl

theorem exec_aluRmImm8 (op : AluOp) (os : Sz) (rm : Rm) (b : Byte) (s : State) :
    exec (aluRmImm8 op os rm b) s = aluRmImm s os.width op rm (sextByte _ b) := by
  cases op <;> rfl

/-- Settles O1: every form finds its operands and then performs one operation on its destination. -/
theorem aluOperations : Obligations.AluOperations := by
  unfold Obligations.AluOperations
  intro op os rm r b v
  exact ⟨aluRmReg_toRm (exec_aluRm8R8 op rm r), aluRmReg_toRm (exec_aluRmR op os rm r), aluRmImm_toRm (exec_aluRm8Imm8 op rm b),
    aluRmImm_toRm (exec_aluRmImm op rm v), aluRmImm_toRm (exec_aluRmImm8 op os rm b), aluRegRm_fromRm (exec_aluR8Rm8 op r rm),
    aluRegRm_fromRm (exec_aluRRm op os r rm), aluAccImm_acc (exec_aluAlImm8 op b), aluAccImm_acc (exec_aluAccImm op v)⟩

end Sys2Proof.Machine
end

section
/-! PROOFS. AAA, AAS, DAA, DAS, AAD and AAM (40_a_b.md R200 to R203, 41_c_d_e_h.md R243, R244). -/

namespace Sys2Proof.Machine

open Sys2Proof.Claims

/-- AAA and AAS change AL and AH when they adjust, else AL alone. -/
theorem asciiAdjust_run (d h : Byte) (u : State) : asciiAdjust d h u = .ok ((), asciiEffect d h u) := by
  have hlow : lowAdjust (u.reg .b8 .ax) u.flags = (decide (9 < (u.reg .b8 .ax).toNat % 16) || u.flags.af) := rfl
  simp only [asciiAdjust, asciiEffect, M.bind_run, getFlags_run, readReg_run, M.ite_run, hlow]
  split <;> rfl

theorem byte_asciiEffect (d h : Byte) (u : State) (a : Nat) : (asciiEffect d h u).byte a = u.byte a := by
  simp only [asciiEffect]
  split <;> rfl

/-- The second test of DAA and DAS looks at AL after the first step (log entry 12). -/
theorem decimalAdjust_run (d h : Byte) (u : State) : decimalAdjust d h u = .ok ((), decimalEffect d h u) := rfl

theorem asciiBeforeDivide_run (u : State) : asciiBeforeDivide u = .ok ((), aadEffect u) := rfl

theorem asciiAfterMultiply_run (u : State) : asciiAfterMultiply u = .ok ((), aamEffect u) := rfl

theorem plain_asciiAdjust {i : Instr} {d h : Byte} (hi : ∀ s, exec i s = perform s false (asciiAdjust d h)) :
    Plain i (asciiEffect d h) :=
  plain_of_perform hi (asciiAdjust_run d h) (byte_asciiEffect d h)

theorem plain_decimalAdjust {i : Instr} {d h : Byte} (hi : ∀ s, exec i s = perform s false (decimalAdjust d h)) :
    Plain i (decimalEffect d h) :=
  plain_of_perform hi (decimalAdjust_run d h) fun _ _ => rfl

/-- Settles O7: each operation is a straight line of register and flag writes, but for the one branch of AAA and AAS. -/
theorem decimalAdjustment : Obligations.DecimalAdjustment := by
  unfold Obligations.DecimalAdjustment
  exact ⟨plain_asciiAdjust fun _ => rfl, plain_asciiAdjust fun _ => rfl,
    plain_decimalAdjust fun _ => rfl, plain_decimalAdjust fun _ => rfl,
    plain_of_perform (fun _ => rfl) asciiBeforeDivide_run fun _ _ => rfl,
    plain_of_perform (fun _ => rfl) asciiAfterMultiply_run fun _ _ => rfl⟩

end Sys2Proof.Machine
end

section
/-! PROOFS. BT, BTC, BTR, BTS, BSF and BSR (40_a_b.md R209 to R214). -/

namespace Sys2Proof.Machine

open Sys2Proof.Claims

/-! ## One bit -/

theorem bitResult_eq_bitValue {n : Nat} (op : BitOp) (a : BitVec n) (i : Nat) : bitResult op a i = bitValue op a i := by
  cases op <;> rfl

theorem bitOn_run (w : Width) (op : BitOp) (p : Place) (i : Nat) (u : State) :
    bitOn w op p i u = .ok ((), bitEffect w op p i u) := by
  simp only [bitOn, M.bind_run, readPlace_run, modifyFlags_run, undefStatus_run, M.ite_run, writePlace_run, M.pure_run,
    bitResult_eq_bitValue, bitEffect, ite_not]
  split <;> rfl

/-- A bit instruction stores at its operand, BT nowhere. -/
theorem byte_bitEffect_other {w : Width} {op : BitOp} {p : Place} (i : Nat) (u : State) {a : Nat} (ha : a ∉ bitStored op p) :
    (bitEffect w op p i u).byte a = u.byte a := by
  unfold bitStored at ha
  simp only [bitEffect]
  split
  · rfl
  · exact byte_put_other _ (by simpa only [if_neg ‹_›] using ha)

theorem bitStored_reg (op : BitOp) (r : Reg) : bitStored op (.reg r) = [] := ite_self _

/-! ## The operand a bit offset selects -/

/-- In memory, a register offset moves the operand by whole operands (40_a_b.md R211). -/
theorem openBit_mem_ok {b v u : State} {w : Width} {m : Mem} {seg : Sreg} {off : Dword} {o : BitVec w.bits} {wr : Bool}
    {as : List Nat} (hm : Addressed b m seg off v)
    (ho : OpensMem v seg (truncSz (addressSize m) (off + bitAddress w o)) w.bytes wr as u) :
    openBit w (.mem m) o wr b = .ok (.mem as, u) := by
  have hm : resolve m b = .ok ((seg, off), v) := hm
  have ho : openMem seg (truncSz (addressSize m) (off + bitAddress w o)) w.bytes wr v = .ok (as, u) := ho
  simp only [openBit, M.bind_run, hm, ho, M.pure_run]

theorem bitAddress_width (os : Sz) (o : BitVec os.width.bits) :
    bitAddress os.width o = BitVec.ofInt 32 (o.toInt / os.bits * os.bytes) := by
  cases os <;> rfl

theorem width_bits_eq (os : Sz) : os.width.bits = os.bits := by cases os <;> rfl
theorem width_bytes_eq (os : Sz) : os.width.bytes = os.bytes := by cases os <;> rfl

theorem exec_bitRmR (op : BitOp) (os : Sz) (rm : Rm) (r : Reg) (s : State) :
    exec (bitRmR op os rm r) s = bitRmReg s os.width op rm r := by
  cases op <;> rfl

theorem exec_bitRmImm8 (op : BitOp) (os : Sz) (rm : Rm) (b : Byte) (s : State) :
    exec (bitRmImm8 op os rm b) s = bitRmImm s os.width op rm b := by
  cases op <;> rfl

/-- Settles O10: every form finds the operand that holds its bit, then treats the bit at the offset modulo the operand size. -/
theorem bitTests : Obligations.BitTests := by
  unfold Obligations.BitTests
  refine ⟨fun op os rm b s p u ha ho => ?_, fun op os d r s ha => ?_, fun op os m r s seg off v as u ha hm ho => ?_⟩
  · refine completes_of_perform (exec_bitRmImm8 op os rm b s) ha ?_ (fun a hn => byte_bitEffect_other _ u hn) (found_of_opens ho)
    have ho : openRm os.width rm (decide (op ≠ .test)) (begun s) = .ok (p, u) := ho
    simp only [M.bind_run, ho, bitOn_run, width_bits_eq]
  · refine completes_of_perform (exec_bitRmR op os (.reg d) r s) ha ?_ (fun a hn => ?_) (found_refl _)
    · simp only [openBit, M.bind_run, readReg_run, M.pure_run, bitOn_run, begun_reg, width_bits_eq]
    · exact byte_bitEffect_other _ _ (by rwa [bitStored_reg])
  · have hf : Found (begun s) u := found_trans (found_of_addressed hm) (found_of_opensMem ho)
    rw [← bitAddress_width, ← width_bytes_eq] at ho
    refine completes_of_perform (exec_bitRmR op os (.mem m) r s) ha ?_ (fun a hn => byte_bitEffect_other _ u hn) hf
    simp only [M.bind_run, readReg_run, begun_reg, openBit_mem_ok hm ho, bitOn_run, width_bits_eq]

/-! ## Scans -/

/-- A scan from bit 0 stops at the lowest 1 bit, if that lies below its bound. -/
theorem lowestBit_eq_min {n : Nat} {a : BitVec n} {i : Nat} (hi : a.getLsbD i = true) (hlow : ∀ j, j < i → a.getLsbD j = false)
    (k : Nat) : lowestBit a k = min i k := by
  induction k with
  | zero => simp [lowestBit]
  | succ k ih =>
    simp only [lowestBit, ih]
    rcases Nat.lt_trichotomy i k with h | rfl | h
    · rw [if_pos (by omega)]; omega
    · rw [if_neg (by omega), if_pos hi]; omega
    · rw [if_neg (by omega), if_neg (by simp [hlow k h])]; omega

/-- A scan from the bound down stops at the highest 1 bit. -/
theorem highestBit_eq {n : Nat} {a : BitVec n} {i k : Nat} (hi : a.getLsbD i = true)
    (hhigh : ∀ j, i < j → a.getLsbD j = false) (hk : i < k) : highestBit a k = i := by
  induction k with
  | zero => omega
  | succ k ih =>
    simp only [highestBit]
    rcases Nat.lt_or_eq_of_le (Nat.le_of_lt_succ hk) with h | rfl
    · rw [if_neg (by simp [hhigh k h]), ih h]
    · rw [if_pos hi]

/-- The scan of 0 draws the register, and then the flags. -/
theorem bitScan_zero {i : Instr} {s u : State} {w : Width} {r : Reg} {rm : Rm} {p : Place} {scan : BitVec w.bits → Nat}
    (hi : exec i s = bitScan s w r rm scan) (ha : Accepts s false) (ho : Opens (begun s) w rm false p u)
    (hz : at' u w p = 0#w.bits) : Completes i s u (scanZeroEffect w r u) [] := by
  refine completes_of_perform hi ha ?_ (fun _ _ => rfl) (found_of_opens ho)
  simp only [M.bind_run, readRm_ok ho, hz, if_true, draw_run, writeReg_run, modifyFlags_run, beq_self_eq_true]
  rfl

/-- The scan of an operand with a 1 bit, for an index known to be what it finds. -/
theorem bitScan_found {i : Instr} {s u : State} {w : Width} {r : Reg} {rm : Rm} {p : Place} {scan : BitVec w.bits → Nat} {k : Nat}
    (hi : exec i s = bitScan s w r rm scan) (ha : Accepts s false) (ho : Opens (begun s) w rm false p u)
    (hk : (at' u w p).getLsbD k = true) (hscan : scan (at' u w p) = k) : Completes i s u (scanEffect w r k u) [] := by
  have hz : at' u w p ≠ 0#w.bits := fun hz => by simp [hz] at hk
  refine completes_of_perform hi ha ?_ (fun _ _ => rfl) (found_of_opens ho)
  simp only [M.bind_run, readRm_ok ho, if_neg hz, hscan, writeReg_run, modifyFlags_run, beq_eq_false_iff_ne.2 hz]
  rfl

/-- Settles O11: of an operand with a 1 bit the scan finds the one that the statement names, of 0 the register is drawn. -/
theorem bitScans : Obligations.BitScans := by
  unfold Obligations.BitScans
  intro os r rm s p u ha ho
  have hbsf : exec (.bsfRRm os r rm) s = bitScan s os.width r rm (lowestBit · os.bits) := rfl
  have hbsr : exec (.bsrRRm os r rm) s = bitScan s os.width r rm (highestBit · os.bits) := rfl
  have hlt {i : Nat} (hi : (at' u os.width p).getLsbD i = true) : i < os.bits := width_bits_eq os ▸ BitVec.lt_of_getLsbD hi
  refine ⟨fun hz => ⟨bitScan_zero hbsf ha ho hz, bitScan_zero hbsr ha ho hz⟩, fun i hi hlow => ?_, fun i hi hhigh => ?_⟩
  · have hmin : min i os.bits = i := Nat.min_eq_left (hlt hi).le
    exact bitScan_found hbsf ha ho hi ((lowestBit_eq_min hi hlow os.bits).trans hmin)
  · exact bitScan_found hbsr ha ho hi (highestBit_eq hi hhigh (hlt hi))

end Sys2Proof.Machine
end

section
/-! PROOFS. BOUND (40_a_b.md R208). -/

namespace Sys2Proof.Machine

open Sys2Proof.Claims

/-- BOUND compares the signed index with the two parts of its operand. -/
theorem checkBounds_run {os : Sz} {r : Reg} {b v u : State} {m : Mem} {seg : Sreg} {off : Dword} {lo hi : List Byte}
    (hm : Addressed b m seg off v) (hp : ReadsParts v seg off os.bytes os.bytes lo hi u) :
    checkBounds os r (.mem m) b =
      require (decide ((leValue os.bits lo).toInt ≤ ((b.reg .b32 r).setWidth os.bits).toInt ∧
        ((b.reg .b32 r).setWidth os.bits).toInt ≤ (leValue os.bits hi).toInt)) excBR u := by
  have hreg : u.reg .b32 r = b.reg .b32 r :=
    reg_of_found (found_trans (found_of_addressed hm) (found_of_readsParts hp)) .b32 r
  have hbits : os.width.bits ≤ 32 := by cases os <;> decide
  have hmem : requireMem (.mem m) b = .ok (m, b) := rfl
  simp only [checkBounds, M.bind_run, hmem, readPair_ok hm hp, readReg_run, reg_width, hreg, leValue_setWidth hbits]
  rw [width_bits_eq]

/-- Settles O16: the index is in its bounds, and nothing changed, or the comparison fails once both bounds are read. -/
theorem bound : Obligations.Bound := by
  unfold Obligations.Bound
  intro os r m s seg off v lo hi u ha hm hp
  have hexec : exec (.bound os r (.mem m)) s = perform s false (checkBounds os r (.mem m)) := rfl
  have hf : Found (begun s) u := found_trans (found_of_addressed hm) (found_of_readsParts hp)
  have hrun := checkBounds_run (r := r) hm hp
  refine ⟨fun hin => ?_, fun hout => ?_⟩
  · refine completes_of_perform hexec ha (hrun.trans ?_) (fun _ _ => rfl) hf
    simpa using hin
  · refine takes_of_perform hexec ha (hrun.trans ?_) hf
    rw [require_run, if_neg fun hin => ?_]
    obtain ⟨hlow, hhigh⟩ := of_decide_eq_true hin
    rw [begun_reg] at hlow hhigh
    omega

end Sys2Proof.Machine
end

section
/-! PROOFS. CBW, CWDE, CWD, CDQ, SAHF, and CLC, CMC, STC (41_c_d_e_h.md R234, R235, R239, R242, 48_s.md R440, R464). -/

namespace Sys2Proof.Machine

open Sys2Proof.Claims

/-- CBW and CWDE extend the sign of the lower half of the accumulator. -/
theorem cbw_plain_s16 : Plain (.cbw .s16) (fun u => u.setReg .b16 .ax (BitVec.ofInt 16 (u.reg .b8 .ax).toInt)) :=
  plain_of_perform (fun _ => rfl)
    (m := do writeReg .b16 .ax ((← readReg .b8 .ax).signExtend 16)) (fun _ => rfl) fun _ _ => rfl

theorem cbw_plain_s32 : Plain (.cbw .s32) (fun u => u.setReg .b32 .ax (BitVec.ofInt 32 (u.reg .b16 .ax).toInt)) :=
  plain_of_perform (fun _ => rfl)
    (m := do writeReg .b32 .ax ((← readReg .b16 .ax).signExtend 32)) (fun _ => rfl) fun _ _ => rfl

/-- CWD and CDQ fill (E)DX with the sign bit, which is 1 exactly for a negative value. -/
theorem cwd_plain (os : Sz) :
    Plain (.cwd os) (fun u => u.setReg os.width .dx (if (u.reg os.width .ax).toInt < 0 then BitVec.allOnes _ else 0#_)) := by
  refine plain_of_perform (fun _ => rfl) (fun u => ?_) fun _ _ => rfl
  simp only [M.bind_run, readReg_run, writeReg_run, BitVec.msb_eq_toInt, decide_eq_true_eq]

/-- Settles O14: each opcode byte is its whole encoding, and each operation one write of a register or of the flags. -/
theorem conversions : Obligations.Conversions := by
  unfold Obligations.Conversions
  refine ⟨fun os as rest => ⟨?_, ?_, ?_⟩, cbw_plain_s16, cbw_plain_s32, cwd_plain, ?_⟩
  · exact roundTrip os as (.cbw os) rest (decide_eq_true rfl)
  · exact roundTrip os as (.cwd os) rest (decide_eq_true rfl)
  · exact roundTrip os as .sahf rest rfl
  · exact plain_of_perform (fun _ => rfl) (m := do modifyFlags (flagsFromByte (← readReg .b8 .sp))) (fun _ => rfl)
      fun _ _ => rfl

/-- A form that only changes flags. -/
theorem plain_of_modifyFlags {i : Instr} (f : Flags → Flags) (hi : ∀ s, exec i s = perform s false (modifyFlags f)) :
    Plain i (fun u => { u with flags := f u.flags }) :=
  plain_of_perform hi (modifyFlags_run f) fun _ _ => rfl

/-- Settles O35: each opcode byte is its whole encoding, and each operation changes the flags by one function. -/
theorem carryFlag : Obligations.CarryFlag := by
  unfold Obligations.CarryFlag
  refine ⟨fun os as rest => ⟨?_, ?_, ?_⟩, ?_, ?_, ?_⟩
  · exact roundTrip os as .clc rest rfl
  · exact roundTrip os as .cmc rest rfl
  · exact roundTrip os as .stc rest rfl
  · exact plain_of_modifyFlags (fun f => { f with cf := false }) fun _ => rfl
  · exact plain_of_modifyFlags (fun f => { f with cf := !f.cf }) fun _ => rfl
  · exact plain_of_modifyFlags (fun f => { f with cf := true }) fun _ => rfl

end Sys2Proof.Machine
end

section
/-! PROOFS. DIV and IDIV (41_c_d_e_h.md R246, 42_i.md R270). -/

namespace Sys2Proof.Machine

open Sys2Proof.Claims

/-! ## Tests -/

theorem require_passes {c : Bool} (h : c = true) (e : Exc) (s : State) : require c e s = .ok ((), s) := by
  rw [require_run, if_pos h]

theorem require_fails {c : Bool} (h : c = false) (e : Exc) (s : State) : require c e s = .error (.exc e s false) := by
  rw [require_run, h]; rfl

/-! ## The accumulator pair -/

theorem readDouble_run (w : Width) (u : State) : readDouble w u = .ok (dividend u w, u) := by cases w <;> rfl

theorem writePair_run (w : Width) (hi lo : BitVec w.bits) (u : State) :
    writePair w hi lo u = .ok ((), putPair u w hi lo) := by
  cases w <;> rfl

/-- Writing the pair changes general registers alone. -/
theorem putPair_eq (u : State) (w : Width) (hi lo : BitVec w.bits) :
    putPair u w hi lo = { u with regs := (putPair u w hi lo).regs } := by
  cases w <;> rfl

theorem putPair_flags (u : State) (w : Width) (hi lo : BitVec w.bits) : (putPair u w hi lo).flags = u.flags := by
  rw [putPair_eq]

theorem putPair_draws (u : State) (w : Width) (hi lo : BitVec w.bits) : (putPair u w hi lo).draws = u.draws := by
  rw [putPair_eq]

theorem putPair_byte (u : State) (w : Width) (hi lo : BitVec w.bits) (a : Nat) : (putPair u w hi lo).byte a = u.byte a := by
  rw [putPair_eq]; rfl

/-- What a division does once its checks pass: the pair takes remainder and quotient, the status flags are free. -/
theorem writePair_undef_run (w : Width) (hi lo : BitVec w.bits) (u : State) :
    (writePair w hi lo >>= fun _ => undefStatus UndefMask.all) u =
      .ok ((), withFlags (putPair u w hi lo) 1 (undefFlags UndefMask.all (free u 0 6) u.flags)) := by
  simp only [M.bind_run, writePair_run, undefStatus_run, putPair_flags, putPair_draws, withFlags, free, Nat.add_zero]

/-! ## One division -/

/-- The two tests of a division, of its divisor and of its quotient, and what follows them. -/
theorem divide_run {w : Width} (b hi lo : BitVec w.bits) (fits : Prop) [Decidable fits] (u : State) :
    (do
      require (b != 0#w.bits) excDE
      require (decide fits) excDE
      writePair w hi lo
      undefStatus UndefMask.all : M Unit) u =
    if b ≠ 0#w.bits ∧ fits
      then .ok ((), withFlags (putPair u w hi lo) 1 (undefFlags UndefMask.all (free u 0 6) u.flags))
      else .error (.exc excDE u false) := by
  by_cases hz : b = 0#w.bits
  · simp [hz]
  · by_cases hq : fits
    · rw [bind_passes (require_passes (bne_iff_ne.2 hz) _ u), bind_passes (require_passes (decide_eq_true hq) _ u),
        writePair_undef_run, if_pos ⟨hz, hq⟩]
    · rw [bind_passes (require_passes (bne_iff_ne.2 hz) _ u), bind_raises (require_fails (decide_eq_false hq) _ u),
        if_neg fun h => hq h.2]

theorem divUnsigned_ok {w : Width} {b : BitVec w.bits} {u : State} (h : divFits u w b) :
    divUnsigned w b u = .ok ((), divEffect w b u) := by
  rw [divUnsigned, bind_passes (readDouble_run w u), divide_run]
  exact if_pos h

theorem divUnsigned_raises {w : Width} {b : BitVec w.bits} {u : State} (h : ¬ divFits u w b) :
    divUnsigned w b u = .error (.exc excDE u false) := by
  rw [divUnsigned, bind_passes (readDouble_run w u), divide_run]
  exact if_neg h

theorem divSigned_ok {w : Width} {b : BitVec w.bits} {u : State} (h : idivFits u w b) :
    divSigned w b u = .ok ((), idivEffect w b u) := by
  rw [divSigned, bind_passes (readDouble_run w u), divide_run]
  exact if_pos h

theorem divSigned_raises {w : Width} {b : BitVec w.bits} {u : State} (h : ¬ idivFits u w b) :
    divSigned w b u = .error (.exc excDE u false) := by
  rw [divSigned, bind_passes (readDouble_run w u), divide_run]
  exact if_neg h

theorem byte_divEffect (w : Width) (b : BitVec w.bits) (u : State) (a : Nat) : (divEffect w b u).byte a = u.byte a :=
  putPair_byte u w _ _ a

theorem byte_idivEffect (w : Width) (b : BitVec w.bits) (u : State) (a : Nat) : (idivEffect w b u).byte a = u.byte a :=
  putPair_byte u w _ _ a

/-! ## The forms -/

/-- A form that reads an r/m operand and completes where the operation on its value does. -/
theorem readsRm_of_accRm {i : Instr} {w : Width} {rm : Rm} {f : BitVec w.bits → M Unit} {ok : State → BitVec w.bits → Prop}
    {effect : BitVec w.bits → State → State} (hi : ∀ s, exec i s = accRm s w rm f)
    (hf : ∀ {b u}, ok u b → f b u = .ok ((), effect b u)) (hb : ∀ b u a, (effect b u).byte a = u.byte a) :
    ReadsRm i w rm ok effect := by
  intro s p u ha ho hok
  refine completes_of_perform (hi s) ha ?_ (fun a _ => hb _ u a) (found_of_opens ho)
  rw [M.bind_run, readRm_ok ho]
  exact hf hok

/-- The same form where the operation raises an exception. -/
theorem takes_of_accRm {i : Instr} {w : Width} {rm : Rm} {f : BitVec w.bits → M Unit} {s u : State} {p : Place} {e : Exc}
    (hi : exec i s = accRm s w rm f) (ha : Accepts s false) (ho : Opens (begun s) w rm false p u)
    (hf : f (at' u w p) u = .error (.exc e u false)) : Takes i s u e := by
  refine takes_of_perform hi ha ?_ (found_of_opens ho)
  rw [M.bind_run, readRm_ok ho]
  exact hf

/-- Settles O6: both tests of a division pass exactly when its quotient fits, and nothing is written before them. -/
theorem division : Obligations.Division := by
  unfold Obligations.Division
  refine ⟨fun os rm => ⟨?_, ?_, ?_, ?_⟩,
    fun os rm s p u ha => ⟨fun ho => ⟨fun h => ?_, fun h => ?_⟩, fun ho => ⟨fun h => ?_, fun h => ?_⟩⟩⟩
  · exact readsRm_of_accRm (fun _ => rfl) divUnsigned_ok (byte_divEffect _)
  · exact readsRm_of_accRm (fun _ => rfl) divUnsigned_ok (byte_divEffect _)
  · exact readsRm_of_accRm (fun _ => rfl) divSigned_ok (byte_idivEffect _)
  · exact readsRm_of_accRm (fun _ => rfl) divSigned_ok (byte_idivEffect _)
  · exact takes_of_accRm rfl ha ho (divUnsigned_raises h)
  · exact takes_of_accRm rfl ha ho (divSigned_raises h)
  · exact takes_of_accRm rfl ha ho (divUnsigned_raises h)
  · exact takes_of_accRm rfl ha ho (divSigned_raises h)

end Sys2Proof.Machine
end

section
/-! PROOFS. CLD, STD, CLI, STI, CLTS, HLT and LMSW (41_c_d_e_h.md R236 to R238, R248, 48_s.md R465, R466, 44_l.md R337). -/

namespace Sys2Proof.Machine

open Sys2Proof.Claims

/-! ## The privilege tests -/

theorem requireCpl0_ok {s : State} (h : Privileged s) : requireCpl0 s = .ok ((), s) := by
  refine require_passes ?_ _ s
  simpa [Privileged] using h

theorem ioAllowed_iff (s : State) : s.ioAllowed = true ↔ IoAllowed s := by simp [State.ioAllowed, IoAllowed]

theorem requireIo_ok {s : State} (h : IoAllowed s) : requireIo s = .ok ((), s) :=
  require_passes ((ioAllowed_iff s).2 h) _ s

theorem requireIo_raises {s : State} (h : ¬ IoAllowed s) : requireIo s = .error (.exc (excGP 0#16) s false) :=
  require_fails (Bool.eq_false_iff.2 (mt (ioAllowed_iff s).1 h)) _ s

/-- A form whose operation begins with a test that passes exactly where `ok` holds. -/
theorem guarded_of_perform {i : Instr} {ok : State → Prop} {test : M Unit} {m : Unit → M Unit} {effect : State → State}
    (hi : ∀ s, exec i s = perform s false (test >>= m)) (hpass : ∀ s, ok s → test (begun s) = .ok ((), begun s))
    (hraise : ∀ s, ¬ ok s → test (begun s) = .error (.exc (excGP 0#16) (begun s) false))
    (hm : ∀ u, m () u = .ok ((), effect u)) (hb : ∀ u a, (effect u).byte a = u.byte a) : Guarded i ok effect :=
  fun s ha =>
    ⟨fun h => completes_of_perform (hi s) ha ((bind_passes (hpass s h)).trans (hm _)) (fun a _ => hb _ a) (found_refl _),
      fun h => (hi s).trans (perform_raises ha (bind_raises (hraise s h)))⟩

/-- A form for CPL 0 alone. -/
theorem guarded_of_requireCpl0 {i : Instr} {m : Unit → M Unit} {effect : State → State}
    (hi : ∀ s, exec i s = perform s false (requireCpl0 >>= m)) (hm : ∀ u, m () u = .ok ((), effect u))
    (hb : ∀ u a, (effect u).byte a = u.byte a) : Guarded i Privileged effect :=
  guarded_of_perform hi (fun s h => requireCpl0_ok (s := begun s) h) (fun s h => requireCpl0_raises (s := begun s) h) hm hb

/-! ## STI and LMSW -/

/-- STI opens the shadow when IF was 0, unless it runs under one. -/
theorem enableInterrupts_ok {s : State} (h : IoAllowed s) (shadowed : Bool) :
    enableInterrupts shadowed s = .ok ((), { s with
      flags := { s.flags with ie := true }
      inhibit := if s.flags.ie = false ∧ shadowed = false then .sti else s.inhibit }) := by
  rw [enableInterrupts, bind_passes (requireIo_ok h)]
  cases hie : s.flags.ie <;> cases shadowed <;> simp [hie]

theorem sti_completes {s : State} (ha : Accepts s false) (h : IoAllowed s) :
    Completes .sti s (begun s)
      { begun s with
        flags := { s.flags with ie := true }
        inhibit := if s.flags.ie = false ∧ s.inhibit = .none then .sti else .none } [] := by
  have hi : exec .sti s = perform s false (enableInterrupts (s.inhibit ≠ .none)) := rfl
  refine completes_of_perform hi ha ((enableInterrupts_ok (s := begun s) h _).trans ?_) (fun _ _ => rfl) (found_refl _)
  simp only [begun_flags, begun_inhibit, decide_eq_false_iff_not, ne_eq, not_not]

theorem setCr0_run (c : Cr0) (u : State) : setCr0 c u = .ok ((), cr0Set u c) := by
  have hpe : (c.pe != u.cr0.pe) = decide (c.pe ≠ u.cr0.pe) := by cases c.pe <;> cases u.cr0.pe <;> rfl
  simp only [setCr0, M.modify_run, cr0Set, hpe]

theorem loadMsw_run (v : Word) (u : State) : loadMsw v u = .ok ((), mswLoaded v u) := setCr0_run _ u

theorem lmsw_completes {rm : Rm} {s u : State} {p : Place} (ha : Accepts s false) (h : Privileged s)
    (ho : Opens (begun s) .b16 rm false p u) : Completes (.lmsw rm) s u (mswLoaded (at' u .b16 p) u) [] := by
  have hi : exec (.lmsw rm) s = perform s false (requireCpl0 >>= fun _ => readRm .b16 rm >>= loadMsw) := rfl
  refine completes_of_perform hi ha ?_ (fun _ _ => rfl) (found_of_opens ho)
  rw [bind_passes (requireCpl0_ok (s := begun s) h), M.bind_run, readRm_ok ho]
  exact loadMsw_run _ u

/-- Settles O36: every privilege test comes before anything is changed; past it each form is one update of the state. -/
theorem processorControl : Obligations.ProcessorControl := by
  unfold Obligations.ProcessorControl
  refine ⟨?_, ?_, ?_, fun s ha => ⟨sti_completes ha, fun h => ?_⟩,
    ?_, ?_, fun rm s p u ha => ⟨lmsw_completes ha, fun h => ?_⟩⟩
  · exact plain_of_modifyFlags (fun f => { f with df := false }) fun _ => rfl
  · exact plain_of_modifyFlags (fun f => { f with df := true }) fun _ => rfl
  · exact guarded_of_perform (fun _ => rfl) (fun s h => requireIo_ok (s := begun s) h)
      (fun s h => requireIo_raises (s := begun s) h) (modifyFlags_run _) fun _ _ => rfl
  · exact perform_raises ha (bind_raises (requireIo_raises (s := begun s) h))
  · exact guarded_of_requireCpl0 (fun _ => rfl) (M.modify_run _) fun _ _ => rfl
  · exact guarded_of_requireCpl0 (fun _ => rfl) (M.modify_run _) fun _ _ => rfl
  · exact perform_raises ha (bind_raises (requireCpl0_raises (s := begun s) h))

end Sys2Proof.Machine
end

section
/-! PROOFS. ENTER and LEAVE (41_c_d_e_h.md R247, 44_l.md R323). -/

namespace Sys2Proof.Machine

open Sys2Proof.Claims

/-! ## A general register beside another one -/

theorem homeOf_width (os : Sz) (r : Reg) : homeOf os.width r = r := by
  cases os with
  | s16 => exact homeOf_b16 r
  | s32 => exact homeOf_b32 r

theorem reg_setReg_other (s : State) (w : Width) (os : Sz) {r q : Reg} (v : BitVec w.bits) (h : q ≠ homeOf w r) :
    (s.setReg w r v).reg os.width q = s.reg os.width q := by
  have hget : (s.setReg w r v).reg .b32 q = s.reg .b32 q := get_write_other s.regs w v h
  rw [reg_width, reg_width s, hget]

theorem reg_setReg_same (s : State) (os : Sz) (r : Reg) (v : BitVec os.width.bits) :
    (s.setReg os.width r v).reg os.width r = v := by
  cases os with
  | s16 =>
    show ((s.regs.set r (setLow16 (s.regs.get r) v)).get r).setWidth 16 = v
    rw [get_set_same, setLow16, setWidth_append_low]
  | s32 => exact get_set_same s.regs r v

theorem sp_setReg_bp (s : State) (os : Sz) (v : BitVec os.width.bits) : (s.setReg os.width .bp v).sp = s.sp := by
  cases os <;> rfl

/-- A push changes no general register but SP. -/
theorem reg_pushed {u : State} {sz : Sz} (os : Sz) (as : List Nat) (v : Dword) {r : Reg} (h : r ≠ .sp) :
    (pushed u sz as v).reg os.width r = u.reg os.width r :=
  (reg_setReg_other _ _ os _ (by rwa [homeOf_width])).trans (setBytes_reg ..)

/-! ## Descending the stack -/

/-- From `u` to `v` the stack pointer goes down `k` elements; nothing else that a stack access depends on changes, nor any byte
outside those elements. -/
structure Descends (sz : Sz) (k : Nat) (u v : State) : Prop where
  cr0 : v.cr0 = u.cr0
  flags : v.flags = u.flags
  ss : v.ss = u.ss
  sp : v.sp = below u sz k
  byte : ∀ a, a ∉ slots u sz k → v.byte a = u.byte a

theorem truncSz_truncSz (z : Sz) (a : Dword) : truncSz z (truncSz z a) = truncSz z a := by
  simpa only [BitVec.ofNat_eq_ofNat, BitVec.sub_zero] using truncSz_truncSz_sub z a 0

theorem below_zero (u : State) (sz : Sz) : below u sz 0 = u.sp := by
  simp only [below, Nat.mul_zero, BitVec.sub_zero, sp_trunc]

theorem below_one (u : State) (sz : Sz) : below u sz 1 = truncSz u.ssSize (u.sp - BitVec.ofNat 32 sz.bytes) := by
  rw [below, Nat.mul_one]

namespace Descends

section
variable {sz : Sz} {j k : Nat} {u v w : State}

theorem mode (h : Descends sz k u v) : v.mode = u.mode := by simp only [State.mode, h.cr0, h.flags]

theorem ssSize (h : Descends sz k u v) : v.ssSize = u.ssSize := by simp only [State.ssSize, h.mode, h.ss]

theorem linear (h : Descends sz k u v) (off : Dword) : v.linear .ss off = u.linear .ss off := by
  simp only [State.linear, State.seg, h.ss]

theorem accessExc (h : Descends sz k u v) (off : Dword) (n : Nat) (wr : Bool) :
    v.accessExc .ss off n wr = u.accessExc .ss off n wr := by
  have hlimit : v.limitExc .ss = u.limitExc .ss := by unfold State.limitExc; rw [h.mode]
  have hseg : v.seg .ss = u.seg .ss := h.ss
  rw [State.accessExc, State.accessExc, hlimit, hseg, h.mode]

theorem below_eq (h : Descends sz k u v) (i : Nat) : below v sz i = below u sz (k + i) := by
  rw [below, h.ssSize, h.sp, below, truncSz_sub, ← Nat.mul_add, below]

theorem slot_eq (h : Descends sz k u v) (i : Nat) : slot v sz i = slot u sz (k + i) := by
  rw [slot, h.linear, h.below_eq, slot]

theorem slots_add (h : Descends sz j u v) (k : Nat) : slots u sz (j + k) = slots u sz j ++ slots v sz k := by
  simp only [slots, List.range_add, List.flatMap_append, List.flatMap_map, h.slot_eq, Nat.add_assoc]

theorem room (h : Descends sz j u v) (hr : Room u sz (j + k)) : Room v sz k := by
  intro i hi
  rw [h.accessExc, h.below_eq]
  exact hr (j + i) (by omega)

theorem trans (h : Descends sz j u v) (h' : Descends sz k v w) : Descends sz (j + k) u w where
  cr0 := h'.cr0.trans h.cr0
  flags := h'.flags.trans h.flags
  ss := h'.ss.trans h.ss
  sp := h'.sp.trans (h.below_eq k)
  byte a ha := by
    rw [h.slots_add, List.mem_append, not_or] at ha
    exact (h'.byte a ha.2).trans (h.byte a ha.1)

end

end Descends

theorem descends_setBp (u : State) (sz os : Sz) (v : BitVec os.width.bits) : Descends sz 0 u (u.setReg os.width .bp v) where
  cr0 := rfl
  flags := rfl
  ss := rfl
  sp := (sp_setReg_bp u os v).trans (below_zero u sz).symm
  byte _ _ := rfl

theorem descends_pushed (u : State) (sz : Sz) (v : Dword) : Descends sz 1 u (pushed u sz (slot u sz 1) v) where
  cr0 := setBytes_cr0 ..
  flags := setBytes_flags ..
  ss := setBytes_ss ..
  sp := by
    have hsize : (u.setBytes (slot u sz 1) (leBytes sz.bytes v)).ssSize = u.ssSize := by
      rw [setBytes_eq]; rfl
    rw [pushed, setSp_sp, hsize, below, truncSz_truncSz]
  byte a ha := byte_setBytes_other (by simpa [slots] using ha)

/-- A push that has room, paging off. -/
theorem push_room {u : State} {sz : Sz} (hp : u.cr0.pg = false) (hr : Room u sz 1) (v : Dword) :
    push sz v u = .ok ((), pushed u sz (slot u sz 1) v) := by
  have hopen := hr 0 Nat.one_pos
  rw [Nat.zero_add, below_one] at hopen
  rw [push_off hp hopen, ← below_one]
  rfl

/-! ## The display -/

/-- The state with the frame pointer one element lower. -/
def frameLowered (os : Sz) (u : State) : State :=
  u.setReg os.width .bp (u.reg os.width .bp - BitVec.ofNat _ os.bytes)

/-- The subtraction may be made at 32 bits and cut to the operand size. -/
theorem setReg_bp_lowered (os : Sz) (u : State) :
    u.setReg os.width .bp (((u.reg os.width .bp).setWidth 32 - BitVec.ofNat 32 os.bytes).setWidth _) = frameLowered os u := by
  refine congrArg (u.setReg os.width .bp) ?_
  cases os <;> simp only [Sz.width, Width.bits, Sz.bytes] <;> bv_omega

/-- The offset the frame pointer points to. -/
def frameOffset (os : Sz) (v : State) : Dword := truncSz v.ssSize ((v.reg os.width .bp).setWidth 32)

/-- The bytes of the element there. -/
def frameBytes (os : Sz) (v : State) : List Byte := (span (v.linear .ss (frameOffset os v)) os.bytes).map v.byte

/-- One display entry copied. -/
def entryCopied (os : Sz) (u : State) : State :=
  pushed (frameLowered os u) os (slot (frameLowered os u) os 1) (leValue 32 (frameBytes os (frameLowered os u)))

theorem copied_succ (os : Sz) (k : Nat) (u : State) : copied os (k + 1) u = copied os k (entryCopied os u) := rfl

theorem descends_entryCopied (os : Sz) (u : State) : Descends os 1 u (entryCopied os u) :=
  (descends_setBp u os os _).trans (descends_pushed _ os _)

theorem descends_copied (os : Sz) (k : Nat) (u : State) : Descends os k u (copied os k u) := by
  induction k generalizing u with
  | zero => exact ⟨rfl, rfl, rfl, (below_zero u os).symm, fun _ _ => rfl⟩
  | succ k ih =>
    rw [copied_succ, Nat.add_comm]
    exact (descends_entryCopied os u).trans (ih _)

theorem reg_bp_frameLowered (os : Sz) (u : State) :
    (frameLowered os u).reg os.width .bp = u.reg os.width .bp - BitVec.ofNat _ os.bytes := reg_setReg_same u os .bp _

theorem reg_bp_entryCopied (os : Sz) (u : State) :
    (entryCopied os u).reg os.width .bp = u.reg os.width .bp - BitVec.ofNat _ os.bytes :=
  (reg_pushed os _ _ (by decide)).trans (reg_bp_frameLowered os u)

/-- Where the frame pointer is `m` elements lower, the entries still to be read are the ones below it. -/
theorem displayReadable_descends {os : Sz} {j m k : Nat} {u v : State} (hd : Descends os j u v)
    (hbp : v.reg os.width .bp = u.reg os.width .bp - BitVec.ofNat _ (os.bytes * m)) (h : DisplayReadable u os (m + k)) :
    DisplayReadable v os k := by
  intro i hi
  rw [hd.accessExc, hd.ssSize, hbp, BitVec.sub_sub, ← BitVec.ofNat_add, ← Nat.mul_add]
  exact h (m + i) (by omega)

/-- One copy: the frame pointer goes down, and what it then points to is pushed. -/
theorem copyDisplay_succ_run {os : Sz} {k : Nat} {u : State} (hp : u.cr0.pg = false) (hroom : Room u os (k + 1))
    (hread : DisplayReadable u os (k + 1)) : copyDisplay os (k + 1) u = copyDisplay os k (entryCopied os u) := by
  have hd : Descends os 0 u (frameLowered os u) := descends_setBp u os os _
  have hopen := hread 0 (Nat.succ_pos k)
  rw [Nat.zero_add, Nat.mul_one, ← reg_bp_frameLowered, ← hd.ssSize, ← hd.accessExc] at hopen
  have hbytes : memBytes .ss (frameOffset os (frameLowered os u)) os.bytes (frameLowered os u) =
      .ok (frameBytes os (frameLowered os u), frameLowered os u) := memBytes_off hp hopen
  have hpush := push_room (u := frameLowered os u) hp (hd.room fun i hi => hroom i (by omega))
    (leValue 32 (frameBytes os (frameLowered os u)))
  unfold frameOffset at hbytes
  simp only [copyDisplay, M.bind_run, readRegSz_run, writeRegSz_run, M.get_run, setReg_bp_lowered, hbytes, hpush]
  rfl

theorem copyDisplay_run {os : Sz} {k : Nat} {u : State} (hp : u.cr0.pg = false) (hroom : Room u os k)
    (hread : DisplayReadable u os k) : copyDisplay os k u = .ok ((), copied os k u) := by
  induction k generalizing u with
  | zero => rfl
  | succ k ih =>
    have hd := descends_entryCopied os u
    rw [copyDisplay_succ_run hp hroom hread, copied_succ]
    refine ih (by rw [hd.cr0]; exact hp) (hd.room (by rwa [Nat.add_comm])) (displayReadable_descends (m := 1) hd ?_ ?_)
    · rw [reg_bp_entryCopied, Nat.mul_one]
    · rwa [Nat.add_comm]

/-! ## ENTER -/

/-- The first push of ENTER: (E)BP. -/
def bpPushed (os : Sz) (b : State) : State := pushed b os (slot b os 1) ((b.reg os.width .bp).setWidth 32)

theorem descends_bpPushed (os : Sz) (b : State) : Descends os 1 b (bpPushed os b) := descends_pushed b os _

theorem reg_bp_bpPushed (os : Sz) (b : State) : (bpPushed os b).reg os.width .bp = b.reg os.width .bp :=
  reg_pushed os _ _ (by decide)

/-- All pushes of ENTER at level `n`: above level 0 the display and the frame's offset follow (E)BP. -/
def framePushed (os : Sz) (n : Nat) (b : State) : State :=
  if n = 0 then bpPushed os b else
    let d := copied os (n - 1) (bpPushed os b)
    pushed d os (slot d os 1) (below b os 1)

theorem framePushed_succ (os : Sz) (n : Nat) (b : State) :
    framePushed os (n + 1) b =
      pushed (copied os n (bpPushed os b)) os (slot (copied os n (bpPushed os b)) os 1) (below b os 1) := rfl

/-- The end of ENTER: (E)BP takes the frame's offset, and the locals get their room. -/
theorem enterEffect_eq (os : Sz) (locals : Word) (n : Nat) (b : State) :
    enterEffect os locals n b =
      let w := (framePushed os n b).setReg os.width .bp ((below b os 1).setWidth _)
      w.setSp (w.sp - locals.setWidth 32) := rfl

theorem descends_framePushed (os : Sz) (n : Nat) (b : State) : Descends os (n + 1) b (framePushed os n b) := by
  cases n with
  | zero => exact descends_bpPushed os b
  | succ n =>
    rw [framePushed_succ, Nat.add_comm n 1]
    exact ((descends_bpPushed os b).trans (descends_copied os n _)).trans (descends_pushed _ os _)

theorem byte_enterEffect_other {os : Sz} {n : Nat} {b : State} (locals : Word) {a : Nat} (ha : a ∉ slots b os (n + 1)) :
    (enterEffect os locals n b).byte a = b.byte a := by
  rw [enterEffect_eq, setSp_byte, setReg_byte]
  exact (descends_framePushed os n b).byte a ha

theorem enterFrame_run {os : Sz} {locals : Word} {level : Byte} {b : State} (hp : b.cr0.pg = false)
    (hroom : Room b os (level.toNat % 32 + 1)) (hread : DisplayReadable b os (level.toNat % 32 - 1)) :
    enterFrame os locals level b = .ok ((), enterEffect os locals (level.toNat % 32) b) := by
  have hfirst := descends_bpPushed os b
  have hpush : push os ((b.reg os.width .bp).setWidth 32) b = .ok ((), bpPushed os b) :=
    push_room hp (fun i hi => hroom i (by omega)) _
  rw [enterEffect_eq]
  simp only [enterFrame, M.bind_run, readRegSz_run, hpush, M.get_run, hfirst.sp]
  generalize level.toNat % 32 = n at hroom hread
  cases n with
  | zero => rfl
  | succ n =>
    have hcopied := hfirst.trans (descends_copied os n _)
    have hread : DisplayReadable (bpPushed os b) os n :=
      displayReadable_descends (m := 0) hfirst (by simp [reg_bp_bpPushed]) (by rwa [Nat.zero_add])
    have hcopy := copyDisplay_run (by rw [hfirst.cr0]; exact hp) (hfirst.room fun i hi => hroom i (by omega)) hread
    have hlast := push_room (by rw [hcopied.cr0]; exact hp) (hcopied.room fun i hi => hroom i (by omega)) (below b os 1)
    simp only [Nat.succ_pos, if_true, M.bind_run, Nat.add_sub_cancel, hcopy, hlast, writeRegSz_run, M.modify_run]
    rfl

/-! ## LEAVE -/

/-- LEAVE reads at (E)BP, sets the stack pointer above that and (E)BP to what it read. -/
theorem leaveFrame_run {os : Sz} {b u : State} {as : List Nat} (h : OpensMem b .ss (leaveOffset b) os.bytes false as u) :
    leaveFrame os b = .ok ((),
      (u.setSp (leaveOffset b + BitVec.ofNat 32 os.bytes)).setReg os.width .bp (leValue _ (as.map u.byte))) := by
  have h : openMem .ss (leaveOffset b) os.bytes false b = .ok (as, u) := h
  have hbits : os.width.bits ≤ 32 := by cases os <;> decide
  unfold leaveOffset at h ⊢
  simp only [leaveFrame, M.bind_run, M.get_run, readRegSz_run, memBytes, h, readPhys_run, setStackPtr_run, writeRegSz_run,
    leValue_setWidth hbits]

/-- Settles O19: ENTER is a sequence of pushes, each one element below the last, and copies read below the old frame pointer. -/
theorem frames : Obligations.Frames := by
  unfold Obligations.Frames
  refine fun os s ha => ⟨fun w b hp hroom hread => ?_, fun as u ho => ?_⟩
  · exact completes_of_perform rfl ha (enterFrame_run (b := begun s) hp hroom hread)
      (fun a hn => byte_enterEffect_other w hn) (found_refl _)
  · exact completes_of_perform rfl ha (leaveFrame_run (b := begun s) ho) (fun _ _ => rfl) (found_of_opensMem ho)

end Sys2Proof.Machine
end

section
/-! PROOFS. INC, DEC, NEG and NOT (42_i.md R273, 41_c_d_e_h.md R245, 45_m_n_o.md R373, R375). -/

namespace Sys2Proof.Machine

open Sys2Proof.Claims

/-- The operation of the model that each of the four instructions performs on its operand. -/
def unaryOn {n : Nat} : UnaryOp → BitVec n → M (BitVec n)
  | .inc => incr
  | .dec => decr
  | .neg => negate
  | .not => complement

/-- It answers its result and leaves its flags. -/
theorem unaryOn_run {n : Nat} (op : UnaryOp) (a : BitVec n) (u : State) :
    unaryOn op a u = .ok (unaryValue op a, withFlags u 0 (unaryFlags op a u.flags)) := by
  have hvalue : (match op with
      | .inc => addResult a 1#n false | .dec => subResult a 1#n false | .neg => subResult 0#n a false | .not => ~~~a) =
      unaryValue op a := by
    cases op with
    | inc => exact addResult_false a _
    | dec => exact subResult_false a _
    | neg => exact (subResult_false _ a).trans (BitVec.zero_sub a)
    | not => rfl
  rw [← hvalue]
  cases op <;> rfl

theorem updateRm_unaryOn {b u : State} {w : Width} {op : UnaryOp} {rm : Rm} {p : Place} (h : Opens b w rm true p u) :
    updateRm w rm (unaryOn op) b = .ok ((), unaryEffect w op p u) := by
  have h : openRm w rm true b = .ok (p, u) := h
  simp only [updateRm, M.bind_run, h, readPlace_run, unaryOn_run, writePlace_run, unaryEffect]

/-- A form with an r/m operand. -/
theorem unaryRm_completes {i : Instr} {w : Width} {op : UnaryOp} {rm : Rm} {s u : State} {p : Place}
    (hi : exec i s = unaryRm s w rm (unaryOn op)) (ha : Accepts s (isMem rm)) (ho : Opens (begun s) w rm true p u) :
    Completes i s u (unaryEffect w op p u) (bytesOf p) :=
  completes_of_perform hi ha (updateRm_unaryOn ho) (fun _ hn => byte_put_other _ hn) (found_of_opens ho)

/-- A form with a register in its opcode. -/
theorem updateReg_plain {i : Instr} {w : Width} {op : UnaryOp} {r : Reg}
    (hi : ∀ s, exec i s = perform s false (updateReg w r (unaryOn op))) : Plain i (unaryEffect w op (.reg r)) := by
  refine plain_of_perform hi (fun u => ?_) fun _ _ => rfl
  simp only [updateReg, M.bind_run, readReg_run, unaryOn_run, writeReg_run]
  rfl

theorem exec_unaryRm8 (op : UnaryOp) (rm : Rm) (s : State) : exec (unaryRm8 op rm) s = unaryRm s .b8 rm (unaryOn op) := by
  cases op <;> rfl

theorem exec_unaryRmSz (op : UnaryOp) (os : Sz) (rm : Rm) (s : State) :
    exec (unaryRmSz op os rm) s = unaryRm s os.width rm (unaryOn op) := by
  cases op <;> rfl

/-- Settles O3: every form finds its operand, performs one operation on it and writes the result back. -/
theorem unaryOperations : Obligations.UnaryOperations := by
  unfold Obligations.UnaryOperations
  exact ⟨fun op rm s _ _ ha ho => unaryRm_completes (exec_unaryRm8 op rm s) ha ho,
    fun op os rm s _ _ ha ho => unaryRm_completes (exec_unaryRmSz op os rm s) ha ho,
    fun os r => ⟨updateReg_plain fun _ => rfl, updateReg_plain fun _ => rfl⟩⟩

end Sys2Proof.Machine
end

section
/-! PROOFS. IN and OUT, and the I/O permission map (42_i.md R272, R276, 45_m_n_o.md R381). -/

namespace Sys2Proof.Machine

open Sys2Proof.Claims

/-! ## The permission test -/

theorem portFree_iff (s : State) : PortFree s ↔ ¬ (s.cr0.pe = true ∧ (s.flags.vm = true ∨ s.flags.iopl < s.cpl)) := by
  simp only [PortFree, not_and, not_or, Bool.not_eq_true, BitVec.not_lt]
  cases s.cr0.pe <;> simp

/-- The `n` bits of the map from bit `k` on are all 0. -/
theorem extractLsb'_eq_zero_iff {m : Nat} (v : BitVec m) (k n : Nat) :
    v.extractLsb' k n = 0#n ↔ ∀ i, i < n → v.getLsbD (k + i) = false := by
  rw [BitVec.eq_of_getLsbD_eq_iff]
  refine forall_congr' fun i => imp_congr_right fun hi => ?_
  simp [hi]

/-- The word that `linRead` reads, paging off. -/
theorem linRead_word {s : State} (hp : s.cr0.pg = false) (a : Dword) : linRead a 2 s = .ok (wordAt s a, s) := linRead_off hp a 2

/-- The map is looked at in an 80386 TSS alone, and only where both its bytes lie within the limit. -/
theorem ioPermission_run {s : State} (hp : s.cr0.pg = false) (port : Word) (n : Nat) :
    ∃ c, ioPermission port n s = .ok (c, s) ∧ (c = true ↔ Mapped s port n) := by
  simp only [ioPermission, Mapped, M.bind_run, M.get_run, M.ite_run]
  by_cases ht : s.tr.typ = 9#4 ∨ s.tr.typ = 11#4
  · simp only [if_pos ht, linRead_word hp, M.pure_run]
    by_cases hl : (wordAt s (s.tr.base + 0x66#32)).toNat + port.toNat / 8 + 1 ≤ s.tr.limit.toNat
    · simp only [if_pos hl]
      exact ⟨_, rfl, by simp only [beq_iff_eq, extractLsb'_eq_zero_iff, ht, hl, true_and]⟩
    · exact ⟨false, by rw [if_neg hl], by simp [hl]⟩
  · exact ⟨false, by rw [if_neg ht]; rfl, by simp [ht]⟩

theorem checkPort_ok {s : State} {port : Word} {w : Width} (h : PortAllowed s port w.bytes) :
    checkPort port w s = .ok ((), s) := by
  simp only [checkPort, M.bind_run, M.get_run, M.ite_run]
  by_cases hf : PortFree s
  · rw [if_neg ((portFree_iff s).1 hf), M.pure_run]
  · obtain ⟨hp, hm⟩ := h.resolve_left hf
    obtain ⟨c, hc, hiff⟩ := ioPermission_run hp port w.bytes
    rw [if_pos (by_contra fun h => hf ((portFree_iff s).2 h)), hc, hiff.2 hm]
    rfl

theorem checkPort_raises {s : State} {port : Word} {w : Width} (h : PortDenied s port w.bytes) :
    checkPort port w s = .error (.exc (excGP 0#16) s false) := by
  obtain ⟨hf, hp, hm⟩ := h
  obtain ⟨c, hc, hiff⟩ := ioPermission_run hp port w.bytes
  have hdenied : c = false := Bool.eq_false_iff.2 (mt hiff.1 hm)
  simp only [checkPort, M.bind_run, M.get_run, M.ite_run, hc, hdenied, require_run]
  rw [if_pos (by_contra fun h => hf ((portFree_iff s).2 h))]
  rfl

/-! ## The forms -/

/-- A form of IN, whose operation reads a port. -/
theorem inputs_of_perform {i : Instr} {w : Width} {port : State → Word} {m : M Unit}
    (hi : ∀ s, exec i s = perform s false m) (hm : ∀ s, m (begun s) = inPort w (port s) (begun s)) : Inputs i w port := by
  refine fun s ha => ⟨fun h => ?_, fun h => ?_⟩
  · refine completes_of_perform (hi s) ha ?_ (fun _ _ => rfl) (found_refl _)
    rw [hm, inPort, bind_passes (checkPort_ok h)]
    rfl
  · exact (hi s).trans (perform_raises ha ((hm s).trans (bind_raises (checkPort_raises h))))

/-- A form of OUT, whose operation writes the accumulator to a port. -/
theorem outputs_of_perform {i : Instr} {w : Width} {port : State → Word} {m : M Unit}
    (hi : ∀ s, exec i s = perform s false m) (hm : ∀ s, m (begun s) = outPort w (port s) (begun s)) : Outputs i w port := by
  refine fun s ha => ⟨fun h => ?_, fun h => ?_⟩
  · refine completes_of_perform (hi s) ha ?_ (fun _ _ => rfl) (found_refl _)
    rw [hm, outPort, bind_passes (checkPort_ok h)]
    rfl
  · exact (hi s).trans (perform_raises ha ((hm s).trans (bind_raises (checkPort_raises h))))

/-- Settles O28: every form names its port, tests the permission and then makes one access. -/
theorem portMoves : Obligations.PortMoves := by
  unfold Obligations.PortMoves
  exact fun os b => ⟨inputs_of_perform (fun _ => rfl) fun _ => rfl, inputs_of_perform (fun _ => rfl) fun _ => rfl,
    inputs_of_perform (fun _ => rfl) fun _ => rfl, inputs_of_perform (fun _ => rfl) fun _ => rfl,
    outputs_of_perform (fun _ => rfl) fun _ => rfl, outputs_of_perform (fun _ => rfl) fun _ => rfl,
    outputs_of_perform (fun _ => rfl) fun _ => rfl, outputs_of_perform (fun _ => rfl) fun _ => rfl⟩

end Sys2Proof.Machine
end

section
/-! PROOFS. Selectors, descriptors and the loading of segment registers, paging off, in the words of the statements (20_memory.md
R85 to R88, R98, R99, 10_state.md R41). -/

namespace Sys2Proof.Machine

open Sys2Proof.Claims

/-! ## Operations in sequence -/

theorem bind_completes {α β : Type} {m : M α} {f : α → M β} {s t : State} {a : α} (h : m s = .ok (a, t)) :
    (m >>= f) s = f a t := by rw [M.bind_run, h]

theorem bind_error {α β : Type} {m : M α} {f : α → M β} {s : State} {x : Stop} (h : m s = .error x) :
    (m >>= f) s = .error x := by rw [M.bind_run, h]

/-- Two tests in a row that raise the same exception are one test. -/
theorem require_require {α : Type} (a b : Bool) (e : Exc) (f : M α) :
    (require a e >>= fun _ => require b e >>= fun _ => f) = (require (a && b) e >>= fun _ => f) := by
  funext s
  cases a <;> simp

/-! ## Selectors -/

theorem selRpl_eq (sel : Word) : selRpl sel = rplOf sel := by
  apply BitVec.eq_of_toNat_eq
  simp [selRpl, rplOf, BitVec.extractLsb'_toNat]

theorem selInTable_iff (s : State) (sel : Word) : s.selInTable sel = true ↔ InTable s sel := by
  have hoff : (selOffset sel).toNat = sel.toNat / 8 * 8 := by
    have := sel.isLt
    rw [selOffset_eq, BitVec.toNat_ofNat]
    omega
  unfold State.selInTable InTable
  rw [hoff]
  cases h : sel.getLsbD 2 <;> simp only [selTI, h, Bool.false_eq_true, if_false, if_true, Bool.and_eq_true, decide_eq_true_eq]

theorem descAddr_eq (s : State) (sel : Word) : s.descAddr sel = descAddress s sel := by
  rw [State.descAddr, descAddress, selOffset_eq]
  rfl

theorem toNat_withRpl (sel : Word) (l : BitVec 2) : (withRpl sel l).toNat = sel.toNat / 4 * 4 + l.toNat := by
  have hl : l.toNat < 2 ^ 2 := l.isLt
  have := sel.isLt
  rw [withRpl, BitVec.toNat_append, ← Nat.shiftLeft_add_eq_or_of_lt hl, BitVec.extractLsb'_toNat, Nat.shiftLeft_eq,
    Nat.shiftRight_eq_div_pow]
  omega

/-- The RPL has no part in where the descriptor of a selector stands. -/
theorem descAddress_withRpl (s : State) (sel : Word) (l : BitVec 2) :
    descAddress s (withRpl sel l) = descAddress s sel := by
  have hl := l.isLt
  have hindex : (withRpl sel l).toNat / 8 = sel.toNat / 8 := by rw [toNat_withRpl]; omega
  have htable : (withRpl sel l).getLsbD 2 = sel.getLsbD 2 := by
    rw [withRpl, BitVec.getLsbD_append]
    simp
  rw [descAddress, hindex, htable, descAddress]

theorem descAddress_congr {s t : State} (hg : t.gdtr = s.gdtr) (hl : t.ldtr = s.ldtr) (sel : Word) :
    descAddress t sel = descAddress s sel := by simp only [descAddress, hg, hl]

theorem accessedByte_congr {s t : State} (hg : t.gdtr = s.gdtr) (hl : t.ldtr = s.ldtr) (sel : Word) (d : Desc) :
    accessedByte t sel d = accessedByte s sel d := by simp only [accessedByte, descAddress_congr hg hl]

theorem accessedByte_withRpl (s : State) (sel : Word) (l : BitVec 2) (d : Desc) :
    accessedByte s (withRpl sel l) d = accessedByte s sel d := by simp only [accessedByte, descAddress_withRpl]

/-! ## Descriptors -/

/-- Consecutive addresses in two parts. -/
theorem spanOf_add (a : Dword) (m n : Nat) : spanOf a (m + n) = spanOf a m ++ spanOf (a + BitVec.ofNat 32 m) n := by
  simp only [spanOf, List.range_add, List.map_append, List.map_map]
  refine congrArg _ (List.map_congr_left fun i _ => ?_)
  rw [Function.comp_apply, BitVec.ofNat_add, BitVec.add_assoc]

/-- The word that `linRead` reads, paging off. -/
theorem linRead_dword {s : State} (hp : s.cr0.pg = false) (a : Dword) : linRead a 4 s = .ok (dwordAt s a, s) :=
  linRead_off hp a 4

theorem readDescAt_run {s : State} (hp : s.cr0.pg = false) (a : Dword) :
    readDescAt a s = .ok ({ lo := dwordAt s a, hi := dwordAt s (a + 4#32) }, s) := by
  have hspan : spanOf a 8 = spanOf a 4 ++ spanOf (a + 4#32) 4 := spanOf_add a 4 4
  rw [readDescAt_off hp, hspan, List.map_append, List.take_left' (by simp), List.drop_left' (by simp)]
  rfl

theorem readDesc_run {s : State} (hp : s.cr0.pg = false) (sel : Word) : readDesc sel s = .ok (descAt s sel, s) := by
  rw [readDesc_eq, readDescAt_run hp, descAddr_eq]
  rfl

theorem fetchDesc_run {s : State} (hp : s.cr0.pg = false) {sel : Word} (e : Exc) (h : InTable s sel) :
    fetchDesc sel e s = .ok (descAt s sel, s) := by
  rw [fetchDesc_ok e ((selInTable_iff s sel).2 h), readDesc_run hp]

theorem fetchDesc_raises {s : State} {sel : Word} (e : Exc) (h : ¬ InTable s sel) :
    fetchDesc sel e s = .error (.exc e s false) :=
  fetchDesc_exc (Bool.eq_false_iff.2 (mt (selInTable_iff s sel).1 h))

/-- The checks of a selector in the order of the listings: it is not null, its descriptor lies in its table, is of the kind `ok`
and present. -/
def checkedDesc (sel : Word) (null bad absent : Exc) (ok : Desc → Bool) : M Desc := do
  require (!selNull sel) null
  let d ← fetchDesc sel bad
  require (ok d) bad
  require d.p absent
  return d

section
variable {s : State} {sel : Word} {null bad absent : Exc} {ok : Desc → Bool} {kind : Desc → Prop}

theorem checkedDesc_ok (hk : ∀ d, ok d = true ↔ kind d) (hp : s.cr0.pg = false) {d : Desc} (h : Named s sel kind d) :
    checkedDesc sel null bad absent ok s = .ok (d, s) := by
  obtain ⟨hn, ht, rfl, hd, hpr⟩ := h
  have hnull : (!selNull sel) = true := by simpa using mt (selNull_iff sel).1 hn
  rw [checkedDesc, bind_passes (require_passes hnull _ _), bind_passes (fetchDesc_run hp _ ht),
    bind_passes (require_passes ((hk _).2 hd) _ _), bind_passes (require_passes hpr _ _), M.pure_run]

theorem checkedDesc_raises (hk : ∀ d, ok d = true ↔ kind d) (hp : s.cr0.pg = false) {e : Exc}
    (h : NameFails s sel kind null bad absent e) : checkedDesc sel null bad absent ok s = .error (.exc e s false) := by
  rcases h with ⟨hn, rfl⟩ | ⟨hn, hbad, rfl⟩ | ⟨hn, ht, hd, hpr, rfl⟩
  · have hnull : (!selNull sel) = false := by simpa using (selNull_iff sel).2 hn
    exact bind_raises (require_fails hnull _ _)
  · have hnull : (!selNull sel) = true := by simpa using mt (selNull_iff sel).1 hn
    rw [checkedDesc, bind_passes (require_passes hnull _ _)]
    by_cases ht : InTable s sel
    · have hd : ok (descAt s sel) = false := Bool.eq_false_iff.2 fun h => hbad ⟨ht, (hk _).1 h⟩
      rw [bind_passes (fetchDesc_run hp _ ht)]
      exact bind_raises (require_fails hd _ _)
    · exact bind_raises (fetchDesc_raises _ ht)
  · have hnull : (!selNull sel) = true := by simpa using mt (selNull_iff sel).1 hn
    rw [checkedDesc, bind_passes (require_passes hnull _ _), bind_passes (fetchDesc_run hp _ ht),
      bind_passes (require_passes ((hk _).2 hd) _ _)]
    exact bind_raises (require_fails hpr _ _)

end

/-! ## Kinds of descriptors -/

theorem atLevel_iff (level : BitVec 2) (c : Desc) :
    (c.isCode && if c.conforming then decide (c.dpl ≤ level) else decide (c.dpl = level)) = true ↔ AtLevel level c := by
  unfold AtLevel
  cases c.conforming <;> simp

theorem stackAt_iff (sel : Word) (level : BitVec 2) (d : Desc) :
    (decide (selRpl sel = level) && d.writable && decide (d.dpl = level)) = true ↔ StackAt sel level d := by
  simp only [StackAt, selRpl_eq, Bool.and_eq_true, decide_eq_true_eq]
  tauto

/-- A code segment holds the offsets up to its limit. -/
theorem toSeg_holds_iff {c : Desc} (h : c.isCode = true) (sel : Word) (off : Dword) :
    (c.toSeg sel).holds off.toNat 1 = true ↔ Within c off := by
  have hdown : (c.toSeg sel).expandDown = false := by
    simp only [Desc.isCode, Bool.and_eq_true] at h
    simp [SegReg.expandDown, Desc.toSeg, h]
  rw [SegReg.holds, hdown]
  simp [Within, Desc.toSeg]

theorem checkCodeLimit_ok {c : SegReg} {off : Dword} (h : c.holds off.toNat 1 = true) (s : State) :
    checkCodeLimit c off s = .ok ((), s) := by rw [checkCodeLimit, if_pos h, M.pure_run]

theorem checkCodeLimit_raises {c : SegReg} {off : Dword} (h : ¬ c.holds off.toNat 1 = true) (s : State) :
    checkCodeLimit c off s = .error (.exc (excGP 0#16) s false) := by rw [checkCodeLimit, if_neg h, raise_run]

/-! ## Loading a segment register -/

theorem loadSeg_run {s : State} (hp : s.cr0.pg = false) (r : Sreg) (sel : Word) (d : Desc) :
    loadSeg r sel d s = .ok ((), segLoaded s r sel d) := by
  have hbyte : leBytes 1 (d.hi.extractLsb' 8 8 ||| 1#8) = [d.hi.extractLsb' 8 8 ||| 1#8] := by simp [leBytes]
  rw [loadSeg_off hp, segLoaded, accessedByte, descAddr_eq, hbyte]
  cases d.typ.getLsbD 0
  · rfl
  · simp only [if_true, setBytes_nil]
    rfl

theorem loadRealSeg_run (r : Sreg) (sel : Word) (s : State) : loadRealSeg r sel s = .ok ((), realSeg s r sel) := by
  have hbase : sel.setWidth 32 <<< 4 = BitVec.ofNat 32 (sel.toNat * 16) := by
    apply BitVec.eq_of_toNat_eq
    have := sel.isLt
    rw [BitVec.toNat_shiftLeft, BitVec.toNat_setWidth, Nat.shiftLeft_eq, BitVec.toNat_ofNat]
    omega
  rw [loadRealSeg, M.modify_run, realSeg, SegReg.real, hbase]

/-- Loading a segment register stores at most the byte of the accessed bit. -/
theorem byte_segLoaded_other {s : State} {r : Sreg} {sel : Word} {d : Desc} {a : Nat} (h : a ∉ accessedByte s sel d) :
    (segLoaded s r sel d).byte a = s.byte a := (setSeg_byte ..).trans (byte_setBytes_other h)

theorem byte_realSeg (s : State) (r : Sreg) (sel : Word) (a : Nat) : (realSeg s r sel).byte a = s.byte a := setSeg_byte ..

section
variable (s : State) (r : Sreg) (sel : Word) (d : Desc)

@[simp] theorem segLoaded_flags : (segLoaded s r sel d).flags = s.flags := by simp [segLoaded]
@[simp] theorem segLoaded_gdtr : (segLoaded s r sel d).gdtr = s.gdtr := by simp [segLoaded]
@[simp] theorem segLoaded_ldtr : (segLoaded s r sel d).ldtr = s.ldtr := by simp [segLoaded]
@[simp] theorem segLoaded_cr0 : (segLoaded s r sel d).cr0 = s.cr0 := by simp [segLoaded]
@[simp] theorem realSeg_cr0 : (realSeg s r sel).cr0 = s.cr0 := setSeg_cr0 ..
@[simp] theorem realSeg_flags : (realSeg s r sel).flags = s.flags := setSeg_flags ..

end

end Sys2Proof.Machine
end

section
/-! PROOFS. Pushing several elements, and room for them on a stack (46_p.md R391, 41_c_d_e_h.md R232). -/

namespace Sys2Proof.Machine

open Sys2Proof.Claims

theorem descends_refl (u : State) (sz : Sz) : Descends sz 0 u u := ⟨rfl, rfl, rfl, (below_zero u sz).symm, fun _ _ => rfl⟩

theorem pushList_cons (u : State) (sz : Sz) (v : Dword) (vs : List Dword) :
    pushList u sz (v :: vs) = pushList (pushed u sz (slot u sz 1) v) sz vs := rfl

theorem descends_pushList (sz : Sz) (vs : List Dword) (u : State) : Descends sz vs.length u (pushList u sz vs) := by
  induction vs generalizing u with
  | nil => exact descends_refl u sz
  | cons v vs ih =>
    rw [List.length_cons, Nat.add_comm]
    exact (descends_pushed u sz v).trans (ih _)

/-- Pushes that all have room, paging off. -/
theorem pushAll_run {sz : Sz} {vs : List Dword} {u : State} (hp : u.cr0.pg = false) (hr : Room u sz vs.length) :
    pushAll sz vs u = .ok ((), pushList u sz vs) := by
  induction vs generalizing u with
  | nil => rfl
  | cons v vs ih =>
    have hd := descends_pushed u sz v
    rw [List.length_cons, Nat.add_comm] at hr
    rw [pushAll, bind_completes (push_room hp (fun i hi => hr i (by omega)) v), ih (by rw [hd.cr0]; exact hp) (hd.room hr),
      pushList_cons]

/-! ## What pushing leaves unchanged -/

/-- Pushing changes the stack pointer, memory and what the TLB may not have seen of it. -/
theorem pushList_eq (sz : Sz) (vs : List Dword) (u : State) :
    pushList u sz vs = { u with
      regs := (pushList u sz vs).regs, mem := (pushList u sz vs).mem, tlb := (pushList u sz vs).tlb } := by
  induction vs generalizing u with
  | nil => rfl
  | cons v vs ih =>
    rw [pushList_cons, ih, pushed, setBytes_eq]
    rfl

section
variable (sz : Sz) (vs : List Dword) (u : State)

@[simp] theorem pushList_gdtr : (pushList u sz vs).gdtr = u.gdtr := by rw [pushList_eq]
@[simp] theorem pushList_ldtr : (pushList u sz vs).ldtr = u.ldtr := by rw [pushList_eq]
@[simp] theorem pushList_cr0 : (pushList u sz vs).cr0 = u.cr0 := by rw [pushList_eq]
@[simp] theorem pushList_flags : (pushList u sz vs).flags = u.flags := by rw [pushList_eq]

end

/-! ## Room -/

theorem stackRoom_iff (g : SegReg) (size : Sz) (sp : Dword) (n k : Nat) :
    stackRoom g size sp n k = true ↔
      ∀ i, i < k → g.holds (truncSz size (sp - BitVec.ofNat 32 (n * (i + 1)))).toNat n = true := by
  induction k with
  | zero => simp [stackRoom]
  | succ k ih =>
    rw [stackRoom, Bool.and_eq_true, ih, Nat.forall_lt_succ_right, and_comm]

theorem stackRoom_iff_hasRoom (b : State) (sz : Sz) (k : Nat) :
    stackRoom b.ss b.ssSize b.sp sz.bytes k = true ↔ HasRoom b sz k := stackRoom_iff _ _ _ _ _

theorem holds_of_accessExc {b : State} {r : Sreg} {off : Dword} {n : Nat} {wr : Bool} (h : b.accessExc r off n wr = none) :
    (b.seg r).holds off.toNat n = true := by
  by_contra hh
  unfold State.accessExc at h
  simp only [if_neg hh] at h
  split_ifs at h

/-- Pushes that pass all their checks lie within the limit. -/
theorem hasRoom_of_room {b : State} {sz : Sz} {k : Nat} (h : Room b sz k) : HasRoom b sz k :=
  fun i hi => holds_of_accessExc (r := .ss) (h i hi)

theorem checkRoom_ok {g : SegReg} {size : Sz} {sp : Dword} {n k : Nat} (h : stackRoom g size sp n k = true) (s : State) :
    checkRoom g size sp n k s = .ok ((), s) := by rw [checkRoom, if_pos h, M.pure_run]

theorem checkRoom_raises {g : SegReg} {size : Sz} {sp : Dword} {n k : Nat} (h : ¬ stackRoom g size sp n k = true) (s : State) :
    checkRoom g size sp n k s = .error (.exc (excSS 0#16) s false) := by rw [checkRoom, if_neg h, raise_run]

end Sys2Proof.Machine
end

section
/-! PROOFS. Taking an exception or interrupt: what the outcome of a delivery makes of it; the delivery in Real Address Mode and
its software interrupts (42_i.md R286, R287, 60_exceptions.md R503, R504, R510). -/

namespace Sys2Proof.Machine

open Sys2Proof.Claims

/-! ## The outcome of a delivery -/

theorem deliver_prot_ok {e : Event} {s t : State} {a : Bool} (hpe : s.cr0.pe = true)
    (h : deliverProt e (awake s) = .ok (a, t)) : deliver e s = .ok (a, t) := by
  have h : deliverProt e { s with inhibit := .none, halted := false } = .ok (a, t) := h
  simp [deliver, hpe, h]

theorem deliver_prot_exc {e : Event} {x : Exc} {s st : State} {c : Bool} (hpe : s.cr0.pe = true)
    (h : deliverProt e (awake s) = .error (.exc x st c)) :
    deliver e s = .error (.exc (if e.ext then withExt x else x) st c) := by
  have h : deliverProt e { s with inhibit := .none, halted := false } = .error (.exc x st c) := h
  simp [deliver, hpe, h]

theorem deliver_prot_refuse {e : Event} {r : Refusal} {s : State} (hpe : s.cr0.pe = true)
    (h : deliverProt e (awake s) = .error (.refuse r)) : deliver e s = .error (.refuse r) := by
  have h : deliverProt e { s with inhibit := .none, halted := false } = .error (.refuse r) := h
  simp [deliver, hpe, h]

theorem deliver_real_ok {e : Event} {s t : State} (hpe : s.cr0.pe = false)
    (h : deliverReal e (awake s) = .ok ((), t)) : deliver e s = .ok (false, t) := by
  have h : deliverReal e { s with inhibit := .none, halted := false } = .ok ((), t) := h
  simp [deliver, hpe, h]

theorem settle_byte (s : State) (a : Nat) : (settle s).byte a = s.byte a := rfl

/-- Every exception but a double fault is taken alike when its delivery completes. -/
theorem takeFault_of_deliver {x : Exc} {s t : State} {a : Bool} (hx : x.vector ≠ 8#8)
    (h : deliver (excEvent x s) s = .ok (a, t)) : takeFault x s = .next (settle t) := by
  simp only [takeFault, takePageFault, takeContributory, h, if_neg hx, ite_self]

/-- The event of an interrupt or trap taken at an instruction boundary. -/
def interruptEvent (vector : Byte) (s : State) : Event :=
  { vector := vector, code := none, ret := s.eip, software := false, ext := true, rf := .zero }

/-- The event of INT n, INT 3 and INTO. -/
def softwareEvent (vector : Byte) (s : State) : Event :=
  { vector := vector, code := none, ret := s.next, software := true, ext := false, rf := .zero }

theorem takeInterrupt_of_deliver {vector : Byte} {s t : State} {a : Bool}
    (h : deliver (interruptEvent vector s) s = .ok (a, t)) : takeInterrupt vector s = .next (settle t) := by
  rw [interruptEvent] at h
  simp only [takeInterrupt, h]

/-- RF in the image that an event pushes, where the model leaves it no free value. -/
theorem imageFlags_run {e : Event} {rf : Bool} (h : e.rf = if rf then .one else .zero) (s : State) :
    imageFlags e s = .ok (eflags { s.flags with rf := rf }, s) := by
  cases rf <;> simp [imageFlags, h]

/-- A fault pushes RF = 1, but for vector 1. -/
theorem excEvent_rf {x : Exc} (hx : x.vector ≠ 8#8) (s : State) :
    (excEvent x s).rf = if decide (x.vector ≠ 1#8) then .one else .zero := by
  by_cases h : x.vector = 1#8 <;> simp [excEvent, hx, h]

/-! ## Real Address Mode -/

/-- Waking the processor changes nothing that a stack access depends on. -/
theorem descends_awake (b : State) (sz : Sz) : Descends sz 0 b (awake b) :=
  ⟨rfl, rfl, rfl, (below_zero b sz).symm, fun _ _ => rfl⟩

/-- The two words of four bytes. -/
theorem leValue_words (as bs : List Byte) (ha : as.length = 2) (hb : bs.length = 2) :
    (leValue 32 (as ++ bs)).extractLsb' 0 16 = leValue 16 as ∧ (leValue 32 (as ++ bs)).extractLsb' 16 16 = leValue 16 bs := by
  match as, ha, bs, hb with
  | [b0, b1], _, [b2, b3], _ =>
    have h0 := b0.isLt; have h1 := b1.isLt; have h2 := b2.isLt; have h3 := b3.isLt
    constructor <;> apply BitVec.eq_of_toNat_eq <;>
      simp [leValue, leNat, BitVec.extractLsb'_toNat, Nat.shiftRight_eq_div_pow] <;> omega

/-- The two words of a doubleword in memory. -/
theorem dwordAt_words (s : State) (a : Dword) :
    (dwordAt s a).extractLsb' 0 16 = wordAt s a ∧ (dwordAt s a).extractLsb' 16 16 = wordAt s (a + 2#32) := by
  have hspan : (span a 4).map s.byte = (span a 2).map s.byte ++ (span (a + 2#32) 2).map s.byte := by
    rw [← List.map_append]
    exact congrArg _ (spanOf_add a 2 2)
  rw [dwordAt, hspan]
  exact leValue_words _ _ (by simp [span]) (by simp [span])

/-- The state after the pushes of a real-mode delivery. -/
def imagePushed (b : State) (f : Flags) (ret : Dword) : State :=
  pushList (awake b) .s16 [eflags f, b.cs.sel.setWidth 32, ret]

theorem imagePushed_run {b : State} {f : Flags} {ret : Dword} (hp : b.cr0.pg = false) (h : Room b .s16 3) :
    pushAll .s16 [eflags f, b.cs.sel.setWidth 32, ret] (awake b) = .ok ((), imagePushed b f ret) :=
  pushAll_run hp ((descends_awake b .s16).room h)

/-- Control goes to the entry at `a` of the interrupt table, with IF and TF cleared. -/
def vectorEntered (p : State) (a : Dword) : State :=
  jumped (realSeg { p with flags := { p.flags with ie := false, tf := false } } .cs (wordAt p (a + 2#32)))
    ((wordAt p a).setWidth 32)

theorem vectorEntered_run {p : State} (hp : p.cr0.pg = false) (a : Dword) :
    (modifyFlags (fun f => { f with ie := false, tf := false }) >>= fun _ => linRead a 4 >>= fun v : Dword =>
      loadRealSeg .cs (v.extractLsb' 16 16) >>= fun _ => jumpTo ((v.extractLsb' 0 16).setWidth 32)) p =
      .ok ((), vectorEntered p a) := by
  obtain ⟨hip, hcs⟩ := dwordAt_words p a
  rw [vectorEntered, ← hip, ← hcs]
  exact (bind_completes (modifyFlags_run _ p)).trans <| (bind_completes (linRead_dword (by exact hp) a)).trans <|
    (bind_completes (loadRealSeg_run ..)).trans rfl

theorem entered_eq (b : State) (f : Flags) (vector : Byte) (ret : Dword) :
    entered b f vector ret = vectorEntered (imagePushed b f ret) (b.idtr.base + BitVec.ofNat 32 (4 * vector.toNat)) := rfl

theorem deliverReal_run {e : Event} {b : State} {f : Flags} (h : Deliverable b e.vector)
    (himage : imageFlags e (awake b) = .ok (eflags f, awake b)) :
    deliver e b = .ok (false, entered b f e.vector e.ret) := by
  obtain ⟨hpe, hpg, hlimit, hroom⟩ := h
  refine deliver_real_ok hpe ?_
  have hvector : decide (e.vector.toNat * 4 + 3 ≤ b.idtr.limit.toNat) = true := by
    rw [decide_eq_true_eq, Nat.mul_comm]; exact hlimit
  have hpg' : (imagePushed b f e.ret).cr0.pg = false := (congrArg Cr0.pg (pushList_cr0 ..)).trans hpg
  rw [entered_eq, Nat.mul_comm]
  exact (bind_passes (M.get_run _)).trans <| (bind_passes (require_passes hvector _ _)).trans <| (bind_passes himage).trans <|
    (bind_completes (imagePushed_run hpg hroom)).trans (vectorEntered_run hpg' _)

theorem byte_vectorEntered (p : State) (a : Dword) (k : Nat) : (vectorEntered p a).byte k = p.byte k :=
  byte_realSeg { p with flags := { p.flags with ie := false, tf := false } } .cs (wordAt p (a + 2#32)) k

theorem descends_imagePushed (b : State) (f : Flags) (ret : Dword) : Descends .s16 3 b (imagePushed b f ret) :=
  (descends_awake b .s16).trans (descends_pushList .s16 [eflags f, b.cs.sel.setWidth 32, ret] _)

/-- Outside the three words pushed a real-mode delivery leaves every byte. -/
theorem byte_entered_other {b : State} {f : Flags} {vector : Byte} {ret : Dword} {a : Nat} (h : a ∉ slots b .s16 3) :
    (entered b f vector ret).byte a = b.byte a := by
  rw [entered_eq, byte_vectorEntered, (descends_imagePushed b f ret).byte a h]

/-- Settles O25: every cause is delivered by the same pushes, with its own RF. -/
theorem deliveryReal : Obligations.DeliveryReal := by
  unfold Obligations.DeliveryReal
  refine fun s vector h => ⟨fun code hv => ?_, ?_, fun f a ha => (settle_byte _ a).trans (byte_entered_other ha)⟩
  · have himage := imageFlags_run (excEvent_rf (x := { vector := vector, code := code }) hv s) (awake s)
    exact takeFault_of_deliver hv (deliverReal_run h himage)
  · exact takeInterrupt_of_deliver (deliverReal_run h (imageFlags_run (rf := false) rfl (awake s)))

/-! ## INT n, INT 3 and INTO -/

theorem softwareInterrupt_eq (vector : Byte) (b : State) : softwareInterrupt vector b = deliver (softwareEvent vector b) b :=
  bind_passes (M.get_run b)

theorem lock_eq_false_of_accepts {s : State} (ha : Accepts s false) : s.pfx.lock = false :=
  Bool.eq_false_iff.2 fun hl => Bool.false_ne_true (ha.1 hl)

/-- A form whose operation, where the interrupt is taken, is the software interrupt. -/
theorem interrupts_of_performTransfer {i : Instr} {vector : Byte} {taken : State → Prop} {m : M Bool}
    (hi : ∀ s, exec i s = performTransfer s m)
    (hm : ∀ s, taken s → s.mode = .real → m (begun s) = softwareInterrupt vector (begun s)) :
    Interrupts i vector taken := by
  intro s ha ht h
  have hreal : s.mode = .real := if_neg (Bool.eq_false_iff.1 h.1)
  have hrun := deliverReal_run (e := softwareEvent vector (begun s)) h (imageFlags_run (rf := false) rfl (awake (begun s)))
  have hdeliver := ((hm s ht hreal).trans (softwareInterrupt_eq ..)).trans hrun
  exact ⟨(hi s).trans (performTransfer_ok (lock_eq_false_of_accepts ha) ha.2 hdeliver),
    fun a hn => byte_entered_other hn, found_refl _⟩

/-- INTO with OF = 0 ends at once. -/
theorem into_completes {s : State} (ha : Accepts s false) (h : s.flags.ov = false) :
    Completes .into s (begun s) (begun s) [] := by
  have hskip : (getFlags >>= fun f => if f.ov then softwareInterrupt 4#8 else pure false) (begun s) = .ok (false, begun s) := by
    refine (bind_passes (getFlags_run _)).trans ?_
    rw [begun_flags, h]
    rfl
  exact ⟨performTransfer_ok (lock_eq_false_of_accepts ha) ha.2 hskip, fun _ _ => rfl, found_refl _⟩

theorem intImm8_raises {s : State} {n : Byte} (ha : Accepts s false) (hm : s.mode = .v86) (hl : s.flags.iopl ≠ 3#2) :
    exec (.intImm8 n) s = takeFault (excGP 0#16) s := by
  have hdenied : (!(decide ((begun s).mode = .v86) && (begun s).flags.iopl != 3#2)) = false := by simp [hm, hl]
  exact performTransfer_raises ha ((bind_passes (M.get_run _)).trans (bind_raises (require_fails hdenied _ _)))

theorem intImm8_passes {s : State} {n : Byte} (h : s.mode = .v86 → s.flags.iopl = 3#2) :
    (get >>= fun s => require (!(s.mode = .v86 && s.flags.iopl != 3#2)) (excGP 0#16) >>= fun _ => softwareInterrupt n : M Bool)
      (begun s) = softwareInterrupt n (begun s) := by
  have hallowed : (!(decide ((begun s).mode = .v86) && (begun s).flags.iopl != 3#2)) = true := by
    by_cases hm : s.mode = .v86
    · simp [h hm]
    · simp [hm]
  exact (bind_passes (M.get_run _)).trans (bind_passes (require_passes hallowed _ _))

/-- Settles O24: each form that takes its interrupt is one delivery, INT n once V86 mode allows it. -/
theorem softwareInterruptsReal : Obligations.SoftwareInterruptsReal := by
  unfold Obligations.SoftwareInterruptsReal
  refine ⟨interrupts_of_performTransfer (fun _ => rfl) fun _ _ _ => rfl, fun n => ?_, ?_, fun s ha => into_completes ha,
    fun s n ha hm hl => intImm8_raises ha hm hl⟩
  · exact interrupts_of_performTransfer (fun _ => rfl) fun s _ hreal => intImm8_passes fun hv => by simp [hreal] at hv
  · refine interrupts_of_performTransfer (fun _ => rfl) fun s ht _ => (bind_passes (getFlags_run _)).trans ?_
    rw [begun_flags, if_pos ht]

end Sys2Proof.Machine
end

section
/-! PROOFS. The stack of an inner level in the current TSS (20_memory.md R89, 41_c_d_e_h.md R232, 42_i.md R288, R289). -/

namespace Sys2Proof.Machine

open Sys2Proof.Claims

/-! ## The pointer in the TSS -/

theorem oldTss_eq (s : State) : s.oldTss = oldTask s := by
  unfold State.oldTss oldTask
  rw [Bool.decide_or]

theorem tssStack_run {s : State} (hp : s.cr0.pg = false) {level : BitVec 2} (h : InnerListed s level) :
    tssStack level s = .ok ((innerSel s level, innerPtr s level), s) := by
  unfold InnerListed at h
  unfold innerSel innerPtr
  refine (bind_passes (M.get_run s)).trans ?_
  rw [M.ite_run, oldTss_eq]
  cases hold : oldTask s
  · simp only [hold, Bool.false_eq_true, if_false] at h ⊢
    refine (bind_passes (require_passes (decide_eq_true (by omega)) _ _)).trans ?_
    refine (bind_passes (linRead_dword hp _)).trans ((bind_passes (linRead_word hp _)).trans ?_)
    rw [M.pure_run, Nat.add_right_comm]
  · simp only [hold, if_true] at h ⊢
    refine (bind_passes (require_passes (decide_eq_true (by omega)) _ _)).trans ?_
    refine (bind_passes (linRead_word hp _)).trans ((bind_passes (linRead_word hp _)).trans ?_)
    rw [M.pure_run, Nat.add_right_comm]

theorem tssStack_raises {s : State} {level : BitVec 2} (h : ¬ InnerListed s level) :
    tssStack level s = .error (.exc (excTS (selErr s.tr.sel)) s false) := by
  unfold InnerListed at h
  refine (bind_passes (M.get_run s)).trans ?_
  rw [M.ite_run, oldTss_eq]
  cases hold : oldTask s
  · simp only [hold, Bool.false_eq_true, if_false] at h ⊢
    exact bind_raises (require_fails (decide_eq_false (by omega)) _ _)
  · simp only [hold, if_true] at h ⊢
    exact bind_raises (require_fails (decide_eq_false (by omega)) _ _)

/-! ## The stack segment -/

/-- The tests of the stack segment are those of any named descriptor. -/
theorem innerStack_eq (level : BitVec 2) (null : Exc) :
    innerStack level null = tssStack level >>= fun x =>
      checkedDesc x.1 null (excTS (selErr x.1)) (excSS (selErr x.1))
        (fun d => decide (selRpl x.1 = level) && (decide (d.dpl = level) && d.writable)) >>= fun d => pure (x.1, d, x.2) := by
  simp only [innerStack, checkedDesc, require_require, bind_assoc, pure_bind]
  rfl

theorem innerKind_iff (sel : Word) (level : BitVec 2) (d : Desc) :
    (decide (selRpl sel = level) && (decide (d.dpl = level) && d.writable)) = true ↔ StackAt sel level d := by
  simp [StackAt, selRpl_eq]

theorem innerStack_run {s : State} (hp : s.cr0.pg = false) {level : BitVec 2} {d : Desc} (null : Exc)
    (h : InnerStack s level d) : innerStack level null s = .ok ((innerSel s level, d, innerPtr s level), s) := by
  obtain ⟨-, hl, hd⟩ := h
  rw [innerStack_eq, bind_passes (tssStack_run hp hl)]
  exact bind_passes (checkedDesc_ok (innerKind_iff _ _) hp hd)

theorem innerStack_raises {s : State} (hp : s.cr0.pg = false) {level : BitVec 2} {null e : Exc}
    (h : InnerFails s level null e) : innerStack level null s = .error (.exc e s false) := by
  obtain ⟨-, ⟨hl, rfl⟩ | ⟨hl, hd⟩⟩ := h
  · rw [innerStack_eq]
    exact bind_raises (tssStack_raises hl)
  · rw [innerStack_eq, bind_passes (tssStack_run hp hl)]
    exact bind_raises (checkedDesc_raises (innerKind_iff _ _) hp hd)

/-! ## Room on it -/

/-- The accessed bit has no part in the limits of a segment. -/
theorem toAccessed_holds (d : Desc) (sel : Word) (off n : Nat) : (d.toAccessed sel).holds off n = (d.toSeg sel).holds off n := by
  have hdown : (d.toAccessed sel).expandDown = (d.toSeg sel).expandDown := by
    simp [SegReg.expandDown, Desc.toAccessed, Desc.toSeg]
  rw [SegReg.holds, SegReg.holds, hdown]
  rfl

/-- Room on the stack `d` below `ptr` is room in a state whose stack that is. -/
theorem stackRoom_iff_of_stack {v : State} {d : Desc} {sel : Word} {ptr : Dword} (hm : v.mode = .prot)
    (hss : v.ss = d.toAccessed sel) (hsp : v.sp = truncSz v.ssSize ptr) (sz : Sz) (k : Nat) :
    stackRoom (d.toSeg sel) d.stackSize ptr sz.bytes k = true ↔ HasRoom v sz k := by
  have hsize : v.ssSize = d.stackSize := by simp [State.ssSize, hm, hss, Desc.stackSize, Desc.toAccessed, Desc.toSeg]
  rw [stackRoom_iff, HasRoom]
  refine forall_congr' fun i => imp_congr_right fun _ => ?_
  rw [below, hsp, hsize, truncSz_truncSz_sub, hss, toAccessed_holds]

end Sys2Proof.Machine
end

section
/-! PROOFS. Delivery through an interrupt or trap gate: to a handler at the same level, at an inner level, and from V86 mode
(42_i.md R288, R289, 60_exceptions.md R504, R510, R513). -/

namespace Sys2Proof.Machine

open Sys2Proof.Claims

/-! ## Flags aside -/

/-- The state with other flags. -/
def reflagged (u : State) (f : Flags) : State := { u with flags := f }

/-- A store does not look at the flags. -/
theorem setBytes_reflagged (u : State) (f : Flags) (as : List Nat) (bs : List Byte) :
    (reflagged u f).setBytes as bs = reflagged (u.setBytes as bs) f := by
  have hput : (reflagged u f).putBytes as bs = reflagged (u.putBytes as bs) f := by
    induction as generalizing u bs with
    | nil => cases bs <;> rfl
    | cons a as ih =>
      cases bs with
      | nil => rfl
      | cons b bs => exact ih (u.setByte a b) bs
  unfold State.setBytes
  rw [hput]
  rfl

theorem mode_reflagged {u : State} {f : Flags} (h : f.vm = u.flags.vm) : (reflagged u f).mode = u.mode := by
  rw [State.mode, State.mode, show (reflagged u f).flags.vm = u.flags.vm from h]
  rfl

/-- The flags but VM have no part in the size of the stack. -/
theorem ssSize_reflagged {u : State} {f : Flags} (h : f.vm = u.flags.vm) : (reflagged u f).ssSize = u.ssSize := by
  rw [State.ssSize, State.ssSize, mode_reflagged h]
  rfl

theorem below_reflagged {u : State} {f : Flags} (h : f.vm = u.flags.vm) (sz : Sz) (k : Nat) :
    below (reflagged u f) sz k = below u sz k := by
  rw [below, State.sp, ssSize_reflagged h]
  rfl

theorem room_reflagged {u : State} {f : Flags} (h : f.vm = u.flags.vm) {sz : Sz} {k : Nat} (hr : Room u sz k) :
    Room (reflagged u f) sz k := by
  intro i hi
  have hlimit : (reflagged u f).limitExc .ss = u.limitExc .ss := by
    unfold State.limitExc
    rw [mode_reflagged h]
  rw [below_reflagged h, State.accessExc, hlimit, mode_reflagged h]
  exact hr i hi

theorem pushed_reflagged {u : State} {f : Flags} (h : f.vm = u.flags.vm) (sz : Sz) (v : Dword) :
    pushed (reflagged u f) sz (slot (reflagged u f) sz 1) v = reflagged (pushed u sz (slot u sz 1) v) f := by
  have hslot : slot (reflagged u f) sz 1 = slot u sz 1 := by rw [slot, below_reflagged h]; rfl
  have hsize : (reflagged (u.setBytes (slot u sz 1) (leBytes sz.bytes v)) f).ssSize =
      (u.setBytes (slot u sz 1) (leBytes sz.bytes v)).ssSize := ssSize_reflagged (h.trans (by rw [setBytes_flags]))
  rw [pushed, pushed, below_reflagged h, hslot, setBytes_reflagged, State.setSp, State.setSp, hsize]
  rfl

/-- Pushes look at no flag but VM, which is part of the mode. -/
theorem pushList_reflagged {sz : Sz} {vs : List Dword} {u : State} {f : Flags} (h : f.vm = u.flags.vm) :
    pushList (reflagged u f) sz vs = reflagged (pushList u sz vs) f := by
  induction vs generalizing u with
  | nil => rfl
  | cons v vs ih =>
    rw [pushList_cons, pushList_cons, pushed_reflagged h]
    exact ih (h.trans (congrArg Flags.vm (descends_pushed u sz v).flags.symm))

theorem segLoaded_reflagged (u : State) (f : Flags) (r : Sreg) (sel : Word) (d : Desc) :
    segLoaded (reflagged u f) r sel d = reflagged (segLoaded u r sel d) f := by
  have hbyte : accessedByte (reflagged u f) sel d = accessedByte u sel d := rfl
  rw [segLoaded, segLoaded, hbyte, setBytes_reflagged]
  cases r <;> rfl

/-! ## Entering the handler -/

theorem codeEntered_run {p : State} (hp : p.cr0.pg = false) (sel : Word) (c : Desc) (level : BitVec 2) (off : Dword) :
    enterHandler sel c level off p = .ok ((), codeEntered p sel level c off) :=
  (bind_completes (loadSeg_run hp .cs (withRpl sel level) c)).trans (jumpTo_run _ _)

theorem byte_codeEntered_other {p b : State} (hg : p.gdtr = b.gdtr) (hl : p.ldtr = b.ldtr) {sel : Word} {level : BitVec 2}
    {c : Desc} (off : Dword) {a : Nat} (h : a ∉ accessedByte b sel c) : (codeEntered p sel level c off).byte a = p.byte a := by
  have h : a ∉ accessedByte p (withRpl sel level) c := by rwa [accessedByte_withRpl, accessedByte_congr hg hl]
  exact byte_segLoaded_other h

theorem gateFlags_eq (g : Desc) (f : Flags) :
    gateFlags g f = { f with ie := f.ie && g.typ.getLsbD 0, tf := false, nt := false } := by
  rw [gateFlags]
  cases g.typ.getLsbD 0 <;> simp

theorem handled_run {p : State} (hp : p.cr0.pg = false) (g c : Desc) (level : BitVec 2) :
    (enterHandler g.gateSel c level g.gateOff >>= fun _ => modifyFlags (gateFlags g)) p = .ok ((), handled p g c level) := by
  refine (bind_completes (codeEntered_run hp ..)).trans ?_
  rw [modifyFlags_run, gateFlags_eq]
  rfl

theorem byte_handled_other {p b : State} (hg : p.gdtr = b.gdtr) (hl : p.ldtr = b.ldtr) {g c : Desc} {level : BitVec 2} {a : Nat}
    (h : a ∉ accessedByte b g.gateSel c) : (handled p g c level).byte a = p.byte a :=
  byte_codeEntered_other hg hl g.gateOff h

/-! ## Selectors as stack elements -/

/-- The state once `k` selectors have been padded to `sz` bits. -/
def padded (sz : Sz) (u : State) (k : Nat) : State := withFlags u (if sz = .s32 then k else 0) u.flags

theorem padded_zero (sz : Sz) (u : State) : padded sz u 0 = u := by cases sz <;> rfl

/-- The `k`-th selector takes the `k`-th free value. -/
theorem padSel_run (sz : Sz) (u : State) (sel : Word) (k : Nat) :
    padSel sz sel (padded sz u k) = .ok (selElement sz sel u k, padded sz u (k + 1)) := by cases sz <;> rfl

theorem descends_padded (sz : Sz) (u : State) (k : Nat) (z : Sz) : Descends z 0 u (padded sz u k) :=
  ⟨rfl, rfl, rfl, (below_zero u z).symm, fun _ _ => rfl⟩

theorem padSel_first (sz : Sz) (u : State) (sel : Word) : padSel sz sel u = .ok (selElement sz sel u 0, padded sz u 1) := by
  have h := padSel_run sz u sel 0
  rwa [padded_zero] at h

theorem selElement_awake (sz : Sz) (sel : Word) (b : State) (n : Nat) :
    selElement sz sel (awake b) n = selElement sz sel b n := by cases sz <;> rfl

/-! ## The same level -/

/-- What a delivery at the same level pushes. -/
def sameElements (b : State) (g : Desc) (f : Flags) (ret : Dword) (code : Option Word) : List Dword :=
  [eflags f, selElement g.gateSize b.cs.sel b 0, ret] ++ codeElements code

theorem sameElements_length (b : State) (g : Desc) (f : Flags) (ret : Dword) (code : Option Word) :
    (sameElements b g f ret code).length = 3 + (codeElements code).length := by
  rw [sameElements, List.length_append]
  rfl

/-- The state when it has pushed them. -/
def samePushed (b : State) (g : Desc) (f : Flags) (ret : Dword) (code : Option Word) : State :=
  pushList (padded g.gateSize (awake b) 1) g.gateSize (sameElements b g f ret code)

theorem descends_samePushed (b : State) (g : Desc) (f : Flags) (ret : Dword) (code : Option Word) :
    Descends g.gateSize (3 + (codeElements code).length) b (samePushed b g f ret code) := by
  have h := ((descends_awake b g.gateSize).trans (descends_padded g.gateSize _ 1 _)).trans
    (descends_pushList g.gateSize (sameElements b g f ret code) _)
  rwa [sameElements_length, Nat.zero_add] at h

theorem samePushed_gdtr (b : State) (g : Desc) (f : Flags) (ret : Dword) (code : Option Word) :
    (samePushed b g f ret code).gdtr = b.gdtr := pushList_gdtr ..

theorem samePushed_ldtr (b : State) (g : Desc) (f : Flags) (ret : Dword) (code : Option Word) :
    (samePushed b g f ret code).ldtr = b.ldtr := pushList_ldtr ..

theorem samePushed_run {b : State} {g : Desc} {f : Flags} {ret : Dword} {code : Option Word} (hp : b.cr0.pg = false)
    (h : Room b g.gateSize (3 + (codeElements code).length)) :
    pushAll g.gateSize (sameElements b g f ret code) (padded g.gateSize (awake b) 1) = .ok ((), samePushed b g f ret code) := by
  refine pushAll_run hp (((descends_awake b g.gateSize).trans (descends_padded g.gateSize _ 1 _)).room ?_)
  rwa [sameElements_length, Nat.zero_add]

theorem deliverSame_run {e : Event} {b : State} {g c : Desc} {f : Flags} {t : State} {stored : List Nat}
    (hp : b.cr0.pg = false) (hc : c.isCode = true) (himage : imageFlags e (awake b) = .ok (eflags f, awake b))
    (h : SameLevel b g c f e.ret e.code t stored) : deliverSame e g g.gateSel c (awake b) = .ok ((), t) := by
  obtain ⟨-, hw, hroom, rfl, -⟩ := h
  have hfits := (stackRoom_iff_hasRoom _ _ _).2 (hasRoom_of_room hroom)
  have hpushed : (samePushed b g f e.ret e.code).cr0.pg = false := by
    rw [(descends_samePushed b g f e.ret e.code).cr0]; exact hp
  refine (bind_passes (M.get_run _)).trans <| (bind_passes (checkRoom_ok hfits _)).trans <|
    (bind_passes (checkCodeLimit_ok ((toSeg_holds_iff hc _ _).2 hw) _)).trans <| (bind_passes himage).trans <|
    (bind_completes (padSel_first _ _ _)).trans ?_
  rw [selElement_awake]
  exact (bind_completes (samePushed_run hp hroom)).trans (handled_run hpushed g c b.cpl)

theorem byte_sameLevel_other {b : State} {g c : Desc} {f : Flags} {ret : Dword} {code : Option Word} {t : State}
    {stored : List Nat} (h : SameLevel b g c f ret code t stored) {a : Nat} (ha : a ∉ stored) : t.byte a = b.byte a := by
  obtain ⟨-, -, -, ht, rfl⟩ := h
  have ht : t = handled (samePushed b g f ret code) g c b.cpl := ht
  rw [List.mem_append, not_or] at ha
  rw [ht, byte_handled_other (samePushed_gdtr ..) (samePushed_ldtr ..) ha.2,
    (descends_samePushed b g f ret code).byte a ha.1]

/-! ## An inner level -/

/-- The stack of an inner level, entered: its segment is loaded, and its pointer and its level are in force. -/
theorem enterStack_run {u : State} (hp : u.cr0.pg = false) (level : BitVec 2) (d : Desc) :
    enterStack (innerSel u level) d (innerPtr u level) level u = .ok ((), onInnerStack u level d) :=
  (bind_completes (loadSeg_run hp .ss (innerSel u level) d)).trans rfl

theorem onInnerStack_ss (u : State) (level : BitVec 2) (d : Desc) :
    (onInnerStack u level d).ss = d.toAccessed (innerSel u level) := rfl

theorem onInnerStack_cr0 (u : State) (level : BitVec 2) (d : Desc) : (onInnerStack u level d).cr0 = u.cr0 := segLoaded_cr0 ..
theorem onInnerStack_flags (u : State) (level : BitVec 2) (d : Desc) : (onInnerStack u level d).flags = u.flags :=
  segLoaded_flags ..
theorem onInnerStack_gdtr (u : State) (level : BitVec 2) (d : Desc) : (onInnerStack u level d).gdtr = u.gdtr :=
  segLoaded_gdtr ..
theorem onInnerStack_ldtr (u : State) (level : BitVec 2) (d : Desc) : (onInnerStack u level d).ldtr = u.ldtr :=
  segLoaded_ldtr ..

theorem onInnerStack_mode (u : State) (level : BitVec 2) (d : Desc) : (onInnerStack u level d).mode = u.mode := by
  rw [State.mode, onInnerStack_cr0, onInnerStack_flags, State.mode]

theorem onInnerStack_sp (u : State) (level : BitVec 2) (d : Desc) :
    (onInnerStack u level d).sp = truncSz (onInnerStack u level d).ssSize (innerPtr u level) :=
  setSp_sp (segLoaded u .ss (innerSel u level) d) (innerPtr u level)

theorem byte_onInnerStack_other {u : State} {level : BitVec 2} {d : Desc} {a : Nat}
    (h : a ∉ accessedByte u (innerSel u level) d) : (onInnerStack u level d).byte a = u.byte a :=
  byte_segLoaded_other h

/-- The handler's stack in the terms of the state its delivery began in. -/
theorem handlerStack_eq (b : State) (g c d : Desc) :
    handlerStack b g c d = onInnerStack (padded g.gateSize (awake b) 2) c.dpl d :=
  rfl

/-- Room on the handler's stack is tested before it is entered. -/
theorem handlerStack_room_iff {b : State} (hm : b.mode = .prot) (g c d : Desc) (k : Nat) :
    stackRoom (d.toSeg (innerSel b c.dpl)) d.stackSize (innerPtr b c.dpl) g.gateSize.bytes k = true ↔
      HasRoom (handlerStack b g c d) g.gateSize k := by
  have hm : (padded g.gateSize (awake b) 2).mode = .prot := hm
  exact stackRoom_iff_of_stack ((onInnerStack_mode _ c.dpl d).trans hm) (onInnerStack_ss ..) (onInnerStack_sp ..) _ _

/-- What a delivery to an inner level pushes. -/
def innerElements (b : State) (g : Desc) (f : Flags) (ret : Dword) (code : Option Word) : List Dword :=
  [selElement g.gateSize b.ss.sel b 0, b.regs.esp, eflags f, selElement g.gateSize b.cs.sel b 1, ret] ++ codeElements code

theorem innerElements_length (b : State) (g : Desc) (f : Flags) (ret : Dword) (code : Option Word) :
    (innerElements b g f ret code).length = 5 + (codeElements code).length := by
  rw [innerElements, List.length_append]
  rfl

/-- The state when it has pushed them. -/
def innerPushed (b : State) (g c d : Desc) (f : Flags) (ret : Dword) (code : Option Word) : State :=
  pushList (handlerStack b g c d) g.gateSize (innerElements b g f ret code)

theorem innerPushed_run {b : State} {g c d : Desc} {f : Flags} {ret : Dword} {code : Option Word} (hp : b.cr0.pg = false)
    (h : Room (handlerStack b g c d) g.gateSize (5 + (codeElements code).length)) :
    pushAll g.gateSize (innerElements b g f ret code) (handlerStack b g c d) = .ok ((), innerPushed b g c d f ret code) := by
  refine pushAll_run ((congrArg Cr0.pg (onInnerStack_cr0 ..)).trans hp) ?_
  rwa [innerElements_length]

theorem innerPushed_gdtr (b : State) (g c d : Desc) (f : Flags) (ret : Dword) (code : Option Word) :
    (innerPushed b g c d f ret code).gdtr = b.gdtr := (pushList_gdtr ..).trans (onInnerStack_gdtr ..)

theorem innerPushed_ldtr (b : State) (g c d : Desc) (f : Flags) (ret : Dword) (code : Option Word) :
    (innerPushed b g c d f ret code).ldtr = b.ldtr := (pushList_ldtr ..).trans (onInnerStack_ldtr ..)

theorem innerPushed_cr0 (b : State) (g c d : Desc) (f : Flags) (ret : Dword) (code : Option Word) :
    (innerPushed b g c d f ret code).cr0 = b.cr0 := (pushList_cr0 ..).trans (onInnerStack_cr0 ..)

theorem byte_innerPushed_other {b : State} {g c d : Desc} {f : Flags} {ret : Dword} {code : Option Word} {a : Nat}
    (hd : a ∉ accessedByte b (innerSel b c.dpl) d)
    (hs : a ∉ slots (handlerStack b g c d) g.gateSize (5 + (codeElements code).length)) :
    (innerPushed b g c d f ret code).byte a = b.byte a := by
  rw [← innerElements_length b g f ret code] at hs
  rw [innerPushed, (descends_pushList g.gateSize _ _).byte a hs, handlerStack_eq]
  exact byte_onInnerStack_other (u := padded g.gateSize (awake b) 2) hd

theorem deliverInner_run {e : Event} {b : State} {g c : Desc} {f : Flags} {t : State} {stored : List Nat}
    (hm : b.mode = .prot) (hp : b.cr0.pg = false) (hc : c.isCode = true)
    (himage : imageFlags e (awake b) = .ok (eflags f, awake b)) (h : InnerLevel b g c f e.ret e.code t stored) :
    deliverInner e g g.gateSel c (awake b) = .ok ((), t) := by
  obtain ⟨-, -, hw, d, hd, hroom, rfl, -⟩ := h
  have hfits := (handlerStack_room_iff hm g c d _).2 (hasRoom_of_room hroom)
  have hd : InnerStack (awake b) c.dpl d := hd
  have hpg : (awake b).cr0.pg = false := hp
  have hpushed : (innerPushed b g c d f e.ret e.code).cr0.pg = false := by rw [innerPushed_cr0]; exact hp
  refine (bind_passes (M.get_run _)).trans <| (bind_passes (innerStack_run hpg _ hd)).trans <|
    (bind_passes (checkRoom_ok hfits _)).trans <|
    (bind_passes (checkCodeLimit_ok ((toSeg_holds_iff hc _ _).2 hw) _)).trans <| (bind_passes himage).trans <|
    (bind_completes (padSel_first _ _ _)).trans <| (bind_completes (padSel_run _ _ _ 1)).trans <|
    (bind_completes (enterStack_run (u := padded g.gateSize (awake b) 2) hp c.dpl d)).trans ?_
  rw [selElement_awake, selElement_awake]
  exact (bind_completes (innerPushed_run hp hroom)).trans (handled_run hpushed g c c.dpl)

theorem byte_innerLevel_other {b : State} {g c : Desc} {f : Flags} {ret : Dword} {code : Option Word} {t : State}
    {stored : List Nat} (h : InnerLevel b g c f ret code t stored) {a : Nat} (ha : a ∉ stored) : t.byte a = b.byte a := by
  obtain ⟨-, -, -, d, -, -, ht, rfl⟩ := h
  have ht : t = handled (innerPushed b g c d f ret code) g c c.dpl := ht
  simp only [List.mem_append, not_or] at ha
  rw [ht, byte_handled_other (innerPushed_gdtr ..) (innerPushed_ldtr ..) ha.2, byte_innerPushed_other ha.1.1 ha.1.2]

/-! ## From V86 mode -/

theorem codeEntered_reflagged (p : State) (f : Flags) (sel : Word) (level : BitVec 2) (c : Desc) (off : Dword) :
    codeEntered (reflagged p f) sel level c off = reflagged (codeEntered p sel level c off) f := by
  rw [codeEntered, segLoaded_reflagged]
  rfl

/-- The flags at the end of a delivery from V86 mode. -/
def monitorFlags (g : Desc) (f : Flags) : Flags := { gateFlags g f with vm := false }

theorem handled_of_monitorFlags {p : State} {g : Desc} {f : Flags} (h : p.flags = { f with vm := false }) (c : Desc)
    (level : BitVec 2) :
    handled p g c level = reflagged (codeEntered p g.gateSel level c g.gateOff) (monitorFlags g f) := by
  have hflags : (codeEntered p g.gateSel level c g.gateOff).flags = { f with vm := false } := (segLoaded_flags ..).trans h
  rw [handled, hflags, monitorFlags, gateFlags_eq]
  rfl

/-- The pointer and the level of the monitor's stack. -/
def atMonitor (u : State) (ptr : Dword) : State := { u with cpl := 0#2, regs := { u.regs with esp := ptr } }

/-- The monitor's stack, entered with the flags `f`. -/
def monitorBase (b : State) (d : Desc) (f : Flags) : State :=
  atMonitor (segLoaded (reflagged (padded .s32 (awake b) 6) f) .ss (innerSel b 0#2) d) (innerPtr b 0#2)

theorem monitorStack_eq (b : State) (d : Desc) : monitorStack b d = monitorBase b d { b.flags with vm := false } := rfl

theorem monitorBase_reflagged (b : State) (d : Desc) (f f' : Flags) :
    monitorBase b d f = reflagged (monitorBase b d f') f := by
  rw [monitorBase, monitorBase, segLoaded_reflagged, segLoaded_reflagged]
  rfl

theorem monitorStack_flags (b : State) (d : Desc) : (monitorStack b d).flags = { b.flags with vm := false } :=
  segLoaded_flags ..
theorem monitorStack_cr0 (b : State) (d : Desc) : (monitorStack b d).cr0 = b.cr0 := segLoaded_cr0 ..
theorem monitorStack_gdtr (b : State) (d : Desc) : (monitorStack b d).gdtr = b.gdtr := segLoaded_gdtr ..
theorem monitorStack_ldtr (b : State) (d : Desc) : (monitorStack b d).ldtr = b.ldtr := segLoaded_ldtr ..

theorem monitorStack_mode {b : State} (h : b.cr0.pe = true) (d : Desc) : (monitorStack b d).mode = .prot := by
  rw [State.mode, monitorStack_cr0, monitorStack_flags, h]
  rfl

theorem monitorStack_room_iff {b : State} (h : b.cr0.pe = true) (d : Desc) (k : Nat) :
    stackRoom (d.toSeg (innerSel b 0#2)) d.stackSize (innerPtr b 0#2) 4 k = true ↔ HasRoom (monitorStack b d) .s32 k :=
  stackRoom_iff_of_stack (v := monitorStack b d) (monitorStack_mode h d) rfl rfl .s32 k

theorem byte_monitorStack_other {b : State} {d : Desc} {a : Nat} (h : a ∉ accessedByte b (innerSel b 0#2) d) :
    (monitorStack b d).byte a = b.byte a :=
  byte_segLoaded_other (s := reflagged (padded .s32 (awake b) 6) { b.flags with vm := false }) h

/-- What a delivery from V86 mode pushes. -/
def monitorElements (b : State) (f : Flags) (ret : Dword) (code : Option Word) : List Dword :=
  let e := fun (r : Sreg) i => selElement .s32 (b.seg r).sel b i
  [e .gs 0, e .fs 1, e .ds 2, e .es 3, e .ss 4, b.regs.esp, eflags f, e .cs 5, ret] ++ codeElements code

theorem monitorElements_length (b : State) (f : Flags) (ret : Dword) (code : Option Word) :
    (monitorElements b f ret code).length = 9 + (codeElements code).length := by
  rw [monitorElements, List.length_append]
  rfl

/-- The state when it has pushed them, and the one where the data segment registers are null too. -/
def monitorPushed (b : State) (d : Desc) (f : Flags) (ret : Dword) (code : Option Word) : State :=
  pushList (monitorStack b d) .s32 (monitorElements b f ret code)

theorem monitorPushed_run {b : State} {d : Desc} {f : Flags} {ret : Dword} {code : Option Word} (hp : b.cr0.pg = false)
    (h : Room (monitorStack b d) .s32 (9 + (codeElements code).length)) (g : Desc) :
    pushAll .s32 (monitorElements b f ret code) (monitorBase b d (monitorFlags g b.flags)) =
      .ok ((), reflagged (monitorPushed b d f ret code) (monitorFlags g b.flags)) := by
  have hvm : (monitorFlags g b.flags).vm = (monitorStack b d).flags.vm := by rw [monitorStack_flags]; rfl
  rw [monitorBase_reflagged b d _ { b.flags with vm := false }, ← monitorStack_eq, monitorPushed, ← pushList_reflagged hvm]
  refine pushAll_run ((congrArg Cr0.pg (monitorStack_cr0 b d)).trans hp) (room_reflagged hvm ?_)
  rwa [monitorElements_length]

theorem monitorPushed_flags (b : State) (d : Desc) (f : Flags) (ret : Dword) (code : Option Word) :
    (monitorPushed b d f ret code).flags = { b.flags with vm := false } := (pushList_flags ..).trans (monitorStack_flags ..)
theorem monitorPushed_cr0 (b : State) (d : Desc) (f : Flags) (ret : Dword) (code : Option Word) :
    (monitorPushed b d f ret code).cr0 = b.cr0 := (pushList_cr0 ..).trans (monitorStack_cr0 ..)
theorem monitorPushed_gdtr (b : State) (d : Desc) (f : Flags) (ret : Dword) (code : Option Word) :
    (monitorPushed b d f ret code).gdtr = b.gdtr := (pushList_gdtr ..).trans (monitorStack_gdtr ..)
theorem monitorPushed_ldtr (b : State) (d : Desc) (f : Flags) (ret : Dword) (code : Option Word) :
    (monitorPushed b d f ret code).ldtr = b.ldtr := (pushList_ldtr ..).trans (monitorStack_ldtr ..)

theorem byte_monitorPushed_other {b : State} {d : Desc} {f : Flags} {ret : Dword} {code : Option Word} {a : Nat}
    (hd : a ∉ accessedByte b (innerSel b 0#2) d) (hs : a ∉ slots (monitorStack b d) .s32 (9 + (codeElements code).length)) :
    (monitorPushed b d f ret code).byte a = b.byte a := by
  rw [← monitorElements_length b f ret code] at hs
  rw [monitorPushed, (descends_pushList .s32 _ _).byte a hs, byte_monitorStack_other hd]

theorem dataNulled_gdtr (p : State) : (dataNulled p).gdtr = p.gdtr := rfl
theorem dataNulled_ldtr (p : State) : (dataNulled p).ldtr = p.ldtr := rfl
theorem byte_dataNulled (p : State) (a : Nat) : (dataNulled p).byte a = p.byte a := rfl

/-- The handler is entered once the data segment registers are null. -/
theorem monitorEntered_run {p : State} (hp : p.cr0.pg = false) {g : Desc} {f : Flags} (hf : p.flags = { f with vm := false })
    (c : Desc) :
    (loadNull .gs 0#16 >>= fun _ => loadNull .fs 0#16 >>= fun _ => loadNull .ds 0#16 >>= fun _ => loadNull .es 0#16 >>= fun _ =>
      enterHandler g.gateSel c 0#2 g.gateOff) (reflagged p (monitorFlags g f)) = .ok ((), handled (dataNulled p) g c 0#2) := by
  have hnulled : (dataNulled p).flags = { f with vm := false } := hf
  rw [handled_of_monitorFlags hnulled, ← codeEntered_reflagged]
  exact codeEntered_run (p := reflagged (dataNulled p) (monitorFlags g f)) hp ..

theorem deliverFromV86_run {e : Event} {b : State} {g c : Desc} {f : Flags} {t : State} {stored : List Nat}
    (hm : b.mode = .v86) (hp : b.cr0.pg = false) (himage : imageFlags e (awake b) = .ok (eflags f, awake b))
    (h : FromV86 b g c f e.ret e.code t stored) : deliverFromV86 e g g.gateSel c (awake b) = .ok ((), t) := by
  obtain ⟨hdpl, hsize, d, hd, hroom, rfl, -⟩ := h
  have hpe : b.cr0.pe = true := by
    by_contra hpe
    simp [State.mode, hpe] at hm
  have hfits := (monitorStack_room_iff hpe d _).2 (hasRoom_of_room hroom)
  have hd : InnerStack (awake b) 0#2 d := hd
  have hpg : (awake b).cr0.pg = false := hp
  have hpushed : (monitorPushed b d f e.ret e.code).cr0.pg = false := by rw [monitorPushed_cr0]; exact hp
  refine (bind_passes (M.get_run _)).trans <| (bind_passes (require_passes (decide_eq_true hdpl) _ _)).trans ?_
  rw [hsize]
  refine (bind_passes (innerStack_run hpg _ hd)).trans <|
    (bind_passes (checkRoom_ok hfits _)).trans <| (bind_passes himage).trans <|
    (bind_completes (padSel_first _ _ _)).trans <| (bind_completes (padSel_run _ _ _ 1)).trans <|
    (bind_completes (padSel_run _ _ _ 2)).trans <| (bind_completes (padSel_run _ _ _ 3)).trans <|
    (bind_completes (padSel_run _ _ _ 4)).trans <| (bind_completes (padSel_run _ _ _ 5)).trans <|
    (bind_completes (modifyFlags_run _ _)).trans <| (bind_completes (loadSeg_run ?_ _ _ _)).trans <|
    (bind_completes (M.modify_run _ _)).trans ?_
  · exact hp
  · exact (bind_completes (monitorPushed_run hp hroom g)).trans
      (monitorEntered_run hpushed (monitorPushed_flags b d f e.ret e.code) c)

theorem byte_fromV86_other {b : State} {g c : Desc} {f : Flags} {ret : Dword} {code : Option Word} {t : State}
    {stored : List Nat} (h : FromV86 b g c f ret code t stored) {a : Nat} (ha : a ∉ stored) : t.byte a = b.byte a := by
  obtain ⟨-, -, d, -, -, ht, rfl⟩ := h
  have ht : t = handled (dataNulled (monitorPushed b d f ret code)) g c 0#2 := ht
  simp only [List.mem_append, not_or] at ha
  rw [ht, byte_handled_other ((dataNulled_gdtr _).trans (monitorPushed_gdtr ..))
    ((dataNulled_ldtr _).trans (monitorPushed_ldtr ..)) ha.2, byte_dataNulled, byte_monitorPushed_other ha.1.1 ha.1.2]

end Sys2Proof.Machine
end

section
/-! PROOFS. The gate of a vector in the IDT, and what goes through an interrupt or trap gate (42_i.md R288, R289). -/

namespace Sys2Proof.Machine

open Sys2Proof.Claims

/-! ## The gate -/

theorem isSys_iff (d : Desc) (t : BitVec 4) : d.isSys t = true ↔ d.s = false ∧ d.typ = t := by
  simp [Desc.isSys]

theorem intGate_iff (g : Desc) : IntGate g ↔ (g.isSys 6#4 || g.isSys 7#4 || g.isSys 14#4 || g.isSys 15#4) = true := by
  simp only [Bool.or_eq_true, isSys_iff, IntGate]
  tauto

theorem taskGate_iff (g : Desc) : TaskGate g ↔ g.isSys 5#4 = true := (isSys_iff g 5#4).symm

theorem isSys_task_of_intGate {g : Desc} (h : IntGate g) : g.isSys 5#4 = false := by
  obtain ⟨-, ht⟩ := h
  refine Bool.eq_false_iff.2 fun h5 => ?_
  obtain ⟨-, h5⟩ := (isSys_iff g 5#4).1 h5
  rw [h5] at ht
  revert ht
  decide

/-- The vector lies within the IDT, its gate is of a kind a delivery goes through, and a software interrupt may use it. -/
def GateOpens (b : State) (e : Event) : Prop :=
  Vectored b e.vector ∧ (IntGate (gateAt b e.vector) ∨ TaskGate (gateAt b e.vector)) ∧
    (e.software = true → b.cpl ≤ (gateAt b e.vector).dpl)

/-- The delivery to the segment `c` of the gate's handler, by the levels of both. -/
def runHandler (b : State) (e : Event) (g c : Desc) : M Bool :=
  if b.flags.vm then deliverFromV86 e g g.gateSel c >>= fun _ => pure false
  else if !c.conforming ∧ c.dpl < b.cpl then deliverInner e g g.gateSel c >>= fun _ => pure false
  else if c.conforming ∨ c.dpl = b.cpl then deliverSame e g g.gateSel c >>= fun _ => pure false
  else raise (excGP (selErr g.gateSel))

/-- What follows the checks on the gate. -/
def afterGate (b : State) (e : Event) (g : Desc) : M Bool :=
  if g.isSys 5#4 then deliverTask e g >>= fun _ => pure true
  else checkedDesc g.gateSel (excGP 0#16) (excGP (selErr g.gateSel)) (excNP (selErr g.gateSel)) Desc.isCode >>=
    runHandler b e g

theorem gateAt_run {b : State} (hp : b.cr0.pg = false) (vector : Byte) :
    readDescAt (b.idtr.base + BitVec.ofNat 32 (vector.toNat * 8)) b = .ok (gateAt b vector, b) := by
  rw [readDescAt_run hp, Nat.mul_comm]
  rfl

theorem idtCode_eq (vector : Byte) : idtCode vector = BitVec.ofNat 16 (8 * vector.toNat + 2) := by
  revert vector
  decide

theorem gateKind_iff (g : Desc) :
    (g.isSys 5#4 || g.isSys 6#4 || g.isSys 7#4 || g.isSys 14#4 || g.isSys 15#4) = true ↔ IntGate g ∨ TaskGate g := by
  rw [intGate_iff, taskGate_iff]
  simp only [Bool.or_eq_true]
  tauto

theorem vectored_iff (b : State) (vector : Byte) :
    decide (vector.toNat * 8 + 7 ≤ b.idtr.limit.toNat) = true ↔ Vectored b vector := by
  rw [decide_eq_true_eq, Nat.mul_comm]
  rfl

theorem gateDpl_iff (b : State) (e : Event) (g : Desc) :
    (!e.software || decide (b.cpl ≤ g.dpl)) = true ↔ (e.software = true → b.cpl ≤ g.dpl) := by
  cases e.software <;> simp

theorem deliverProt_open {b : State} {e : Event} (hp : b.cr0.pg = false) (h : GateOpens b e)
    (hpr : (gateAt b e.vector).p = true) : deliverProt e b = afterGate b e (gateAt b e.vector) b := by
  obtain ⟨hv, hg, hs⟩ := h
  refine (bind_passes (M.get_run _)).trans <| (bind_passes (require_passes ((vectored_iff b _).2 hv) _ _)).trans <|
    (bind_passes (gateAt_run hp _)).trans <| (bind_passes (require_passes ((gateKind_iff _).2 hg) _ _)).trans <|
    (bind_passes (require_passes ((gateDpl_iff b e _).2 hs) _ _)).trans <| (bind_passes (require_passes hpr _ _)).trans ?_
  rw [afterGate]
  split
  · rfl
  · simp only [checkedDesc, bind_assoc, pure_bind]
    rfl

theorem deliverProt_int {b : State} {e : Event} {c : Desc} (hp : b.cr0.pg = false) (h : GateOpens b e)
    (hg : IntGate (gateAt b e.vector)) (hpr : (gateAt b e.vector).p = true)
    (hc : Named b (gateAt b e.vector).gateSel (fun d => d.isCode = true) c) :
    deliverProt e b = runHandler b e (gateAt b e.vector) c b := by
  rw [deliverProt_open hp h hpr, afterGate, isSys_task_of_intGate hg]
  exact bind_passes (checkedDesc_ok (fun _ => Iff.rfl) hp hc)

/-! ## The handler -/

theorem cr0_pe_of_mode {s : State} (h : s.mode ≠ .real) : s.cr0.pe = true := by
  by_contra hpe
  simp [State.mode, hpe] at h

theorem vm_of_mode_prot {s : State} (h : s.mode = .prot) : s.flags.vm = false := by
  refine Bool.eq_false_iff.2 fun hvm => ?_
  unfold State.mode at h
  split_ifs at h

theorem vm_of_mode_v86 {s : State} (h : s.mode = .v86) : s.flags.vm = true := by
  unfold State.mode at h
  split_ifs at h
  assumption

section
variable {b : State} {e : Event} {g c : Desc} {f : Flags} {t : State} {stored : List Nat}

theorem runHandler_sameLevel (hm : b.mode = .prot) (hp : b.cr0.pg = false) (hc : c.isCode = true)
    (himage : imageFlags e (awake b) = .ok (eflags f, awake b)) (h : SameLevel b g c f e.ret e.code t stored) :
    runHandler (awake b) e g c (awake b) = .ok (false, t) := by
  have hvm : ¬ (awake b).flags.vm = true := Bool.eq_false_iff.1 (vm_of_mode_prot hm)
  have hlevel : c.conforming = true ∨ c.dpl = (awake b).cpl := h.1
  have houter : ¬ ((!c.conforming) = true ∧ c.dpl < (awake b).cpl) := by
    rintro ⟨hconf, hlt⟩
    rcases hlevel with h | h
    · simp [h] at hconf
    · exact absurd hlt (h ▸ BitVec.lt_irrefl _)
  rw [runHandler, if_neg hvm, if_neg houter, if_pos hlevel]
  exact bind_completes (deliverSame_run hp hc himage h)

theorem runHandler_innerLevel (hm : b.mode = .prot) (hp : b.cr0.pg = false) (hc : c.isCode = true)
    (himage : imageFlags e (awake b) = .ok (eflags f, awake b)) (h : InnerLevel b g c f e.ret e.code t stored) :
    runHandler (awake b) e g c (awake b) = .ok (false, t) := by
  have hvm : ¬ (awake b).flags.vm = true := Bool.eq_false_iff.1 (vm_of_mode_prot hm)
  have hinner : (!c.conforming) = true ∧ c.dpl < (awake b).cpl := ⟨by rw [h.1]; rfl, h.2.1⟩
  rw [runHandler, if_neg hvm, if_pos hinner]
  exact bind_completes (deliverInner_run hm hp hc himage h)

theorem runHandler_fromV86 (hm : b.mode = .v86) (hp : b.cr0.pg = false)
    (himage : imageFlags e (awake b) = .ok (eflags f, awake b)) (h : FromV86 b g c f e.ret e.code t stored) :
    runHandler (awake b) e g c (awake b) = .ok (false, t) := by
  have hvm : (awake b).flags.vm = true := vm_of_mode_v86 hm
  rw [runHandler, if_pos hvm]
  exact bind_completes (deliverFromV86_run hm hp himage h)

end

/-! ## The three causes -/

/-- Where a software interrupt delivers its vector, its operation is the delivery. -/
theorem software_run {s : State} {vector : Byte} {i : Instr} (h : Software s vector i) :
    ∃ m, exec i s = performTransfer s m ∧ m (begun s) = softwareInterrupt vector (begun s) := by
  rcases h with ⟨rfl, hi⟩ | ⟨rfl, rfl⟩ | ⟨rfl, rfl, hov⟩
  · exact ⟨_, rfl, intImm8_passes fun hm => hi (vm_of_mode_v86 hm)⟩
  · exact ⟨_, rfl, rfl⟩
  · refine ⟨_, rfl, (bind_passes (getFlags_run _)).trans ?_⟩
    rw [begun_flags, if_pos hov]

theorem software_completes {s t : State} {vector : Byte} {i : Instr} {stored : List Nat} (ha : Accepts s false)
    (hi : Software s vector i)
    (h : deliver (softwareEvent vector (begun s)) (begun s) = .ok (false, t))
    (hb : ∀ a, a ∉ stored → t.byte a = s.byte a) : Completes i s (begun s) t stored := by
  obtain ⟨m, hexec, hm⟩ := software_run hi
  have hrun := (hm.trans (softwareInterrupt_eq ..)).trans h
  exact ⟨hexec.trans (performTransfer_ok (lock_eq_false_of_accepts ha) ha.2 hrun), hb, found_refl _⟩

theorem deliver_of_runHandler {b t : State} {e : Event} {c : Desc} (hpe : b.cr0.pe = true) (hp : b.cr0.pg = false)
    (ho : GateOpens b e) (hg : IntGate (gateAt b e.vector)) (hpr : (gateAt b e.vector).p = true)
    (hc : Named b (gateAt b e.vector).gateSel (fun d => d.isCode = true) c)
    (h : runHandler (awake b) e (gateAt b e.vector) c (awake b) = .ok (false, t)) : deliver e b = .ok (false, t) :=
  deliver_prot_ok hpe ((deliverProt_int (b := awake b) hp ho hg hpr hc).trans h)

/-- A kind of delivery that the handler's part of the model makes, storing where it says. -/
theorem deliversThrough_of_runHandler {m : Mode} (hreal : m ≠ .real)
    {enters : State → Desc → Desc → Flags → Dword → Option Word → State → List Nat → Prop}
    (hrun : ∀ {b : State} {e : Event} {g c : Desc} {f : Flags} {t : State} {stored : List Nat},
      b.mode = m → b.cr0.pg = false →
      c.isCode = true → imageFlags e (awake b) = .ok (eflags f, awake b) → enters b g c f e.ret e.code t stored →
      runHandler (awake b) e g c (awake b) = .ok (false, t))
    (hbyte : ∀ {b : State} {g c : Desc} {f : Flags} {ret : Dword} {code : Option Word} {t : State} {stored : List Nat},
      enters b g c f ret code t stored → ∀ {a : Nat}, a ∉ stored → t.byte a = b.byte a) :
    DeliversThrough m enters := by
  intro s vector c t stored hm hp hv hg hpr hc
  have hpe : s.cr0.pe = true := cr0_pe_of_mode (hm ▸ hreal)
  obtain ⟨-, -, -, hcode, -⟩ := id hc
  refine ⟨fun code hvec h => ⟨?_, fun a => hbyte h⟩, fun h => ⟨?_, fun a => hbyte h⟩, fun ha hdpl h i hi => ?_⟩
  · have himage := imageFlags_run (excEvent_rf (x := { vector := vector, code := code }) hvec s) (awake s)
    have hopen : GateOpens s (excEvent { vector := vector, code := code } s) :=
      ⟨hv, .inl hg, fun h => absurd h Bool.false_ne_true⟩
    exact takeFault_of_deliver hvec (deliver_of_runHandler hpe hp hopen hg hpr hc (hrun hm hp hcode himage h))
  · have hopen : GateOpens s (interruptEvent vector s) := ⟨hv, .inl hg, fun h => absurd h Bool.false_ne_true⟩
    exact takeInterrupt_of_deliver (deliver_of_runHandler hpe hp hopen hg hpr hc
      (hrun hm hp hcode (imageFlags_run (rf := false) rfl (awake s)) h))
  · have hopen : GateOpens (begun s) (softwareEvent vector (begun s)) := ⟨hv, .inl hg, fun _ => hdpl⟩
    refine software_completes ha hi (deliver_of_runHandler hpe hp hopen hg hpr hc
      (hrun (b := begun s) hm hp hcode (imageFlags_run (rf := false) rfl (awake (begun s))) h)) fun a => hbyte h

/-- Settles O47: the handler's part of a delivery takes the branch for the same level. -/
theorem deliverySameLevel : Obligations.DeliverySameLevel := by
  unfold Obligations.DeliverySameLevel
  exact deliversThrough_of_runHandler (by decide) runHandler_sameLevel byte_sameLevel_other

/-- Settles O48: it takes the branch for an inner level, or the one from V86 mode. -/
theorem deliveryInnerLevel : Obligations.DeliveryInnerLevel := by
  unfold Obligations.DeliveryInnerLevel
  exact ⟨deliversThrough_of_runHandler (by decide) runHandler_innerLevel byte_innerLevel_other,
    deliversThrough_of_runHandler (by decide) (fun hm hp _ => runHandler_fromV86 hm hp) byte_fromV86_other⟩

end Sys2Proof.Machine
end

section
/-! PROOFS. IRET in every mode, without a task switch (42_i.md R290 to R293, 10_state.md R57). -/

namespace Sys2Proof.Machine

open Sys2Proof.Claims

/-! ## The frame on the stack, paging off -/

theorem checkStackTop_ok {b : State} {k n : Nat} (h : Held b k n) : checkStackTop k n b = .ok ((), b) := by
  have h : b.ss.holds (truncSz b.ssSize (b.sp + BitVec.ofNat 32 k)).toNat n = true := h
  refine (bind_passes (M.get_run b)).trans ?_
  rw [if_pos h, M.pure_run]

theorem checkStackTop_raises {b : State} {k n : Nat} (h : ¬ Held b k n) :
    checkStackTop k n b = .error (.exc (excSS 0#16) b false) := by
  have h : ¬ b.ss.holds (truncSz b.ssSize (b.sp + BitVec.ofNat 32 k)).toNat n = true := h
  refine (bind_passes (M.get_run b)).trans ?_
  rw [if_neg h, raise_run]

theorem held_of_readable {b : State} {sz : Sz} {k : Nat} (h : StackReadable b sz k) : Held b k sz.bytes :=
  holds_of_accessExc (r := .ss) h

theorem stackRead_run {b : State} (hp : b.cr0.pg = false) {sz : Sz} {k : Nat} (h : StackReadable b sz k) :
    stackRead sz k b = .ok (stackElement b sz k, b) := stackRead_off hp h

section
variable {b : State} {sz : Sz} {k : Nat}

theorem readable_of_frameHeld (h : FrameHeld b sz k) {i : Nat} (hi : i < k) : StackReadable b sz (i * sz.bytes) := h.2 i hi

theorem frameAt_one (b : State) (sz : Sz) : frameAt b sz 1 = stackElement b sz sz.bytes := by rw [frameAt, Nat.one_mul]

theorem frameAt_run (hp : b.cr0.pg = false) (h : FrameHeld b sz k) {i : Nat} (hi : i < k) :
    stackRead sz (i * sz.bytes) b = .ok (frameAt b sz i, b) := stackRead_run hp (readable_of_frameHeld h hi)

theorem frameAt_zero_run (hp : b.cr0.pg = false) (h : FrameHeld b sz k) (hk : 0 < k) :
    stackRead sz 0 b = .ok (frameAt b sz 0, b) := by simpa only [Nat.zero_mul] using frameAt_run hp h hk

theorem frameAt_one_run (hp : b.cr0.pg = false) (h : StackReadable b sz sz.bytes) :
    stackRead sz sz.bytes b = .ok (frameAt b sz 1, b) := by
  rw [frameAt_one]
  exact stackRead_run hp h

theorem readable_one_of_frameHeld (h : FrameHeld b sz k) (hk : 1 < k) : StackReadable b sz sz.bytes := by
  simpa only [Nat.one_mul] using readable_of_frameHeld h hk

end

/-! ## The flags -/

/-- IRET loads the flags that POPF loads, and RF from a 32-bit image. -/
theorem loadFlags_eq (b : State) (v : Dword) (sz : Sz) : loadFlags b v sz false = returnedFlags b sz v := by
  simp only [loadFlags, returnedFlags, poppedFlags, flagsOfWord, State.ioAllowed, Bool.or_eq_true, Bool.not_eq_true',
    Bool.and_eq_true, decide_eq_true_eq, Bool.false_eq_true, if_false]

/-! ## The selectors -/

theorem returnCs_eq (sel : Word) (level : BitVec 2) :
    returnCs sel level = checkedDesc sel (excGP 0#16) (excGP (selErr sel)) (excNP (selErr sel))
      (fun c => c.isCode && if c.conforming then decide (c.dpl ≤ level) else decide (c.dpl = level)) := by
  simp only [returnCs, checkedDesc, require_require]
  rfl

theorem returnSs_eq (sel : Word) (level : BitVec 2) :
    returnSs sel level = checkedDesc sel (excGP 0#16) (excGP (selErr sel)) (excNP (selErr sel))
      (fun d => decide (selRpl sel = level) && (d.writable && decide (d.dpl = level))) := by
  simp only [returnSs, checkedDesc, require_require]
  rfl

section
variable {b : State} {sel : Word} {level : BitVec 2} {d : Desc} {e : Exc}

theorem returnCs_run (hp : b.cr0.pg = false) (h : Named b sel (AtLevel level) d) : returnCs sel level b = .ok (d, b) := by
  rw [returnCs_eq]
  exact checkedDesc_ok (atLevel_iff level) hp h

theorem returnCs_raises (hp : b.cr0.pg = false)
    (h : NameFails b sel (AtLevel level) (excGP 0#16) (excGP (selErr sel)) (excNP (selErr sel)) e) :
    returnCs sel level b = .error (.exc e b false) := by
  rw [returnCs_eq]
  exact checkedDesc_raises (atLevel_iff level) hp h

theorem returnKind_iff (sel : Word) (level : BitVec 2) (d : Desc) :
    (decide (selRpl sel = level) && (d.writable && decide (d.dpl = level))) = true ↔ StackAt sel level d := by
  rw [← Bool.and_assoc]
  exact stackAt_iff sel level d

theorem returnSs_run (hp : b.cr0.pg = false) (h : Named b sel (StackAt sel level) d) : returnSs sel level b = .ok (d, b) := by
  rw [returnSs_eq]
  exact checkedDesc_ok (returnKind_iff sel level) hp h

theorem returnSs_raises (hp : b.cr0.pg = false)
    (h : NameFails b sel (StackAt sel level) (excGP 0#16) (excGP (selErr sel)) (excNP (selErr sel)) e) :
    returnSs sel level b = .error (.exc e b false) := by
  rw [returnSs_eq]
  exact checkedDesc_raises (returnKind_iff sel level) hp h

theorem isCode_of_named (h : Named b sel (AtLevel level) d) : d.isCode = true := by
  obtain ⟨-, -, -, ⟨hcode, -⟩, -⟩ := h
  exact hcode

end

/-! ## The stack and the data segments of an outer level -/

theorem returnSp_run (sz : Sz) (sp : Dword) (u : State) : returnSp sz sp u = .ok ((), outerSp sz sp u) := by
  refine (bind_passes (M.get_run u)).trans ?_
  unfold outerSp
  cases sz <;> cases u.ssSize <;> rfl

theorem iretInvalid_iff (s : State) (g : SegReg) : iretInvalid s g = true ↔ iretDrops s g := by
  have hnull : (!selNull g.sel) = true ↔ ¬ NullSel g.sel := by
    rw [Bool.not_eq_true', ← Bool.not_eq_true, selNull_iff]
    rfl
  have hconf : (!g.conforming) = true ↔ ¬ IsConforming g := by
    simp [IsConforming, SegReg.conforming, SegReg.isCode]
    cases g.s <;> cases g.typ[3] <;> simp
  simp only [iretInvalid, iretDrops, Bool.and_eq_true, hnull, hconf, decide_eq_true_eq, and_assoc]

/-- A data segment register after a return to an outer level. -/
def iretKept (u : State) (g : SegReg) : SegReg := if iretInvalid u g then iretZero g else g

theorem dropped_eq (u : State) : dropped (iretDrops u) iretZero u =
    { u with es := iretKept u u.es, fs := iretKept u u.fs, gs := iretKept u u.gs, ds := iretKept u u.ds } := by
  have hkeep (g : SegReg) [Decidable (iretDrops u g)] : (if iretDrops u g then iretZero g else g) = iretKept u g := by
    rw [iretKept]
    exact if_congr (iretInvalid_iff u g).symm rfl rfl
  simp only [dropped, hkeep]

theorem invalidate_run (r : Sreg) (u : State) :
    invalidate iretInvalid r u = .ok ((), u.setSeg r (iretKept u (u.seg r))) := by
  refine (M.modify_run _ u).trans ?_
  rw [iretKept]
  split
  · rfl
  · cases r <;> rfl

theorem invalidateAll_run (u : State) (f : M Unit) :
    (invalidate iretInvalid .es >>= fun _ => invalidate iretInvalid .fs >>= fun _ => invalidate iretInvalid .gs >>= fun _ =>
      invalidate iretInvalid .ds >>= fun _ => f) u = f (dropped (iretDrops u) iretZero u) := by
  rw [dropped_eq]
  exact (bind_completes (invalidate_run .es u)).trans <| (bind_completes (invalidate_run .fs _)).trans <|
    (bind_completes (invalidate_run .gs _)).trans (bind_completes (invalidate_run .ds _))

/-! ## The return in protected mode -/

/-- The listing of R292 for a return to the level it came from. -/
def sameReturn (sz : Sz) (b : State) (rcs : Word) : M Unit := do
  checkStackTop 0 (3 * sz.bytes)
  let c ← returnCs rcs b.cpl
  let ip ← stackRead sz 0
  checkCodeLimit (c.toSeg rcs) ip
  let fl ← stackRead sz (2 * sz.bytes)
  loadSeg .cs rcs c
  modify fun t => { t with flags := loadFlags b fl sz false }
  addStackPtr (3 * sz.bytes)
  jumpTo ip

/-- The same for a return to an outer level. -/
def outerReturn (sz : Sz) (b : State) (rcs : Word) : M Unit := do
  checkStackTop 0 (5 * sz.bytes)
  let c ← returnCs rcs (selRpl rcs)
  let rss := (← stackRead sz (4 * sz.bytes)).setWidth 16
  let d ← returnSs rss (selRpl rcs)
  let ip ← stackRead sz 0
  checkCodeLimit (c.toSeg rcs) ip
  let fl ← stackRead sz (2 * sz.bytes)
  let sp ← stackRead sz (3 * sz.bytes)
  loadSeg .cs rcs c
  modify fun t => { t with flags := loadFlags b fl sz false }
  loadSeg .ss rss d
  returnSp sz sp
  modify fun t => { t with cpl := selRpl rcs }
  invalidate iretInvalid .es
  invalidate iretInvalid .fs
  invalidate iretInvalid .gs
  invalidate iretInvalid .ds
  jumpTo ip

/-- The part before them reads the return selector. -/
theorem iretProt_eq (sz : Sz) (b : State) : iretProt sz b =
    (checkStackTop sz.bytes sz.bytes >>= fun _ => stackRead sz sz.bytes >>= fun v =>
      require (decide (b.cpl ≤ selRpl (v.setWidth 16))) (excGP (selCode (v.setWidth 16))) >>= fun _ =>
        if selRpl (v.setWidth 16) = b.cpl then sameReturn sz b (v.setWidth 16) else outerReturn sz b (v.setWidth 16)) b := rfl

section
variable {b : State} {sz : Sz}

theorem iretProt_same (hp : b.cr0.pg = false) (h : StackReadable b sz sz.bytes) (hl : rplOf (frameSel b sz 1) = b.cpl) :
    iretProt sz b = sameReturn sz b (frameSel b sz 1) b := by
  have hl : selRpl (frameSel b sz 1) = b.cpl := (selRpl_eq _).trans hl
  have hle : decide (b.cpl ≤ selRpl (frameSel b sz 1)) = true := by simp [hl]
  rw [iretProt_eq]
  refine (bind_passes (checkStackTop_ok (held_of_readable h))).trans <| (bind_passes (frameAt_one_run hp h)).trans <|
    (bind_passes (require_passes hle _ _)).trans ?_
  exact congrFun (if_pos hl) b

theorem iretProt_outer (hp : b.cr0.pg = false) (h : StackReadable b sz sz.bytes) (hl : b.cpl < rplOf (frameSel b sz 1)) :
    iretProt sz b = outerReturn sz b (frameSel b sz 1) b := by
  have hl : b.cpl < selRpl (frameSel b sz 1) := by rwa [selRpl_eq]
  have hle : decide (b.cpl ≤ selRpl (frameSel b sz 1)) = true := decide_eq_true (BitVec.le_of_lt hl)
  have hne : ¬ selRpl (frameSel b sz 1) = b.cpl := fun h => absurd hl (by simp [h])
  rw [iretProt_eq]
  refine (bind_passes (checkStackTop_ok (held_of_readable h))).trans <| (bind_passes (frameAt_one_run hp h)).trans <|
    (bind_passes (require_passes hle _ _)).trans ?_
  exact congrFun (if_neg hne) b

theorem iretProt_raises_top (h : ¬ Held b sz.bytes sz.bytes) : iretProt sz b = .error (.exc (excSS 0#16) b false) := by
  rw [iretProt_eq]
  exact bind_raises (checkStackTop_raises h)

theorem iretProt_raises_level (hp : b.cr0.pg = false) (h : StackReadable b sz sz.bytes)
    (hl : rplOf (frameSel b sz 1) < b.cpl) :
    iretProt sz b = .error (.exc (excGP (selErr (frameSel b sz 1))) b false) := by
  have hl : selRpl (frameSel b sz 1) < b.cpl := by rwa [selRpl_eq]
  have hle : decide (b.cpl ≤ selRpl (frameSel b sz 1)) = false := decide_eq_false (BitVec.not_le.2 hl)
  rw [iretProt_eq]
  refine (bind_passes (checkStackTop_ok (held_of_readable h))).trans <| (bind_passes (frameAt_one_run hp h)).trans ?_
  exact bind_raises (require_fails hle _ _)

/-- What the return to the same level leaves. -/
def sameReturned (b : State) (sz : Sz) (c : Desc) : State :=
  jumped (raised (reflagged (segLoaded b .cs (frameSel b sz 1) c) (returnedFlags b sz (frameAt b sz 2))) (3 * sz.bytes))
    (frameAt b sz 0)

variable {c : Desc}

theorem sameReturn_run (hp : b.cr0.pg = false) (h : FrameHeld b sz 3) (hc : Named b (frameSel b sz 1) (AtLevel b.cpl) c)
    (hw : Within c (frameAt b sz 0)) : sameReturn sz b (frameSel b sz 1) b = .ok ((), sameReturned b sz c) := by
  have hlimit := (toSeg_holds_iff (isCode_of_named hc) (frameSel b sz 1) _).2 hw
  refine (bind_passes (checkStackTop_ok h.1)).trans <| (bind_passes (returnCs_run hp hc)).trans <|
    (bind_passes (frameAt_zero_run hp h (by decide))).trans <| (bind_passes (checkCodeLimit_ok hlimit b)).trans <|
    (bind_passes (frameAt_run hp h (by decide))).trans <| (bind_completes (loadSeg_run hp ..)).trans ?_
  rw [loadFlags_eq]
  rfl

theorem sameReturn_raises_top (h : ¬ Held b 0 (3 * sz.bytes)) (sel : Word) :
    sameReturn sz b sel b = .error (.exc (excSS 0#16) b false) := bind_raises (checkStackTop_raises h)

theorem sameReturn_raises_cs (hp : b.cr0.pg = false) (h : FrameHeld b sz 3) {e : Exc} {sel : Word}
    (hc : NameFails b sel (AtLevel b.cpl) (excGP 0#16) (excGP (selErr sel)) (excNP (selErr sel)) e) :
    sameReturn sz b sel b = .error (.exc e b false) :=
  (bind_passes (checkStackTop_ok h.1)).trans (bind_raises (returnCs_raises hp hc))

theorem sameReturn_raises_ip (hp : b.cr0.pg = false) (h : FrameHeld b sz 3) {sel : Word} (hc : Named b sel (AtLevel b.cpl) c)
    (hw : ¬ Within c (frameAt b sz 0)) : sameReturn sz b sel b = .error (.exc (excGP 0#16) b false) := by
  have hlimit := mt (toSeg_holds_iff (isCode_of_named hc) sel _).1 hw
  exact (bind_passes (checkStackTop_ok h.1)).trans <| (bind_passes (returnCs_run hp hc)).trans <|
    (bind_passes (frameAt_zero_run hp h (by decide))).trans (bind_raises (checkCodeLimit_raises hlimit b))

/-- The state on an outer stack, before the data segment registers are looked at. -/
def outerStack (sz : Sz) (sp : Dword) (ss : Word) (d : Desc) (level : BitVec 2) (u : State) : State :=
  { outerSp sz sp (segLoaded u .ss ss d) with cpl := level }

/-- The state at an outer level. -/
noncomputable def outerEntered (sz : Sz) (sp : Dword) (ss : Word) (d : Desc) (level : BitVec 2) (ip : Dword)
    (u : State) : State :=
  jumped (dropped (iretDrops (outerStack sz sp ss d level u)) iretZero (outerStack sz sp ss d level u)) ip

/-- The end of a return to an outer level, once CS and the flags are loaded. -/
def enterOuter (sz : Sz) (sp : Dword) (ss : Word) (d : Desc) (level : BitVec 2) (ip : Dword) : M Unit := do
  loadSeg .ss ss d
  returnSp sz sp
  modify fun t => { t with cpl := level }
  invalidate iretInvalid .es
  invalidate iretInvalid .fs
  invalidate iretInvalid .gs
  invalidate iretInvalid .ds
  jumpTo ip

theorem cr0_reflagged (u : State) (f : Flags) : (reflagged u f).cr0 = u.cr0 := rfl

theorem enterOuter_run {u : State} (hp : u.cr0.pg = false) (sz : Sz) (sp : Dword) (ss : Word) (d : Desc) (level : BitVec 2)
    (ip : Dword) : enterOuter sz sp ss d level ip u = .ok ((), outerEntered sz sp ss d level ip u) :=
  (bind_completes (loadSeg_run hp ..)).trans <| (bind_completes (returnSp_run ..)).trans <|
    (bind_completes (M.modify_run _ _)).trans <|
    (invalidateAll_run (outerStack sz sp ss d level u) _).trans (jumpTo_run _ _)

/-- What the return to an outer level leaves. -/
noncomputable def outerReturned (b : State) (sz : Sz) (c d : Desc) : State :=
  outerEntered sz (frameAt b sz 3) (frameSel b sz 4) d (rplOf (frameSel b sz 1)) (frameAt b sz 0)
    (reflagged (segLoaded b .cs (frameSel b sz 1) c) (returnedFlags b sz (frameAt b sz 2)))

variable {d : Desc}

theorem outerReturn_run (hp : b.cr0.pg = false) (h : FrameHeld b sz 5)
    (hc : Named b (frameSel b sz 1) (AtLevel (rplOf (frameSel b sz 1))) c)
    (hd : Named b (frameSel b sz 4) (StackAt (frameSel b sz 4) (rplOf (frameSel b sz 1))) d)
    (hw : Within c (frameAt b sz 0)) : outerReturn sz b (frameSel b sz 1) b = .ok ((), outerReturned b sz c d) := by
  have hlimit := (toSeg_holds_iff (isCode_of_named hc) (frameSel b sz 1) _).2 hw
  have hload : (reflagged (segLoaded b .cs (frameSel b sz 1) c) (returnedFlags b sz (frameAt b sz 2))).cr0.pg = false := by
    rwa [cr0_reflagged, segLoaded_cr0]
  rw [outerReturned]
  rw [← selRpl_eq] at hc hd ⊢
  refine (bind_passes (checkStackTop_ok h.1)).trans <| (bind_passes (returnCs_run hp hc)).trans <|
    (bind_passes (frameAt_run hp h (i := 4) (by decide))).trans <| (bind_passes (returnSs_run hp hd)).trans <|
    (bind_passes (frameAt_zero_run hp h (by decide))).trans <| (bind_passes (checkCodeLimit_ok hlimit b)).trans <|
    (bind_passes (frameAt_run hp h (i := 2) (by decide))).trans <|
    (bind_passes (frameAt_run hp h (i := 3) (by decide))).trans <| (bind_completes (loadSeg_run hp ..)).trans ?_
  rw [loadFlags_eq]
  exact enterOuter_run hload ..

theorem outerReturn_raises_top (h : ¬ Held b 0 (5 * sz.bytes)) (sel : Word) :
    outerReturn sz b sel b = .error (.exc (excSS 0#16) b false) := bind_raises (checkStackTop_raises h)

variable {sel : Word} {e : Exc}

theorem outerReturn_raises_cs (hp : b.cr0.pg = false) (h : FrameHeld b sz 5)
    (hc : NameFails b sel (AtLevel (rplOf sel)) (excGP 0#16) (excGP (selErr sel)) (excNP (selErr sel)) e) :
    outerReturn sz b sel b = .error (.exc e b false) := by
  rw [← selRpl_eq] at hc
  exact (bind_passes (checkStackTop_ok h.1)).trans (bind_raises (returnCs_raises hp hc))

theorem outerReturn_raises_ss (hp : b.cr0.pg = false) (h : FrameHeld b sz 5) (hc : Named b sel (AtLevel (rplOf sel)) c)
    (hd : NameFails b (frameSel b sz 4) (StackAt (frameSel b sz 4) (rplOf sel)) (excGP 0#16)
      (excGP (selErr (frameSel b sz 4))) (excNP (selErr (frameSel b sz 4))) e) :
    outerReturn sz b sel b = .error (.exc e b false) := by
  rw [← selRpl_eq] at hc hd
  exact (bind_passes (checkStackTop_ok h.1)).trans <| (bind_passes (returnCs_run hp hc)).trans <|
    (bind_passes (frameAt_run hp h (i := 4) (by decide))).trans (bind_raises (returnSs_raises hp hd))

theorem outerReturn_raises_ip (hp : b.cr0.pg = false) (h : FrameHeld b sz 5) (hc : Named b sel (AtLevel (rplOf sel)) c)
    (hd : Named b (frameSel b sz 4) (StackAt (frameSel b sz 4) (rplOf sel)) d) (hw : ¬ Within c (frameAt b sz 0)) :
    outerReturn sz b sel b = .error (.exc (excGP 0#16) b false) := by
  have hlimit := mt (toSeg_holds_iff (isCode_of_named hc) sel _).1 hw
  rw [← selRpl_eq] at hc hd
  exact (bind_passes (checkStackTop_ok h.1)).trans <| (bind_passes (returnCs_run hp hc)).trans <|
    (bind_passes (frameAt_run hp h (i := 4) (by decide))).trans <| (bind_passes (returnSs_run hp hd)).trans <|
    (bind_passes (frameAt_zero_run hp h (by decide))).trans (bind_raises (checkCodeLimit_raises hlimit b))

end

/-! ## What the return stores -/

theorem accessedByte_reflagged (u : State) (f : Flags) (sel : Word) (d : Desc) :
    accessedByte (reflagged u f) sel d = accessedByte u sel d := rfl

theorem byte_reflagged (u : State) (f : Flags) (a : Nat) : (reflagged u f).byte a = u.byte a := rfl
theorem byte_releveled (u : State) (l : BitVec 2) (a : Nat) : State.byte { u with cpl := l } a = u.byte a := rfl
theorem byte_jumped (u : State) (t : Dword) (a : Nat) : (jumped u t).byte a = u.byte a := rfl
theorem byte_raised (u : State) (n : Nat) (a : Nat) : (raised u n).byte a = u.byte a := setSp_byte ..

theorem byte_outerSp (sz : Sz) (sp : Dword) (u : State) (a : Nat) : (outerSp sz sp u).byte a = u.byte a := by
  unfold outerSp
  split
  · exact setSp_byte ..
  · exact setSp_byte ..

theorem byte_dropped (bad : SegReg → Prop) (zero : SegReg → SegReg) (u : State) (a : Nat) :
    (dropped bad zero u).byte a = u.byte a := rfl

section
variable {b : State} {sz : Sz} {c d : Desc} {a : Nat}

theorem byte_sameReturned_other (h : a ∉ accessedByte b (frameSel b sz 1) c) : (sameReturned b sz c).byte a = b.byte a := by
  rw [sameReturned, byte_jumped, byte_raised, byte_reflagged, byte_segLoaded_other h]

theorem byte_outerReturned_other (hc : a ∉ accessedByte b (frameSel b sz 1) c)
    (hd : a ∉ accessedByte b (frameSel b sz 4) d) : (outerReturned b sz c d).byte a = b.byte a := by
  have hd : a ∉ accessedByte (reflagged (segLoaded b .cs (frameSel b sz 1) c) (returnedFlags b sz (frameAt b sz 2)))
      (frameSel b sz 4) d := by
    rwa [accessedByte_reflagged, accessedByte_congr (segLoaded_gdtr ..) (segLoaded_ldtr ..)]
  rw [outerReturned, outerEntered, byte_jumped, byte_dropped, outerStack, byte_releveled, byte_outerSp,
    byte_segLoaded_other hd, byte_reflagged, byte_segLoaded_other hc]

end

/-! ## The instruction -/

/-- What an IRET that completes leaves: NMI is unblocked. -/
def unblocked (t : State) : State := { t with nmiBlocked := false }

section
variable {os : Sz} {s : State}

theorem iret_completes (ha : Accepts s false) {t : State} (h : returnFromInterrupt os (begun s) = .ok ((), t)) :
    exec (.iret os) s = .next (retire s t) := performKeepingRF_ok (lock_eq_false_of_accepts ha) ha.2 h

theorem iret_takes (ha : Accepts s false) {e : Exc} {u : State}
    (h : returnFromInterrupt os (begun s) = .error (.exc e u false)) (hf : Found (begun s) u) : Takes (.iret os) s u e := by
  have hcr2 : u.cr2 = s.cr2 := by rw [hf.same]; rfl
  have hback : rollback s u false = { s with draws := u.draws } := by simp [rollback, hcr2]
  exact (performKeepingRF_exc (lock_eq_false_of_accepts ha) ha.2 h).trans (congrArg (takeFault e) hback)

theorem iret_raises (ha : Accepts s false) {e : Exc}
    (h : returnFromInterrupt os (begun s) = .error (.exc e (begun s) false)) : exec (.iret os) s = takeFault e s :=
  iret_takes (u := begun s) ha h (found_refl _)

end

/-! ## Which return it is -/

section
variable {b : State} {os : Sz}

/-- IRET pops CS, EIP and the flags as in Real Address Mode. -/
def RealReturn (b : State) : Prop := b.mode = .real ∨ (b.mode = .v86 ∧ b.flags.iopl = 3#2)

theorem returnFromInterrupt_real (h : RealReturn b) :
    returnFromInterrupt os b = (iretReal os >>= fun _ => modify unblocked) b :=
  (bind_passes (M.get_run b)).trans (congrFun (if_pos h) b)

theorem returnFromInterrupt_denied (hm : b.mode = .v86) (hl : b.flags.iopl ≠ 3#2) :
    returnFromInterrupt os b = .error (.exc (excGP 0#16) b false) := by
  have hreal : ¬ (b.mode = .real ∨ (b.mode = .v86 ∧ b.flags.iopl = 3#2)) := by simp [hm, hl]
  exact (bind_passes (M.get_run b)).trans (congrFun ((if_neg hreal).trans (if_pos hm)) b)

/-- In protected mode with NT = 0 an IRETD at CPL 0 looks at VM in the image first. -/
theorem returnFromInterrupt_prot (hm : b.mode = .prot) (hn : b.flags.nt = false) :
    returnFromInterrupt os b = (if os = .s32 ∧ b.cpl = 0#2 then
        checkStackTop 8 4 >>= fun _ => stackRead .s32 8 >>= fun fl =>
          if fl.getLsbD 17 then iretToV86 >>= fun _ => modify unblocked else iretProt os >>= fun _ => modify unblocked
      else iretProt os >>= fun _ => modify unblocked) b := by
  have hreal : ¬ (b.mode = .real ∨ (b.mode = .v86 ∧ b.flags.iopl = 3#2)) := by simp [hm]
  have hv86 : ¬ b.mode = .v86 := by simp [hm]
  have hnt : ¬ b.flags.nt = true := by simp [hn]
  exact (bind_passes (M.get_run b)).trans (congrFun ((if_neg hreal).trans ((if_neg hv86).trans (if_neg hnt))) b)

theorem returnFromInterrupt_stays (hm : b.mode = .prot) (hn : b.flags.nt = false) (hp : b.cr0.pg = false)
    (h : StaysProtected b os) : returnFromInterrupt os b = (iretProt os >>= fun _ => modify unblocked) b := by
  rw [returnFromInterrupt_prot hm hn]
  by_cases hlook : os = .s32 ∧ b.cpl = 0#2
  · obtain ⟨hread, hvm⟩ := h hlook.1 hlook.2
    have hvm : ¬ (stackElement b .s32 8).getLsbD 17 = true := fun h => Bool.false_ne_true (hvm.symm.trans h)
    refine (congrFun (if_pos hlook) b).trans ?_
    exact (bind_passes (checkStackTop_ok (held_of_readable hread))).trans <| (bind_passes (stackRead_run hp hread)).trans <|
      congrFun (if_neg hvm) b
  · exact congrFun (if_neg hlook) b

theorem returnFromInterrupt_toV86 (hm : b.mode = .prot) (hn : b.flags.nt = false) (hp : b.cr0.pg = false)
    (hl : b.cpl = 0#2) (hread : StackReadable b .s32 8) (hvm : (frameAt b .s32 2).getLsbD 17 = true) :
    returnFromInterrupt .s32 b = (iretToV86 >>= fun _ => modify unblocked) b := by
  rw [returnFromInterrupt_prot hm hn]
  refine (congrFun (if_pos ⟨rfl, hl⟩) b).trans ?_
  exact (bind_passes (checkStackTop_ok (held_of_readable hread))).trans <| (bind_passes (stackRead_run hp hread)).trans <|
    congrFun (if_pos hvm) b

theorem returnFromInterrupt_short (hm : b.mode = .prot) (hn : b.flags.nt = false) (hl : b.cpl = 0#2) (h : ¬ Held b 8 4) :
    returnFromInterrupt .s32 b = .error (.exc (excSS 0#16) b false) := by
  rw [returnFromInterrupt_prot hm hn]
  exact (congrFun (if_pos ⟨rfl, hl⟩) b).trans (bind_raises (checkStackTop_raises h))

/-! ## The return in protected mode: the two claims -/

/-- The return that `IretEnters` describes runs so and stores so. -/
theorem iretProt_of_enters (hp : b.cr0.pg = false) {t : State} {stored : List Nat} (h : IretEnters os b t stored) :
    iretProt os b = .ok ((), t) ∧ ∀ a, a ∉ stored → t.byte a = b.byte a := by
  obtain ⟨-, c, hc, hw, ⟨hl, hf, rfl, rfl⟩ | ⟨hl, hf, d, hd, rfl, rfl⟩⟩ := h
  · refine ⟨?_, fun a ha => byte_sameReturned_other ha⟩
    rw [hl] at hc
    exact (iretProt_same hp (readable_one_of_frameHeld hf (by decide)) hl).trans (sameReturn_run hp hf hc hw)
  · refine ⟨?_, fun a ha => byte_outerReturned_other (fun h => ha (List.mem_append_left _ h))
      (fun h => ha (List.mem_append_right _ h))⟩
    exact (iretProt_outer hp (readable_one_of_frameHeld hf (by decide)) hl).trans (outerReturn_run hp hf hc hd hw)

/-- So does the return that `IretFails` describes raise its exception. -/
theorem iretProt_of_fails (hp : b.cr0.pg = false) {e : Exc} (h : IretFails os b e) :
    iretProt os b = .error (.exc e b false) := by
  obtain ⟨-, ⟨hheld, rfl⟩ | ⟨hread, ⟨hl, rfl⟩ | ⟨hl, hfail⟩ | ⟨hl, hfail⟩⟩⟩ := h
  · exact iretProt_raises_top hheld
  · exact iretProt_raises_level hp hread hl
  · rw [iretProt_same hp hread hl]
    rw [hl] at hfail
    obtain ⟨hheld, rfl⟩ | ⟨hf, hc | ⟨c, hc, hw, rfl⟩⟩ := hfail
    · exact sameReturn_raises_top hheld _
    · exact sameReturn_raises_cs hp hf hc
    · exact sameReturn_raises_ip hp hf hc hw
  · rw [iretProt_outer hp hread hl]
    obtain ⟨hheld, rfl⟩ | ⟨hf, hc | ⟨c, hc, hd | ⟨d, hd, hw, rfl⟩⟩⟩ := hfail
    · exact outerReturn_raises_top hheld _
    · exact outerReturn_raises_cs hp hf hc
    · exact outerReturn_raises_ss hp hf hc hd
    · exact outerReturn_raises_ip hp hf hc hd hw

end

/-! ## Real Address Mode, and V86 mode with IOPL 3 -/

/-- An element of the frame, read at its own width, is its value zero-extended. -/
theorem frameElem_eq (sz : Sz) (bs : List Byte) (k : Nat) : frameElem sz bs k = (element sz bs k).setWidth 32 := by
  have hlen : 8 * ((bs.drop (k * sz.bytes)).take sz.bytes).length ≤ sz.width.bits :=
    (Nat.mul_le_mul_left 8 (List.length_take_le ..)).trans (by cases sz <;> decide)
  have hlt : leNat ((bs.drop (k * sz.bytes)).take sz.bytes) < 2 ^ sz.width.bits :=
    (leNat_lt _).trans_le (Nat.pow_le_pow_right (by decide) hlen)
  apply BitVec.eq_of_toNat_eq
  rw [frameElem, element, leValue, leValue, BitVec.toNat_setWidth, BitVec.toNat_ofNat, BitVec.toNat_ofNat,
    Nat.mod_eq_of_lt hlt]

/-- What IRET takes from the flags it replaces is fixed by them, by CR0.PE and by CPL. -/
theorem returnedFlags_congr {u v : State} (hf : v.flags = u.flags) (h0 : v.cr0 = u.cr0) (hc : v.cpl = u.cpl) (sz : Sz)
    (image : Dword) : returnedFlags v sz image = returnedFlags u sz image := by
  simp only [returnedFlags, poppedFlags, hf, h0, hc]

/-- The frame on the stack with CS and the stack pointer taken from it. -/
def realReturned (u : State) (sz : Sz) (bs : List Byte) : State :=
  realCs (raised u (3 * sz.bytes)) ((frameElem sz bs 1).setWidth 16)

section
variable {b u : State} {os : Sz} {as : List Nat}

theorem returnedFlags_realReturned (bs : List Byte) (image : Dword) :
    returnedFlags (realReturned u os bs) os image = returnedFlags u os image :=
  returnedFlags_congr (by simp [realReturned, realCs, realSeg, raised]) (by simp [realReturned, realCs, realSeg, raised])
    (by simp [realReturned, realCs, realSeg, raised]) os image

theorem frame_run (h : OpensMem b .ss b.sp (3 * os.bytes) false as u) :
    memBytes .ss b.sp (3 * os.bytes) b = .ok (as.map u.byte, u) :=
  (bind_completes h).trans (readPhys_run as u)

theorem iretReal_run (h : OpensMem b .ss b.sp (3 * os.bytes) false as u)
    (hip : (frameElem os (as.map u.byte) 0).toNat ≤ 0xFFFF) :
    iretReal os b = .ok ((), jumped (reflagged (realReturned u os (as.map u.byte))
      (returnedFlags u os (frameElem os (as.map u.byte) 2))) (frameElem os (as.map u.byte) 0)) := by
  rw [← returnedFlags_realReturned (as.map u.byte), ← loadFlags_eq]
  exact (bind_passes (M.get_run b)).trans <| (bind_completes (frame_run h)).trans <|
    (bind_passes (require_passes (decide_eq_true hip) _ _)).trans <| (bind_completes (addStackPtr_run _ u)).trans <|
    (bind_completes (loadRealSeg_run ..)).trans <| (bind_completes (M.modify_run _ (realReturned u os (as.map u.byte)))).trans
    (jumpTo_run _ _)

theorem iretReal_raises_frame {e : Exc} (h : b.accessExc .ss b.sp (3 * os.bytes) false = some e) :
    iretReal os b = .error (.exc e b false) :=
  (bind_passes (M.get_run b)).trans (bind_raises (bind_raises (openMem_exc h)))

theorem iretReal_raises_ip (h : OpensMem b .ss b.sp (3 * os.bytes) false as u)
    (hip : ¬ (frameElem os (as.map u.byte) 0).toNat ≤ 0xFFFF) : iretReal os b = .error (.exc (excGP 0#16) u false) :=
  (bind_passes (M.get_run b)).trans <| (bind_completes (frame_run h)).trans <|
    bind_raises (require_fails (decide_eq_false hip) _ _)

end

/-! ## The return to V86 mode -/

/-- The flags, CPL and ESP of the V86 task, before its segment registers. -/
def monitorLeft (b : State) : State :=
  { b with flags := allFlags (frameAt b .s32 2), cpl := 3#2, regs := { b.regs with esp := frameAt b .s32 3 } }

/-- Its segment registers, in the order of the listing. -/
def realSegs (u : State) (cs ss es ds fs gs : Word) : State :=
  realSeg (realSeg (realSeg (realSeg (realSeg (realSeg u .cs cs) .ss ss) .es es) .ds ds) .fs fs) .gs gs

/-- The state the return to V86 mode leaves. -/
def v86Entered (b : State) : State :=
  jumped (realSegs (monitorLeft b) (frameSel b .s32 1) (frameSel b .s32 4) (frameSel b .s32 5) (frameSel b .s32 6)
    (frameSel b .s32 7) (frameSel b .s32 8)) (frameAt b .s32 0)

theorem realSeg_mem (u : State) (r : Sreg) (sel : Word) : (realSeg u r sel).mem = u.mem := setSeg_mem ..

theorem realSegs_mem (u : State) (cs ss es ds fs gs : Word) : (realSegs u cs ss es ds fs gs).mem = u.mem := by
  simp only [realSegs, realSeg_mem]

theorem realSegs_run (u : State) (cs ss es ds fs gs : Word) (f : M Unit) :
    (loadRealSeg .cs cs >>= fun _ => loadRealSeg .ss ss >>= fun _ => loadRealSeg .es es >>= fun _ =>
      loadRealSeg .ds ds >>= fun _ => loadRealSeg .fs fs >>= fun _ => loadRealSeg .gs gs >>= fun _ => f) u =
    f (realSegs u cs ss es ds fs gs) :=
  (bind_completes (loadRealSeg_run ..)).trans <| (bind_completes (loadRealSeg_run ..)).trans <|
    (bind_completes (loadRealSeg_run ..)).trans <| (bind_completes (loadRealSeg_run ..)).trans <|
    (bind_completes (loadRealSeg_run ..)).trans (bind_completes (loadRealSeg_run ..))

section
variable {b : State}

theorem v86Frame_run (hp : b.cr0.pg = false) (h : FrameHeld b .s32 9) (k : Nat) (hk : k < 9) :
    stackRead .s32 (k * 4) b = .ok (frameAt b .s32 k, b) := frameAt_run hp h hk

/-- What follows the reading of the frame of `b`. -/
def enterV86 (b : State) : M Unit := do
  require (decide ((frameAt b .s32 0).toNat ≤ 0xFFFF)) (excGP 0#16)
  modify fun s =>
    { s with flags := flagsOfWord (frameAt b .s32 2), cpl := 3#2, regs := { s.regs with esp := frameAt b .s32 3 } }
  loadRealSeg .cs (frameSel b .s32 1)
  loadRealSeg .ss (frameSel b .s32 4)
  loadRealSeg .es (frameSel b .s32 5)
  loadRealSeg .ds (frameSel b .s32 6)
  loadRealSeg .fs (frameSel b .s32 7)
  loadRealSeg .gs (frameSel b .s32 8)
  jumpTo (frameAt b .s32 0)

theorem iretToV86_frame (hp : b.cr0.pg = false) (h : FrameHeld b .s32 9) : iretToV86 b = enterV86 b b :=
  (bind_passes (checkStackTop_ok h.1)).trans <| (bind_passes (v86Frame_run hp h 0 (by decide))).trans <|
    (bind_passes (v86Frame_run hp h 1 (by decide))).trans <| (bind_passes (v86Frame_run hp h 2 (by decide))).trans <|
    (bind_passes (v86Frame_run hp h 3 (by decide))).trans <| (bind_passes (v86Frame_run hp h 4 (by decide))).trans <|
    (bind_passes (v86Frame_run hp h 5 (by decide))).trans <| (bind_passes (v86Frame_run hp h 6 (by decide))).trans <|
    (bind_passes (v86Frame_run hp h 7 (by decide))).trans (bind_passes (v86Frame_run hp h 8 (by decide)))

theorem iretToV86_run (hp : b.cr0.pg = false) (h : FrameHeld b .s32 9) (hip : (frameAt b .s32 0).toNat ≤ 0xFFFF) :
    iretToV86 b = .ok ((), v86Entered b) :=
  (iretToV86_frame hp h).trans <| (bind_passes (require_passes (decide_eq_true hip) _ _)).trans <|
    (bind_completes (M.modify_run _ b)).trans <| (realSegs_run (monitorLeft b) ..).trans (jumpTo_run _ _)

theorem iretToV86_raises_frame (h : ¬ Held b 0 36) : iretToV86 b = .error (.exc (excSS 0#16) b false) :=
  bind_raises (checkStackTop_raises h)

theorem iretToV86_raises_ip (hp : b.cr0.pg = false) (h : FrameHeld b .s32 9) (hip : ¬ (frameAt b .s32 0).toNat ≤ 0xFFFF) :
    iretToV86 b = .error (.exc (excGP 0#16) b false) :=
  (iretToV86_frame hp h).trans (bind_raises (require_fails (decide_eq_false hip) _ _))

theorem v86Entered_mem (b : State) : (v86Entered b).mem = b.mem := by
  have hjumped (u : State) (ip : Dword) : (jumped u ip).mem = u.mem := rfl
  rw [v86Entered, hjumped, realSegs_mem]
  rfl

theorem iretToV86_of_enters (hp : b.cr0.pg = false) {t : State} (h : IretToV86 b t) :
    iretToV86 b = .ok ((), t) ∧ t.mem = b.mem := by
  obtain ⟨-, -, hf, hip, ht⟩ := h
  have ht : t = v86Entered b := ht
  rw [ht]
  exact ⟨iretToV86_run hp hf hip, v86Entered_mem b⟩

/-- At CPL 0 its frame holds the flags that say so. -/
theorem readable_flags_of_frameHeld (h : FrameHeld b .s32 9) : StackReadable b .s32 8 :=
  readable_of_frameHeld h (i := 2) (by decide)

end

/-! ## The claims about the instruction -/

section
variable {os : Sz} {s : State}

theorem iret_real (ha : Accepts s false) (hm : RealReturn (begun s)) {as : List Nat} {u : State}
    (h : OpensMem (begun s) .ss (begun s).sp (3 * os.bytes) false as u)
    (hip : (frameElem os (as.map u.byte) 0).toNat ≤ 0xFFFF) :
    exec (.iret os) s = .next (retire s (unblocked (jumped (reflagged (realReturned u os (as.map u.byte))
      (returnedFlags s os (frameElem os (as.map u.byte) 2))) (frameElem os (as.map u.byte) 0)))) := by
  have hf : Found (begun s) u := found_of_opensMem h
  have hflags : u.flags = s.flags := by rw [hf.same]; rfl
  have h0 : u.cr0 = s.cr0 := by rw [hf.same]; rfl
  have hc : u.cpl = s.cpl := by rw [hf.same]; rfl
  have hret : returnedFlags u os (frameElem os (as.map u.byte) 2) = returnedFlags s os (frameElem os (as.map u.byte) 2) :=
    returnedFlags_congr hflags h0 hc ..
  rw [← hret]
  exact iret_completes ha ((returnFromInterrupt_real hm).trans (bind_completes (iretReal_run h hip)))

theorem iret_real_raises_ip (ha : Accepts s false) (hm : RealReturn (begun s)) {as : List Nat}
    {u : State} (h : OpensMem (begun s) .ss (begun s).sp (3 * os.bytes) false as u)
    (hip : ¬ (frameElem os (as.map u.byte) 0).toNat ≤ 0xFFFF) : Takes (.iret os) s u (excGP 0#16) :=
  iret_takes ha ((returnFromInterrupt_real hm).trans (bind_error (iretReal_raises_ip h hip))) (found_of_opensMem h)

variable (ha : Accepts s false) (hm : (begun s).mode = .prot) (hn : (begun s).flags.nt = false)
  (hp : (begun s).cr0.pg = false)
include ha hm hn hp

theorem iret_prot {t : State} {stored : List Nat} (h : IretEnters os (begun s) t stored) :
    exec (.iret os) s = .next (retire s (unblocked t)) ∧ ∀ a, a ∉ stored → t.byte a = s.byte a := by
  obtain ⟨hrun, hbyte⟩ := iretProt_of_enters hp h
  exact ⟨iret_completes ha ((returnFromInterrupt_stays hm hn hp h.1).trans (bind_completes hrun)), hbyte⟩

theorem iret_prot_raises {e : Exc} (h : IretFails os (begun s) e) : exec (.iret os) s = takeFault e s :=
  iret_raises ha ((returnFromInterrupt_stays hm hn hp h.1).trans (bind_raises (iretProt_of_fails hp h)))

theorem iret_toV86 {t : State} (h : IretToV86 (begun s) t) :
    exec (.iret .s32) s = .next (retire s (unblocked t)) ∧ t.mem = s.mem := by
  obtain ⟨hrun, hmem⟩ := iretToV86_of_enters hp h
  obtain ⟨hl, hvm, hf, -⟩ := h
  have hto := returnFromInterrupt_toV86 hm hn hp hl (readable_flags_of_frameHeld hf) hvm
  exact ⟨iret_completes ha (hto.trans (bind_completes hrun)), hmem⟩

end

/-- Settles O26: each return runs as its listing says, and IRET adds only the unblocking of NMI. -/
theorem interruptReturn : Obligations.InterruptReturn := by
  intro os s ha
  refine ⟨fun hm => ⟨fun e h => ?frame, fun as u h => ⟨fun hip => ⟨found_of_opensMem h, ?real⟩, fun hip => ?ip⟩⟩,
    fun hm hl => iret_raises ha (returnFromInterrupt_denied (b := begun s) hm hl),
    fun hm hn hp => ⟨fun t stored h => iret_prot ha hm hn hp h, fun e h => iret_prot_raises ha hm hn hp h, ?v86⟩⟩
  case frame => exact iret_raises ha ((returnFromInterrupt_real (b := begun s) hm).trans (bind_raises (iretReal_raises_frame h)))
  case real =>
    simp only [← frameElem_eq] at hip ⊢
    exact iret_real ha hm h hip
  case ip =>
    simp only [← frameElem_eq] at hip
    exact iret_real_raises_ip ha hm h hip
  case v86 =>
    rintro rfl
    refine ⟨fun t h => iret_toV86 ha hm hn hp h, fun hl h => iret_raises ha (returnFromInterrupt_short hm hn hl h),
      fun hl hread hvm => ?_⟩
    have hto := returnFromInterrupt_toV86 (b := begun s) hm hn hp hl hread hvm
    exact ⟨fun h => iret_raises ha (hto.trans (bind_raises (iretToV86_raises_frame h))),
      fun hf hip => iret_raises ha (hto.trans (bind_raises (iretToV86_raises_ip hp hf hip)))⟩

end Sys2Proof.Machine
end

section
/-! PROOFS. The task switch, paging off (60_exceptions.md R530, R531): what is saved, what is read, and the loads after the
commit point. -/

namespace Sys2Proof.Machine

open Sys2Proof.Claims

/-! ## Fields stored -/

theorem stores_cons (f : Nat × Dword × Dword) (l : List (Nat × Dword × Dword)) (u : State) :
    stores (f :: l) u = stores l (u.setBytes (span f.2.1 f.1) (leBytes f.1 f.2.2)) := rfl

/-- Storing changes memory and what the TLB may not have seen of it. -/
theorem stores_eq (l : List (Nat × Dword × Dword)) (u : State) :
    stores l u = { u with mem := (stores l u).mem, tlb := (stores l u).tlb } := by
  induction l generalizing u with
  | nil => rfl
  | cons f l ih =>
    rw [stores_cons, ih, setBytes_eq]

section
variable (l : List (Nat × Dword × Dword)) (u : State)

theorem stores_cr0 : (stores l u).cr0 = u.cr0 := by rw [stores_eq]
theorem stores_tr : (stores l u).tr = u.tr := by rw [stores_eq]
theorem stores_taskFields (f : Flags) (ret : Dword) : (stores l u).taskFields f ret = u.taskFields f ret := by
  rw [stores_eq]
  rfl

end

theorem saveFields_run {u : State} (hp : u.cr0.pg = false) (base : Dword) (l : List (Nat × Dword × Dword)) :
    saveFields base l u = .ok ((), stores (l.map fun f => (f.1, base + f.2.1, f.2.2)) u) := by
  induction l generalizing u with
  | nil => rfl
  | cons f l ih =>
    obtain ⟨n, o, v⟩ := f
    exact (bind_completes (linWrite_off hp (base + o) n v)).trans (ih (by rwa [setBytes_cr0]))

theorem taskFields_eq (b : State) (f : Flags) (ret : Dword) :
    (b.taskFields f ret).map (fun x => (x.1, b.tr.base + x.2.1, x.2.2)) = taskFields b f ret := by
  unfold State.taskFields taskFields
  rw [oldTss_eq]
  cases oldTask b <;> rfl

theorem setBusy_run {u : State} (hp : u.cr0.pg = false) (sel : Word) (busy : Bool) :
    setBusy sel busy u = .ok ((), stores (busyField u sel busy) u) := by
  refine (bind_passes (M.get_run u)).trans <| (bind_passes (translateAll_off hp ..)).trans ?_
  rw [selOffset_eq]
  rfl

/-! ## The old task -/

section
variable (k : SwitchKind) {b : State}

theorem taskReleased_run (hp : b.cr0.pg = false) :
    (if k = .jmp ∨ k = .iret then setBusy b.tr.sel false else pure ()) b = .ok ((), taskReleased k b) := by
  rw [taskReleased, M.ite_run]
  split
  · exact setBusy_run hp ..
  · rfl

theorem taskReleased_stores (b : State) : ∃ l, taskReleased k b = stores l b := by
  rw [taskReleased]
  split
  · exact ⟨_, rfl⟩
  · exact ⟨[], rfl⟩

theorem taskSaved_run (hp : b.cr0.pg = false) (ret : Dword) :
    saveTask (if k = .iret then { b.flags with nt := false } else b.flags) ret (taskReleased k b) =
      .ok ((), taskSaved k ret b) := by
  obtain ⟨l, hl⟩ := taskReleased_stores k b
  refine (bind_passes (M.get_run _)).trans ?_
  rw [taskSaved, hl, stores_tr, stores_taskFields, saveFields_run (by rwa [stores_cr0]), taskFields_eq]

theorem taskSaved_cr0 (ret : Dword) (b : State) : (taskSaved k ret b).cr0 = b.cr0 := by
  obtain ⟨l, hl⟩ := taskReleased_stores k b
  rw [taskSaved, stores_cr0, hl, stores_cr0]

theorem leBytes_selector (sel : Word) : leBytes 2 (sel.setWidth 32) = leBytes 2 sel := by
  have hhigh : ((sel.setWidth 32) >>> 8).setWidth 8 = (sel >>> 8).setWidth 8 := by
    apply BitVec.eq_of_toNat_eq
    simp only [BitVec.toNat_setWidth, BitVec.toNat_ushiftRight]
    have := sel.isLt
    omega
  have hlow : (sel.setWidth 32).setWidth 8 = sel.setWidth 8 := by
    apply BitVec.eq_of_toNat_eq
    simp only [BitVec.toNat_setWidth]
    omega
  simp only [leBytes, hhigh, hlow]

theorem taskLinked_run (hp : b.cr0.pg = false) (td : Desc) (ret : Dword) :
    (if k.nested then linWrite td.base 2 b.tr.sel else pure ()) (taskSaved k ret b) = .ok ((), taskLinked k td ret b) := by
  have hp : (taskSaved k ret b).cr0.pg = false := by rwa [taskSaved_cr0]
  have hlink : linWrite td.base 2 b.tr.sel (taskSaved k ret b) =
      .ok ((), stores [(2, td.base, b.tr.sel.setWidth 32)] (taskSaved k ret b)) := by
    rw [linWrite_off hp, ← leBytes_selector]
    rfl
  rw [taskLinked]
  cases k
  · rfl
  · exact hlink
  · exact hlink
  · rfl

theorem taskLinked_cr0 (td : Desc) (ret : Dword) (b : State) : (taskLinked k td ret b).cr0 = b.cr0 := by
  rw [taskLinked]
  split
  · rw [stores_cr0, taskSaved_cr0]
  · rw [taskSaved_cr0]

theorem taskMarked_run (hp : b.cr0.pg = false) (sel : Word) (td : Desc) (ret : Dword) :
    (if k ≠ .iret then setBusy sel true else pure ()) (taskLinked k td ret b) = .ok ((), taskMarked k sel td ret b) := by
  have hp : (taskLinked k td ret b).cr0.pg = false := by rwa [taskLinked_cr0]
  rw [taskMarked, M.ite_run]
  by_cases h : k = .iret
  · simp [h]
  · simp only [h, ne_eq, not_false_eq_true, if_true, if_false]
    exact setBusy_run hp ..

theorem taskMarked_cr0 (sel : Word) (td : Desc) (ret : Dword) (b : State) : (taskMarked k sel td ret b).cr0 = b.cr0 := by
  rw [taskMarked]
  split
  · rw [taskLinked_cr0]
  · rw [stores_cr0, taskLinked_cr0]

/-- The part of a switch before its commit point. -/
theorem switchTasks_eq (t : Word) (td : Desc) (ret : Dword) (b : State) :
    switchTasks k t td ret b =
      (require (decide ((if td.tss386 then 0x67 else 0x2B) ≤ td.limit.toNat)) (excTS (selErr t)) >>= fun _ =>
        (if k = .jmp ∨ k = .iret then setBusy b.tr.sel false else pure ()) >>= fun _ =>
        saveTask (if k = .iret then { b.flags with nt := false } else b.flags) ret >>= fun _ =>
        (if k.nested then linWrite td.base 2 b.tr.sel else pure ()) >>= fun _ =>
        (if k ≠ .iret then setBusy t true else pure ()) >>= fun _ => enterTask k t td) b := by
  cases k <;> rfl

theorem taskHolds_iff (td : Desc) :
    decide ((if td.tss386 then 0x67 else 0x2B) ≤ td.limit.toNat) = true ↔ TaskHolds td := by
  simp [TaskHolds, Desc.tss386]

theorem switchTasks_enters (hp : b.cr0.pg = false) {td : Desc} (h : TaskHolds td) (t : Word) (ret : Dword) :
    switchTasks k t td ret b = enterTask k t td (taskMarked k t td ret b) := by
  rw [switchTasks_eq]
  exact (bind_passes (require_passes ((taskHolds_iff td).2 h) _ _)).trans <| (bind_completes (taskReleased_run k hp)).trans <|
    (bind_completes (taskSaved_run k hp ret)).trans <| (bind_completes (taskLinked_run k hp td ret)).trans
    (bind_completes (taskMarked_run k hp t td ret))

theorem switchTasks_short {td : Desc} (h : ¬ TaskHolds td) (t : Word) (ret : Dword) :
    switchTasks k t td ret b = .error (.exc (excTS (selErr t)) b false) := by
  rw [switchTasks_eq]
  exact bind_raises (require_fails (Bool.eq_false_iff.2 (mt (taskHolds_iff td).1 h)) _ _)

end

/-! ## The new task as its TSS holds it -/

/-- The reader of the layout that the new TSS has. -/
def readTask (td : Desc) : M TaskImage := if td.tss386 then readTask386 td.base else readTask286 td.base

theorem readTask_run {v : State} (hp : v.cr0.pg = false) (td : Desc) : readTask td v = .ok (incoming v td, v) := by
  have hlayout : (td.typ = 9#4 ∨ td.typ = 11#4) ↔ td.tss386 = true := by simp [Desc.tss386]
  rw [readTask, incoming, M.ite_run]
  cases h : td.tss386
  · rw [if_neg (by simp), if_neg (by simp [hlayout, h])]
    simp only [readTask286, M.bind_run, linRead_word hp, M.pure_run]
  · rw [if_pos rfl, if_pos (hlayout.2 h)]
    simp only [readTask386, M.bind_run, linRead_word hp, linRead_dword hp, M.pure_run]

/-! ## One load of the new task -/

/-- What every load of a new task leaves: paging off, and the VM flag of the task. -/
def InTask (i : TaskImage) (b : State) : Prop := b.cr0.pg = false ∧ b.flags.vm = i.eflags.getLsbD 17

/-- The operation `m` of the model does what the load `l` says. -/
structure Implements (i : TaskImage) (l : Loader) (m : M Unit) : Prop where
  runs : ∀ {b t stored}, InTask i b → l.loads b t stored → m b = .ok ((), t) ∧ InTask i t
  raises : ∀ {b e}, InTask i b → l.fails b e → m b = .error (.exc e b false)

theorem inTask_segLoaded {i : TaskImage} {b : State} (h : InTask i b) (r : Sreg) (sel : Word) (d : Desc) :
    InTask i (segLoaded b r sel d) := by
  obtain ⟨hp, hvm⟩ := h
  exact ⟨by rwa [segLoaded_cr0], by rwa [segLoaded_flags]⟩

theorem inTask_realSeg {i : TaskImage} {b : State} (h : InTask i b) (r : Sreg) (sel : Word) : InTask i (realSeg b r sel) := by
  obtain ⟨hp, hvm⟩ := h
  exact ⟨by rwa [realSeg_cr0], by rwa [realSeg_flags]⟩

/-- A load that is a checked descriptor put into its register. -/
theorem implements_segLoader {i : TaskImage} {r : Sreg} {sel : Word} {ok : State → Desc → Bool}
    {kind : State → Desc → Prop} {absent : Exc} {m : M Unit} (hk : ∀ b d, ok b d = true ↔ kind b d)
    (hm : ∀ b, m b = (checkedDesc sel (excTS (selErr sel)) (excTS (selErr sel)) absent (ok b) >>= loadSeg r sel) b) :
    Implements i (segLoader r sel kind absent) m where
  runs := by
    rintro b t stored hb ⟨d, hd, -, rfl⟩
    exact ⟨(hm b).trans ((bind_passes (checkedDesc_ok (hk b) hb.1 hd)).trans (loadSeg_run hb.1 ..)), inTask_segLoaded hb ..⟩
  raises hb h := (hm _).trans (bind_raises (checkedDesc_raises (hk _) hb.1 h))

theorem loadTaskCs_eq (sel : Word) :
    loadTaskCs sel = checkedDesc sel (excTS (selErr sel)) (excTS (selErr sel)) (excNP (selErr sel))
      (fun c => c.isCode && if c.conforming then decide (c.dpl ≤ selRpl sel) else decide (c.dpl = selRpl sel)) >>=
        loadSeg .cs sel := by
  simp only [loadTaskCs, checkedDesc, require_require, bind_assoc, pure_bind]
  rfl

theorem loadTaskSs_eq (sel : Word) (b : State) :
    loadTaskSs sel b = (checkedDesc sel (excTS (selErr sel)) (excTS (selErr sel)) (excSS (selErr sel))
      (fun d => decide (selRpl sel = b.cpl) && (d.writable && decide (d.dpl = b.cpl))) >>= loadSeg .ss sel) b := by
  refine (bind_passes (M.get_run b)).trans ?_
  simp only [checkedDesc, require_require, bind_assoc, pure_bind]
  rfl

theorem implements_cs (i : TaskImage) (sel : Word) :
    Implements i (segLoader .cs sel (fun _ => AtLevel (rplOf sel)) (excNP (selErr sel))) (loadTaskCs sel) :=
  implements_segLoader (fun _ => atLevel_iff (rplOf sel)) fun b => by rw [loadTaskCs_eq, selRpl_eq]

theorem implements_ss (i : TaskImage) (sel : Word) :
    Implements i (segLoader .ss sel (fun b => StackAt sel b.cpl) (excSS (selErr sel))) (loadTaskSs sel) :=
  implements_segLoader (fun b d => returnKind_iff sel b.cpl d) (loadTaskSs_eq sel)

/-- The checks of a selector that is not null. -/
theorem checkedDesc_bind_of_not_null {sel : Word} (h : ¬ NullSel sel) (null bad absent : Exc) (ok : Desc → Bool)
    (f : Desc → M Unit) (b : State) :
    (checkedDesc sel null bad absent ok >>= f) b = (fetchDesc sel bad >>= fun d => require (ok d) bad >>= fun _ =>
      require d.p absent >>= fun _ => f d) b := by
  have hnull : (!selNull sel) = true := by simpa using mt (selNull_iff sel).1 h
  simp only [checkedDesc, bind_assoc, pure_bind]
  exact bind_passes (require_passes hnull _ _)

/-- A null selector loads nothing into a data segment register. -/
theorem loadTaskData_null {sel : Word} (h : NullSel sel) (r : Sreg) (b : State) : loadTaskData r sel b = .ok ((), b) :=
  (bind_passes (M.get_run b)).trans (congrFun (if_pos ((selNull_iff sel).2 h)) b)

/-- What may be loaded into a data segment register. -/
def dataKind (sel : Word) (cpl : BitVec 2) (d : Desc) : Bool :=
  d.readable && (d.conforming || (decide (cpl ≤ d.dpl) && decide (selRpl sel ≤ d.dpl)))

theorem dataKind_iff (sel : Word) (b : State) (d : Desc) :
    dataKind sel b.cpl d = true ↔ d.readable = true ∧ Visible b sel d := by
  simp [dataKind, Visible, selRpl_eq]

theorem loadTaskData_eq {sel : Word} (h : ¬ NullSel sel) (r : Sreg) (b : State) :
    loadTaskData r sel b = (checkedDesc sel (excTS (selErr sel)) (excTS (selErr sel)) (excNP (selErr sel))
      (dataKind sel b.cpl) >>= loadSeg r sel) b := by
  refine (bind_passes (M.get_run b)).trans <| (congrFun (if_neg (mt (selNull_iff sel).1 h)) b).trans ?_
  rw [checkedDesc_bind_of_not_null h]
  simp only [require_require]
  rfl

theorem implements_data (i : TaskImage) (r : Sreg) (sel : Word) : Implements i (dataLoader r sel) (loadTaskData r sel) where
  runs := by
    rintro b t stored hb (⟨hn, rfl, -⟩ | ⟨d, hd, -, rfl⟩)
    · exact ⟨loadTaskData_null hn r t, hb⟩
    · refine ⟨?_, inTask_segLoaded hb ..⟩
      exact (loadTaskData_eq hd.1 r b).trans
        ((bind_passes (checkedDesc_ok (dataKind_iff sel b) hb.1 hd)).trans (loadSeg_run hb.1 ..))
  raises hb h := (loadTaskData_eq h.1 r _).trans (bind_raises (checkedDesc_raises (dataKind_iff sel _) hb.1 h.2))

theorem implements_real (i : TaskImage) (r : Sreg) (sel : Word) : Implements i (realLoader r sel) (loadRealSeg r sel) where
  runs := by
    rintro b t stored hb ⟨rfl, -⟩
    exact ⟨loadRealSeg_run r sel b, inTask_realSeg hb ..⟩
  raises _ h := h.elim

theorem implements_level (i : TaskImage) : Implements i (levelLoader i) (modify fun s => s.withTaskLevel i) where
  runs := by
    rintro b t stored ⟨hp, hvm⟩ ⟨rfl, -⟩
    refine ⟨?_, hp, hvm⟩
    rw [M.modify_run, State.withTaskLevel, hvm, selRpl_eq]
  raises _ h := h.elim

/-- LDTR: the load that is not null names a descriptor of an LDT in the GDT. -/
theorem loadTaskLdt_eq {sel : Word} (h : ¬ NullSel sel) (hgdt : sel.getLsbD 2 = false) (b : State) :
    loadTaskLdt sel b = (checkedDesc sel (excTS (selErr sel)) (excTS (selErr sel)) (excTS (selErr sel))
      (fun d => d.isSys 2#4) >>= fun d => modify fun s => { s with ldtr := d.toSeg sel }) b := by
  have hti : (!selTI sel) = true := by rw [selTI, hgdt]; rfl
  refine (congrFun (if_neg (mt (selNull_iff sel).1 h)) b).trans <| (bind_passes (require_passes hti _ _)).trans ?_
  rw [checkedDesc_bind_of_not_null h]
  rfl

theorem ldtKind_iff {sel : Word} (hgdt : sel.getLsbD 2 = false) (d : Desc) :
    d.isSys 2#4 = true ↔ sel.getLsbD 2 = false ∧ d.s = false ∧ d.typ = 2#4 :=
  (isSys_iff d 2#4).trans (and_iff_right hgdt).symm

theorem implements_ldt (i : TaskImage) (sel : Word) : Implements i (ldtLoader sel) (loadTaskLdt sel) where
  runs := by
    rintro b t stored hb ⟨-, ⟨hn, rfl⟩ | ⟨d, hd, rfl⟩⟩
    · exact ⟨congrFun (if_pos ((selNull_iff sel).2 hn)) t, hb⟩
    · obtain ⟨hn, -, -, ⟨hgdt, -⟩, -⟩ := id hd
      refine ⟨(loadTaskLdt_eq hn hgdt b).trans ?_, hb⟩
      exact bind_passes (checkedDesc_ok (ldtKind_iff hgdt) hb.1 hd)
  raises := by
    rintro b e hb ⟨hn, h⟩
    cases hgdt : sel.getLsbD 2
    · exact (loadTaskLdt_eq hn hgdt b).trans
        (bind_raises (checkedDesc_raises (ldtKind_iff hgdt) hb.1 h))
    · have hti : (!selTI sel) = false := by rw [selTI, hgdt]; rfl
      have he : e = excTS (selErr sel) := by
        obtain ⟨-, rfl⟩ | ⟨-, -, rfl⟩ | ⟨-, -, -, -, rfl⟩ := h
        · rfl
        · rfl
        · rfl
      rw [he]
      exact (congrFun (if_neg (mt (selNull_iff sel).1 hn)) b).trans (bind_raises (require_fails hti _ _))

/-! ## The loads in their order -/

/-- Operations one after the other. -/
def inOrder : List (M Unit) → M Unit
  | [] => pure ()
  | m :: ms => m >>= fun _ => inOrder ms

section
variable {i : TaskImage} {ls : List Loader} {ms : List (M Unit)}

theorem loadsAll_run (h : List.Forall₂ (Implements i) ls ms) {b t : State} {stored : List Nat} (hb : InTask i b)
    (hl : LoadsAll ls b t stored) : inOrder ms b = .ok ((), t) ∧ InTask i t := by
  induction h generalizing b stored with
  | nil =>
    obtain ⟨rfl, -⟩ := hl
    exact ⟨rfl, hb⟩
  | cons hm _ ih =>
    obtain ⟨v, s1, s2, hv, hl, -⟩ := hl
    obtain ⟨hrun, hv⟩ := hm.runs hb hv
    obtain ⟨hrest, ht⟩ := ih hv hl
    exact ⟨(bind_completes hrun).trans hrest, ht⟩

theorem loadsFail_run (h : List.Forall₂ (Implements i) ls ms) {b u : State} {e : Exc} (hb : InTask i b)
    (hl : LoadsFail ls b e u) : inOrder ms b = .error (.exc e u false) := by
  induction h generalizing b with
  | nil => exact hl.elim
  | cons hm _ ih =>
    obtain ⟨he, rfl⟩ | ⟨v, s1, hv, hl⟩ := hl
    · exact bind_raises (hm.raises hb he)
    · obtain ⟨hrun, hv⟩ := hm.runs hb hv
      exact (bind_completes hrun).trans (ih hv hl)

end

/-- The loads of the segment registers, in V86 mode and out of it. -/
def segLoads (i : TaskImage) : List (M Unit) :=
  if i.eflags.getLsbD 17 then
    [loadRealSeg .cs i.cs, loadRealSeg .ss i.ss, loadRealSeg .ds i.ds, loadRealSeg .es i.es, loadRealSeg .fs i.fs,
      loadRealSeg .gs i.gs]
  else
    [loadTaskCs i.cs, loadTaskSs i.ss, loadTaskData .ds i.ds, loadTaskData .es i.es, loadTaskData .fs i.fs,
      loadTaskData .gs i.gs]

/-- What the statements say of them. -/
def segLoaders (i : TaskImage) : List Loader := (taskLoaders i).drop 2

theorem taskLoaders_eq (i : TaskImage) : taskLoaders i = ldtLoader i.ldt :: levelLoader i :: segLoaders i := rfl

theorem implements_segLoads (i : TaskImage) : List.Forall₂ (Implements i) (segLoaders i) (segLoads i) := by
  rw [segLoaders, taskLoaders, segLoads, List.drop_succ_cons, List.drop_succ_cons, List.drop_zero]
  split
  · exact .cons (implements_real ..) <| .cons (implements_real ..) <| .cons (implements_real ..) <|
      .cons (implements_real ..) <| .cons (implements_real ..) <| .cons (implements_real ..) .nil
  · exact .cons (implements_cs ..) <| .cons (implements_ss ..) <| .cons (implements_data ..) <|
      .cons (implements_data ..) <| .cons (implements_data ..) <| .cons (implements_data ..) .nil

theorem loadTaskSegs_eq {i : TaskImage} {b : State} (h : InTask i b) : loadTaskSegs i b = inOrder (segLoads i) b := by
  refine (bind_passes (M.get_run b)).trans ?_
  rw [segLoads, h.2]
  cases i.eflags.getLsbD 17 <;> simp [inOrder]

/-- All the loads of a new task. -/
def loadNewTask (i : TaskImage) : M Unit := do
  loadTaskLdt i.ldt
  modify fun s => s.withTaskLevel i
  loadTaskSegs i

section
variable {i : TaskImage} {b : State} (hb : InTask i b)
include hb

theorem loadNewTask_run {t : State} {stored : List Nat} (h : LoadsAll (taskLoaders i) b t stored) :
    loadNewTask i b = .ok ((), t) ∧ InTask i t := by
  rw [taskLoaders_eq] at h
  obtain ⟨v, s1, _, hldt, ⟨w, s2, s3, hlevel, hsegs, -⟩, -⟩ := h
  obtain ⟨hrun, hv⟩ := (implements_ldt i i.ldt).runs hb hldt
  obtain ⟨hrun', hw⟩ := (implements_level i).runs hv hlevel
  obtain ⟨hrest, ht⟩ := loadsAll_run (implements_segLoads i) hw hsegs
  exact ⟨(bind_completes hrun).trans <| (bind_completes hrun').trans <| (loadTaskSegs_eq hw).trans hrest, ht⟩

theorem loadNewTask_raises {e : Exc} {u : State} (h : LoadsFail (taskLoaders i) b e u) :
    loadNewTask i b = .error (.exc e u false) := by
  rw [taskLoaders_eq] at h
  obtain ⟨hldt, rfl⟩ | ⟨v, s1, hldt, ⟨hlevel, -⟩ | ⟨w, s2, hlevel, hsegs⟩⟩ := h
  · exact bind_raises ((implements_ldt i i.ldt).raises hb hldt)
  · exact hlevel.elim
  · obtain ⟨hrun, hv⟩ := (implements_ldt i i.ldt).runs hb hldt
    obtain ⟨hrun', hw⟩ := (implements_level i).runs hv hlevel
    exact (bind_completes hrun).trans <| (bind_completes hrun').trans <|
      (loadTaskSegs_eq hw).trans (loadsFail_run (implements_segLoads i) hw hsegs)

end

/-! ## The switch -/

theorem committed_exc {α : Type} {m : M α} {s t : State} {e : Exc} {c : Bool} (h : m s = .error (.exc e t c)) :
    committed m s = .error (.exc e t true) := by simp [committed, h]

theorem committed_congr {α : Type} {m n : M α} {s t : State} (h : m s = n t) : committed m s = committed n t := by
  rw [committed, committed, h]

/-- What follows the commit point. -/
def taskEntry (k : SwitchKind) (td : Desc) : M Unit := do
  let i ← readTask td
  if i.trap then refuse .tssTrapBit
  let s ← get
  if s.cr0.pg && td.tss386 then
    set { s with cr3 := i.cr3 &&& 0xFFFFF000#32, tlb := [], tlbUndef := false }
  modify fun s => s.withTask i k.nested
  jumpTo i.eip
  loadNewTask i

/-- The registers of the task before its descriptors. -/
theorem taskBegun_eq (k : SwitchKind) (i : TaskImage) (v : State) : taskBegun k i v = jumped (v.withTask i k.nested) i.eip := by
  cases k <;> rfl

theorem taskEntry_begins (k : SwitchKind) {td : Desc} {v : State} (hp : v.cr0.pg = false)
    (ht : (incoming v td).trap = false) :
    taskEntry k td v = loadNewTask (incoming v td) (taskBegun k (incoming v td) v) := by
  have ht : ¬ (incoming v td).trap = true := by simp [ht]
  have hpaging : ¬ (v.cr0.pg && td.tss386) = true := by simp [hp]
  rw [taskBegun_eq]
  exact (bind_passes (readTask_run hp td)).trans <| (congrFun (if_neg ht) v).trans <| (bind_passes (M.get_run v)).trans <|
    (congrFun (if_neg hpaging) v).trans <| (bind_completes (M.modify_run _ v)).trans (bind_completes (jumpTo_run _ _))

theorem enterTask_eq (k : SwitchKind) (t : Word) (td : Desc) (ret : Dword) (b : State) :
    enterTask k t td (taskMarked k t td ret b) = committed (taskEntry k td) (taskCommitted k t td ret b) := by
  refine committed_congr ((bind_completes (M.modify_run _ _)).trans ?_)
  rw [taskEntry, readTask]
  cases td.tss386 <;> rfl

theorem inTask_taskBegun {v : State} (hp : v.cr0.pg = false) (k : SwitchKind) (i : TaskImage) : InTask i (taskBegun k i v) :=
  ⟨hp, rfl⟩

theorem taskCommitted_pg {b : State} (hp : b.cr0.pg = false) (k : SwitchKind) (t : Word) (td : Desc) (ret : Dword) :
    (taskCommitted k t td ret b).cr0.pg = false := (congrArg Cr0.pg (taskMarked_cr0 k t td ret b)).trans hp

section
variable {k : SwitchKind} {b : State} {t : Word} {td : Desc} {ret : Dword} (hp : b.cr0.pg = false)
include hp

theorem switchTasks_run {v : State} {stored : List Nat} (h : TaskEnters k t td ret b v stored) :
    switchTasks k t td ret b = .ok ((), v) ∧ v.cr0.pg = false := by
  obtain ⟨-, hlong, htrap, _, hloads, -⟩ := h
  have hpg := taskCommitted_pg hp k t td ret
  obtain ⟨hrun, hv, -⟩ := loadNewTask_run (inTask_taskBegun hpg ..) hloads
  refine ⟨?_, hv⟩
  rw [switchTasks_enters k hp hlong, enterTask_eq]
  exact committed_ok ((taskEntry_begins k hpg htrap).trans hrun)

theorem switchTasks_raises {e : Exc} {u : State} (h : TaskFails k t td ret b e u) :
    switchTasks k t td ret b = .error (.exc e u true) := by
  obtain ⟨-, hlong, htrap, hloads⟩ := h
  have hpg := taskCommitted_pg hp k t td ret
  rw [switchTasks_enters k hp hlong, enterTask_eq]
  exact committed_exc ((taskEntry_begins k hpg htrap).trans (loadNewTask_raises (inTask_taskBegun hpg ..) hloads))

end

end Sys2Proof.Machine
end

section
/-! PROOFS. Deliveries that fail: through an interrupt or trap gate, at the gate itself, and through a task gate (42_i.md R288,
R289, 60_exceptions.md R511, R514, R547, R548). -/

namespace Sys2Proof.Machine

open Sys2Proof.Claims

/-! ## The handler's checks -/

section
variable {b : State} {ev : Event} {g c d : Desc} {x : Exc}

theorem deliverSame_raises_room (h : ¬ HasRoom b g.gateSize (3 + ev.codes.length)) :
    deliverSame ev g g.gateSel c (awake b) = .error (.exc (excSS 0#16) (awake b) false) :=
  (bind_passes (M.get_run _)).trans (bind_raises (checkRoom_raises (mt (stackRoom_iff_hasRoom (awake b) _ _).1 h) _))

theorem deliverSame_raises_limit (hc : c.isCode = true) (hr : HasRoom b g.gateSize (3 + ev.codes.length))
    (h : ¬ Within c g.gateOff) :
    deliverSame ev g g.gateSel c (awake b) = .error (.exc (excGP 0#16) (awake b) false) :=
  (bind_passes (M.get_run _)).trans <|
    (bind_passes (checkRoom_ok ((stackRoom_iff_hasRoom (awake b) _ _).2 hr) _)).trans
    (bind_raises (checkCodeLimit_raises (mt (toSeg_holds_iff hc _ _).1 h) _))

theorem deliverInner_raises_stack (hp : b.cr0.pg = false) (h : InnerFails b c.dpl (excGP 0#16) x) :
    deliverInner ev g g.gateSel c (awake b) = .error (.exc x (awake b) false) := by
  have h : InnerFails (awake b) c.dpl (excGP 0#16) x := h
  have hp : (awake b).cr0.pg = false := hp
  exact (bind_passes (M.get_run _)).trans (bind_raises (innerStack_raises hp h))

theorem deliverInner_raises_room (hm : b.mode = .prot) (hp : b.cr0.pg = false) (hd : InnerStack b c.dpl d)
    (h : ¬ HasRoom (handlerStack b g c d) g.gateSize (5 + ev.codes.length)) :
    deliverInner ev g g.gateSel c (awake b) = .error (.exc (excSS 0#16) (awake b) false) := by
  have hd : InnerStack (awake b) c.dpl d := hd
  have hp : (awake b).cr0.pg = false := hp
  exact (bind_passes (M.get_run _)).trans <| (bind_passes (innerStack_run hp _ hd)).trans
    (bind_raises (checkRoom_raises (mt (handlerStack_room_iff hm g c d _).1 h) _))

theorem deliverInner_raises_limit (hm : b.mode = .prot) (hp : b.cr0.pg = false) (hc : c.isCode = true)
    (hd : InnerStack b c.dpl d) (hr : HasRoom (handlerStack b g c d) g.gateSize (5 + ev.codes.length))
    (h : ¬ Within c g.gateOff) :
    deliverInner ev g g.gateSel c (awake b) = .error (.exc (excGP 0#16) (awake b) false) := by
  have hd : InnerStack (awake b) c.dpl d := hd
  have hp : (awake b).cr0.pg = false := hp
  exact (bind_passes (M.get_run _)).trans <| (bind_passes (innerStack_run hp _ hd)).trans <|
    (bind_passes (checkRoom_ok ((handlerStack_room_iff hm g c d _).2 hr) _)).trans
    (bind_raises (checkCodeLimit_raises (mt (toSeg_holds_iff hc _ _).1 h) _))

theorem deliverFromV86_raises_level (h : c.dpl ≠ 0#2) :
    deliverFromV86 ev g g.gateSel c (awake b) = .error (.exc (excGP (selErr g.gateSel)) (awake b) false) :=
  (bind_passes (M.get_run _)).trans (bind_raises (require_fails (decide_eq_false h) _ _))

theorem deliverFromV86_refuses (h : c.dpl = 0#2) (hs : g.gateSize = .s16) :
    deliverFromV86 ev g g.gateSel c (awake b) = .error (.refuse .v86Gate16) := by
  refine (bind_passes (M.get_run _)).trans <| (bind_passes (require_passes (decide_eq_true h) _ _)).trans ?_
  rw [hs]
  rfl

theorem deliverFromV86_raises_stack (hp : b.cr0.pg = false) (h : c.dpl = 0#2) (hs : g.gateSize = .s32)
    (hd : InnerFails b 0#2 (excGP 0#16) x) :
    deliverFromV86 ev g g.gateSel c (awake b) = .error (.exc x (awake b) false) := by
  have hd : InnerFails (awake b) 0#2 (excGP 0#16) x := hd
  have hp : (awake b).cr0.pg = false := hp
  refine (bind_passes (M.get_run _)).trans <| (bind_passes (require_passes (decide_eq_true h) _ _)).trans ?_
  rw [hs]
  exact bind_raises (innerStack_raises hp hd)

theorem deliverFromV86_raises_room (hpe : b.cr0.pe = true) (hp : b.cr0.pg = false) (h : c.dpl = 0#2) (hs : g.gateSize = .s32)
    (hd : InnerStack b 0#2 d) (hr : ¬ HasRoom (monitorStack b d) .s32 (9 + ev.codes.length)) :
    deliverFromV86 ev g g.gateSel c (awake b) = .error (.exc (excSS 0#16) (awake b) false) := by
  have hd : InnerStack (awake b) 0#2 d := hd
  have hp : (awake b).cr0.pg = false := hp
  refine (bind_passes (M.get_run _)).trans <| (bind_passes (require_passes (decide_eq_true h) _ _)).trans ?_
  rw [hs]
  exact (bind_passes (innerStack_run hp _ hd)).trans
    (bind_raises (checkRoom_raises (mt (monitorStack_room_iff hpe d _).1 hr) _))

theorem mode_prot_of_vm (hpe : b.cr0.pe = true) (hvm : ¬ b.flags.vm = true) : b.mode = .prot := by
  simp [State.mode, hpe, hvm]

/-- The first check of the handler that fails raises its exception before anything changes. -/
theorem runHandler_raises (hpe : b.cr0.pe = true) (hp : b.cr0.pg = false) (hc : c.isCode = true)
    (h : HandlerFails b g c ev.codes.length x) :
    runHandler (awake b) ev g c (awake b) = .error (.exc x (awake b) false) := by
  have hinner : ((!c.conforming) = true ∧ c.dpl < b.cpl) ↔ (c.conforming = false ∧ c.dpl < b.cpl) := by simp
  unfold HandlerFails at h
  unfold runHandler
  rw [show (awake b).flags = b.flags from rfl, show (awake b).cpl = b.cpl from rfl]
  by_cases hvm : b.flags.vm = true
  · rw [if_pos hvm] at h ⊢
    refine bind_raises ?_
    obtain ⟨hl, rfl⟩ | ⟨hl, hs, hd | ⟨d, hd, hr, rfl⟩⟩ := h
    · exact deliverFromV86_raises_level hl
    · exact deliverFromV86_raises_stack hp hl hs hd
    · exact deliverFromV86_raises_room hpe hp hl hs hd hr
  rw [if_neg hvm] at h ⊢
  have hm := mode_prot_of_vm hpe hvm
  by_cases hin : c.conforming = false ∧ c.dpl < b.cpl
  · rw [if_pos hin] at h
    rw [if_pos (hinner.2 hin)]
    refine bind_raises ?_
    obtain hd | ⟨d, hd, ⟨hr, rfl⟩ | ⟨hr, hw, rfl⟩⟩ := h
    · exact deliverInner_raises_stack hp hd
    · exact deliverInner_raises_room hm hp hd hr
    · exact deliverInner_raises_limit hm hp hc hd hr hw
  rw [if_neg hin] at h
  rw [if_neg (mt hinner.1 hin)]
  by_cases hsame : c.conforming = true ∨ c.dpl = b.cpl
  · rw [if_pos hsame] at h ⊢
    refine bind_raises ?_
    obtain ⟨hr, rfl⟩ | ⟨hr, hw, rfl⟩ := h
    · exact deliverSame_raises_room hr
    · exact deliverSame_raises_limit hc hr hw
  · rw [if_neg hsame] at h ⊢
    rw [h, raise_run]

end

/-! ## The TSS of a task gate -/

section
variable {b : State} {sel : Word} {td : Desc} {bad : Word → Exc} {x : Exc}

theorem availTss_iff (d : Desc) : d.availTss = true ↔ Available d := by
  rw [Desc.availTss, Bool.or_eq_true, isSys_iff, isSys_iff, Available]
  tauto

theorem fetchTss_run (hp : b.cr0.pg = false) (h : TssNamed b sel Available td) : fetchTss sel bad b = .ok (td, b) := by
  obtain ⟨⟨hgdt, hin⟩, rfl, hk, hpr⟩ := h
  have hti : (!selTI sel) = true := by rw [selTI, hgdt]; rfl
  exact (bind_passes (require_passes hti _ _)).trans <| (bind_passes (fetchDesc_run hp _ hin)).trans <|
    (bind_passes (require_passes ((availTss_iff _).2 hk) _ _)).trans (bind_passes (require_passes hpr _ _))

theorem fetchTss_raises (hp : b.cr0.pg = false) (h : TssFails b sel Available bad x) :
    fetchTss sel bad b = .error (.exc x b false) := by
  cases hgdt : sel.getLsbD 2 with
  | true =>
    have hti : (!selTI sel) = false := by rw [selTI, hgdt]; rfl
    obtain ⟨-, rfl⟩ | ⟨⟨hno, -⟩, -⟩ := h
    · exact bind_raises (require_fails hti _ _)
    · rw [hgdt] at hno
      exact absurd hno (by decide)
  | false =>
    have hti : (!selTI sel) = true := by rw [selTI, hgdt]; rfl
    refine (bind_passes (require_passes hti _ _)).trans ?_
    obtain ⟨hbad, rfl⟩ | ⟨⟨-, hin⟩, hk, hpr, rfl⟩ := h
    · by_cases hin : InTable b sel
      · have hk : (descAt b sel).availTss = false :=
          Bool.eq_false_iff.2 fun h => hbad ⟨⟨hgdt, hin⟩, (availTss_iff _).1 h⟩
        exact (bind_passes (fetchDesc_run hp _ hin)).trans (bind_raises (require_fails hk _ _))
      · exact bind_raises (fetchDesc_raises _ hin)
    · exact (bind_passes (fetchDesc_run hp _ hin)).trans <| (bind_passes (require_passes ((availTss_iff _).2 hk) _ _)).trans
        (bind_raises (require_fails hpr _ _))

end

/-! ## The task gate -/

section
variable {b : State} {ev : Event} {g td : Desc} {x : Exc} {u : State}

theorem deliverTask_raises_tss (hp : b.cr0.pg = false) (h : TssFails b g.gateSel Available excTS x) :
    deliverTask ev g b = .error (.exc x b false) := bind_raises (fetchTss_raises hp h)

theorem deliverTask_raises_short (hp : b.cr0.pg = false) (h : TssNamed b g.gateSel Available td) (hl : ¬ TaskHolds td) :
    deliverTask ev g b = .error (.exc (excTS (selErr g.gateSel)) b false) :=
  (bind_passes (fetchTss_run hp h)).trans (bind_raises (switchTasks_short .int hl _ _))

theorem deliverTask_raises_switch (hp : b.cr0.pg = false) (h : TssNamed b g.gateSel Available td)
    (hf : TaskFails .int g.gateSel td ev.ret b x u) : deliverTask ev g b = .error (.exc x u true) :=
  (bind_passes (fetchTss_run hp h)).trans (bind_error (switchTasks_raises hp hf))

/-- What follows the switch in the handler's task: TF is cleared and the error code pushed. -/
def taskHandler (ev : Event) (td : Desc) : M Unit := do
  modifyFlags fun f => { f with tf := false }
  let s ← get
  let sz : Sz := if td.tss386 then .s32 else .s16
  checkRoom s.ss s.ssSize s.sp sz.bytes ev.codes.length
  pushAll sz ev.codes
  checkCodeLimit s.cs s.eip

theorem taskSize_eq (h : Available td) : (if td.tss386 then Sz.s32 else .s16) = taskSize td := by
  obtain ⟨-, h | h⟩ := h <;> simp [taskSize, Desc.tss386, h]

theorem hasRoom_reflagged {v : State} {f : Flags} (h : f.vm = v.flags.vm) (sz : Sz) (k : Nat) :
    HasRoom (reflagged v f) sz k ↔ HasRoom v sz k := by
  simp only [HasRoom, below_reflagged h]
  rfl

variable {v : State}

theorem taskHandler_begins (h : Available td) (ev : Event) (v : State) :
    taskHandler ev td v =
      (checkRoom (unstepped v).ss (unstepped v).ssSize (unstepped v).sp (taskSize td).bytes ev.codes.length >>= fun _ =>
        pushAll (taskSize td) ev.codes >>= fun _ => checkCodeLimit v.cs v.eip) (unstepped v) := by
  rw [← taskSize_eq h]
  exact (bind_completes (modifyFlags_run _ v)).trans (bind_passes (M.get_run (unstepped v)))

theorem taskHandler_raises_room (h : Available td) (hr : ¬ HasRoom v (taskSize td) ev.codes.length) :
    taskHandler ev td v = .error (.exc (excSS 0#16) (unstepped v) false) := by
  have hr : ¬ HasRoom (unstepped v) (taskSize td) ev.codes.length := mt (hasRoom_reflagged rfl _ _).1 hr
  exact (taskHandler_begins h ev v).trans (bind_raises (checkRoom_raises (mt (stackRoom_iff_hasRoom _ _ _).1 hr) _))

theorem taskHandler_raises_limit (h : Available td) (hp : v.cr0.pg = false) (hr : Room v (taskSize td) ev.codes.length)
    (hw : ¬ InCode v v.eip) :
    taskHandler ev td v = .error (.exc (excGP 0#16) (pushList (unstepped v) (taskSize td) ev.codes) false) := by
  have hr : Room (unstepped v) (taskSize td) ev.codes.length := room_reflagged rfl hr
  have hp : (unstepped v).cr0.pg = false := hp
  refine (taskHandler_begins h ev v).trans ?_
  exact (bind_passes (checkRoom_ok ((stackRoom_iff_hasRoom _ _ _).2 (hasRoom_of_room hr)) _)).trans <|
    (bind_completes (pushAll_run hp hr)).trans (checkCodeLimit_raises hw _)

theorem deliverTask_switched (hp : b.cr0.pg = false) (h : TssNamed b g.gateSel Available td) {stored : List Nat}
    (hv : TaskEnters .int g.gateSel td ev.ret b v stored) : deliverTask ev g b = committed (taskHandler ev td) v :=
  (bind_passes (fetchTss_run hp h)).trans (bind_completes (switchTasks_run hp hv).1)

/-- After the commit point of the switch the exception belongs to the new task. -/
theorem deliverTask_raises_handler (hp : b.cr0.pg = false) (h : TssNamed b g.gateSel Available td) {stored : List Nat}
    (hv : TaskEnters .int g.gateSel td ev.ret b v stored)
    (hf : (¬ HasRoom v (taskSize td) ev.codes.length ∧ x = excSS 0#16 ∧ u = unstepped v) ∨
      (Room v (taskSize td) ev.codes.length ∧ ¬ InCode v v.eip ∧ x = excGP 0#16 ∧
        u = pushList (unstepped v) (taskSize td) ev.codes)) : deliverTask ev g b = .error (.exc x u true) := by
  obtain ⟨-, -, hk, -⟩ := id h
  rw [deliverTask_switched hp h hv]
  obtain ⟨hr, rfl, rfl⟩ | ⟨hr, hw, rfl, rfl⟩ := hf
  · exact committed_exc (taskHandler_raises_room hk hr)
  · exact committed_exc (taskHandler_raises_limit hk (switchTasks_run hp hv).2 hr hw)

end

/-! ## The gate -/

section
variable {b : State} {ev : Event} {x : Exc} {u : State}

theorem deliverProt_task (hp : b.cr0.pg = false) (h : GateOpens b ev) (hpr : (gateAt b ev.vector).p = true)
    (hg : TaskGate (gateAt b ev.vector)) :
    deliverProt ev b = (deliverTask ev (gateAt b ev.vector) >>= fun _ => pure true) b := by
  rw [deliverProt_open hp h hpr, afterGate, if_pos ((taskGate_iff _).1 hg)]

theorem deliverProt_raises_closed (hp : b.cr0.pg = false) (h : ¬ GateOpens b ev) :
    deliverProt ev b = .error (.exc (excGP (BitVec.ofNat 16 (8 * ev.vector.toNat + 2))) b false) := by
  rw [← idtCode_eq]
  refine (bind_passes (M.get_run b)).trans ?_
  by_cases hv : Vectored b ev.vector
  · refine (bind_passes (require_passes ((vectored_iff b _).2 hv) _ _)).trans <| (bind_passes (gateAt_run hp _)).trans ?_
    by_cases hg : IntGate (gateAt b ev.vector) ∨ TaskGate (gateAt b ev.vector)
    · have hs := Bool.eq_false_iff.2 (mt (gateDpl_iff b ev (gateAt b ev.vector)).1 fun hs => h ⟨hv, hg, hs⟩)
      exact (bind_passes (require_passes ((gateKind_iff _).2 hg) _ _)).trans (bind_raises (require_fails hs _ _))
    · exact bind_raises (require_fails (Bool.eq_false_iff.2 (mt (gateKind_iff _).1 hg)) _ _)
  · exact bind_raises (require_fails (Bool.eq_false_iff.2 (mt (vectored_iff b _).1 hv)) _ _)

theorem deliverProt_raises_absent (hp : b.cr0.pg = false) (h : GateOpens b ev) (hpr : (gateAt b ev.vector).p = false) :
    deliverProt ev b = .error (.exc (excNP (BitVec.ofNat 16 (8 * ev.vector.toNat + 2))) b false) := by
  obtain ⟨hv, hg, hs⟩ := h
  rw [← idtCode_eq]
  exact (bind_passes (M.get_run _)).trans <| (bind_passes (require_passes ((vectored_iff b _).2 hv) _ _)).trans <|
    (bind_passes (gateAt_run hp _)).trans <| (bind_passes (require_passes ((gateKind_iff _).2 hg) _ _)).trans <|
    (bind_passes (require_passes ((gateDpl_iff b ev _).2 hs) _ _)).trans (bind_raises (require_fails hpr _ _))

/-- The first check of a delivery that fails raises its exception before anything changes. -/
theorem deliverProt_of_gateFails (hpe : b.cr0.pe = true) (hp : b.cr0.pg = false)
    (h : GateFails b ev.vector ev.software ev.code x) : deliverProt ev (awake b) = .error (.exc x (awake b) false) := by
  have hpa : (awake b).cr0.pg = false := hp
  obtain ⟨hclosed, rfl⟩ | ⟨hopen, hpr, rfl⟩ | ⟨hopen, hpr, ⟨hg, htask⟩ | ⟨hg, hint⟩⟩ := h
  · exact deliverProt_raises_closed hpa hclosed
  · exact deliverProt_raises_absent hpa hopen hpr
  · rw [deliverProt_task hpa hopen hpr hg]
    obtain htss | ⟨td, htd, hshort, rfl⟩ := htask
    · exact bind_raises (deliverTask_raises_tss (b := awake b) hp htss)
    · exact bind_raises (deliverTask_raises_short (b := awake b) hp htd hshort)
  · obtain hname | ⟨c, hc, hhandler⟩ := hint
    · rw [deliverProt_open hpa hopen hpr, afterGate, isSys_task_of_intGate (g := gateAt (awake b) ev.vector) hg]
      exact bind_raises (checkedDesc_raises (s := awake b) (fun _ => Iff.rfl) hp hname)
    · rw [deliverProt_int (b := awake b) hp hopen hg hpr hc]
      obtain ⟨-, -, -, hcode, -⟩ := hc
      exact runHandler_raises hpe hp hcode hhandler

/-- A failure after the commit point of a task switch leaves the new task. -/
theorem deliverProt_of_taskFails (hp : b.cr0.pg = false) (hs : ev.software = true → b.cpl ≤ (gateAt b ev.vector).dpl)
    (h : TaskDeliveryFails b ev.vector ev.ret ev.code x u) : deliverProt ev (awake b) = .error (.exc x u true) := by
  obtain ⟨td, ⟨hv, hg, hpr, htd⟩, h⟩ := h
  rw [deliverProt_task (b := awake b) hp ⟨hv, .inr hg, hs⟩ hpr hg]
  obtain hf | ⟨v, s1, hv, hf⟩ := h
  · exact bind_error (deliverTask_raises_switch (b := awake b) hp htd hf)
  · exact bind_error (deliverTask_raises_handler (b := awake b) hp htd hv hf)

/-- A 16-bit gate in V86 mode is refused. -/
theorem deliverProt_of_shortGate (hp : b.cr0.pg = false) (hs : ev.software = true → b.cpl ≤ (gateAt b ev.vector).dpl)
    (h : ShortGateFromV86 b ev.vector) : deliverProt ev (awake b) = .error (.refuse .v86Gate16) := by
  obtain ⟨hm, hv, hg, hsize, hpr, c, hc, hdpl⟩ := h
  have hvm : (awake b).flags.vm = true := vm_of_mode_v86 hm
  rw [deliverProt_int (b := awake b) hp ⟨hv, .inl hg, hs⟩ hg hpr hc, runHandler, if_pos hvm]
  exact bind_error (deliverFromV86_refuses hdpl hsize)

end

/-! ## The exceptions of a failing delivery are of the double-fault set -/

theorem nameFails_contributory {b : State} {sel : Word} {ok : Desc → Prop} {null bad absent e : Exc}
    (hn : contributory null.vector = true) (hb : contributory bad.vector = true) (ha : contributory absent.vector = true)
    (h : NameFails b sel ok null bad absent e) : contributory e.vector = true := by
  obtain ⟨-, rfl⟩ | ⟨-, -, rfl⟩ | ⟨-, -, -, -, rfl⟩ := h
  · exact hn
  · exact hb
  · exact ha

theorem tssFails_contributory {b : State} {sel : Word} {ok : Desc → Prop} {e : Exc} (h : TssFails b sel ok excTS e) :
    contributory e.vector = true := by
  obtain ⟨-, rfl⟩ | ⟨-, -, -, rfl⟩ := h <;> rfl

theorem innerFails_contributory {b : State} {level : BitVec 2} {e : Exc} (h : InnerFails b level (excGP 0#16) e) :
    contributory e.vector = true := by
  obtain ⟨-, ⟨-, rfl⟩ | ⟨-, h⟩⟩ := h
  · rfl
  · exact nameFails_contributory rfl rfl rfl h

theorem handlerFails_contributory {b : State} {g c : Desc} {n : Nat} {e : Exc} (h : HandlerFails b g c n e) :
    contributory e.vector = true := by
  unfold HandlerFails at h
  split_ifs at h with hvm hin hsame
  · obtain ⟨-, rfl⟩ | ⟨-, -, h | ⟨-, -, -, rfl⟩⟩ := h
    · rfl
    · exact innerFails_contributory h
    · rfl
  · obtain h | ⟨-, -, ⟨-, rfl⟩ | ⟨-, -, rfl⟩⟩ := h
    · exact innerFails_contributory h
    · rfl
    · rfl
  · obtain ⟨-, rfl⟩ | ⟨-, -, rfl⟩ := h <;> rfl
  · rw [h]
    rfl

theorem gateFails_contributory {b : State} {vector : Byte} {software : Bool} {code : Option Word} {e : Exc}
    (h : GateFails b vector software code e) : contributory e.vector = true := by
  obtain ⟨-, rfl⟩ | ⟨-, -, rfl⟩ | ⟨-, -, ⟨-, h | ⟨-, -, -, rfl⟩⟩ | ⟨-, h | ⟨c, -, h⟩⟩⟩ := h
  · rfl
  · rfl
  · exact tssFails_contributory h
  · rfl
  · exact nameFails_contributory rfl rfl rfl h
  · exact handlerFails_contributory h

/-- Every exception of the load is of the double-fault set. -/
def RaisesContributory (l : Loader) : Prop := ∀ {b e}, l.fails b e → contributory e.vector = true

theorem loadsFail_contributory {ls : List Loader} (hls : ∀ l ∈ ls, RaisesContributory l) {b u : State} {e : Exc}
    (h : LoadsFail ls b e u) : contributory e.vector = true := by
  induction ls generalizing b with
  | nil => exact h.elim
  | cons l ls ih =>
    obtain ⟨h, -⟩ | ⟨v, _, -, h⟩ := h
    · exact hls l List.mem_cons_self h
    · exact ih (fun l hl => hls l (List.mem_cons_of_mem _ hl)) h

theorem raisesContributory_ldt (sel : Word) : RaisesContributory (ldtLoader sel) :=
  fun h => nameFails_contributory rfl rfl rfl h.2

theorem raisesContributory_level (i : TaskImage) : RaisesContributory (levelLoader i) := fun h => h.elim

theorem raisesContributory_real (r : Sreg) (sel : Word) : RaisesContributory (realLoader r sel) := fun h => h.elim

theorem raisesContributory_seg (r : Sreg) (sel : Word) (ok : State → Desc → Prop) {absent : Exc}
    (ha : contributory absent.vector = true) : RaisesContributory (segLoader r sel ok absent) :=
  nameFails_contributory rfl rfl ha

theorem raisesContributory_data (r : Sreg) (sel : Word) : RaisesContributory (dataLoader r sel) :=
  fun h => raisesContributory_seg r sel _ rfl h.2

theorem raisesContributory_taskLoaders (i : TaskImage) : ∀ l ∈ taskLoaders i, RaisesContributory l := by
  unfold taskLoaders
  split <;> simp [raisesContributory_ldt, raisesContributory_level, raisesContributory_real, raisesContributory_seg,
    raisesContributory_data, contributory, excNP, excSS]

theorem taskDeliveryFails_contributory {b u : State} {vector : Byte} {ret : Dword} {code : Option Word} {e : Exc}
    (h : TaskDeliveryFails b vector ret code e u) : contributory e.vector = true := by
  obtain ⟨td, -, ⟨-, -, -, h⟩ | ⟨v, s1, -, ⟨-, rfl, -⟩ | ⟨-, -, rfl, -⟩⟩⟩ := h
  · exact loadsFail_contributory (raisesContributory_taskLoaders _) h
  · rfl
  · rfl

theorem deliveryFault_contributory {base b u : State} {vector : Byte} {ret : Dword} {software : Bool} {code : Option Word}
    {e : Exc} (h : DeliveryFault base b vector ret software code e u) : contributory e.vector = true := by
  obtain ⟨h, -⟩ | ⟨-, h⟩ := h
  · exact gateFails_contributory h
  · exact taskDeliveryFails_contributory h

/-! ## What becomes of a failing delivery -/

theorem vector_ne_of_contributory {x : Exc} (h : contributory x.vector = true) : x.vector ≠ 14#8 ∧ x.vector ≠ 8#8 := by
  constructor <;> intro hv <;> rw [hv] at h <;> exact absurd h (by decide)

theorem withExt_of_contributory {x : Exc} (h : contributory x.vector = true) : withExt x = external x :=
  if_neg (vector_ne_of_contributory h).1

/-- An exception of the double-fault set but #PF is delivered as such. -/
theorem takeFault_of_contributory {x : Exc} (h : contributory x.vector = true) (s : State) :
    takeFault x s = takeContributory x s := by
  rw [takeFault, if_neg (vector_ne_of_contributory h).1, if_pos h]

/-- Where a delivery fails the next exception starts from the state `u`. -/
theorem deliver_of_fault {base b u : State} {ev : Event} {x : Exc} (hpe : b.cr0.pe = true) (hp : b.cr0.pg = false)
    (hbase : rollback base (awake b) false = base)
    (h : DeliveryFault base b ev.vector ev.ret ev.software ev.code x u) :
    ∃ st c, deliver ev b = .error (.exc (if ev.ext then external x else x) st c) ∧ rollback base st c = u := by
  rw [← withExt_of_contributory (deliveryFault_contributory h)]
  obtain ⟨h, rfl⟩ | ⟨hs, h⟩ := h
  · exact ⟨_, false, deliver_prot_exc hpe (deliverProt_of_gateFails hpe hp h), hbase⟩
  · exact ⟨_, true, deliver_prot_exc hpe (deliverProt_of_taskFails hp hs h), rfl⟩

section
variable {s u : State} {vector : Byte} {e : Exc}

theorem takeInterrupt_of_fault (hpe : s.cr0.pe = true) (hp : s.cr0.pg = false)
    (h : DeliveryFault s s vector s.eip false none e u) : takeInterrupt vector s = takeFault (external e) u := by
  obtain ⟨st, c, hdeliver, hback⟩ := deliver_of_fault (ev := interruptEvent vector s) hpe hp rfl h
  rw [interruptEvent] at hdeliver
  simp only [takeInterrupt, hdeliver, takeException, hback, if_true]

variable {x : Exc}

/-- The delivery of an exception fails so, and the second exception has EXT = 1. -/
theorem deliver_exc_of_fault (hpe : s.cr0.pe = true) (hp : s.cr0.pg = false)
    (h : DeliveryFault s s x.vector s.eip false x.code e u) :
    ∃ st c, deliver (excEvent x s) s = .error (.exc (external e) st c) ∧ rollback s st c = u :=
  deliver_of_fault (ev := excEvent x s) hpe hp rfl h

theorem takeFault_of_fault (hpe : s.cr0.pe = true) (hp : s.cr0.pg = false)
    (hx : x.vector ∉ [0#8, 8#8, 10#8, 11#8, 12#8, 13#8, 14#8]) (h : DeliveryFault s s x.vector s.eip false x.code e u) :
    takeFault x s = takeFault (external e) u := by
  obtain ⟨st, c, hdeliver, hback⟩ := deliver_exc_of_fault hpe hp h
  have he : contributory (external e).vector = true := deliveryFault_contributory (e := e) h
  have hne : (external e).vector ≠ 14#8 := (vector_ne_of_contributory he).1
  simp only [List.mem_cons, List.not_mem_nil, or_false, not_or] at hx
  obtain ⟨h0, h8, h10, h11, h12, h13, h14⟩ := hx
  rw [takeFault_of_contributory he]
  simp [takeFault, contributory, *]

theorem takeFault_of_doubleFault (hpe : s.cr0.pe = true) (hp : s.cr0.pg = false)
    (hx : x.vector ∈ [0#8, 10#8, 11#8, 12#8, 13#8, 14#8]) (h : DeliveryFault s s x.vector s.eip false x.code e u) :
    takeFault x s = takeFault excDF u := by
  obtain ⟨st, c, hdeliver, hback⟩ := deliver_exc_of_fault hpe hp h
  have he : (external e).vector ≠ 14#8 := (vector_ne_of_contributory (deliveryFault_contributory h)).1
  have hdouble : takeFault excDF u = takeDoubleFault u := rfl
  rw [hdouble]
  by_cases h14 : x.vector = 14#8
  · simp [takeFault, takePageFault, h14, hdeliver, hback]
  · have hx : contributory x.vector = true := by simpa [contributory, h14, or_assoc] using hx
    simp [takeFault_of_contributory hx, takeContributory, hdeliver, hback, he]

theorem takeFault_of_shutdown (hpe : s.cr0.pe = true) (hp : s.cr0.pg = false)
    (h : DeliveryFault s s 8#8 s.eip false (some 0#16) e u) :
    takeFault excDF s = .next (settle { u with shutdown := true }) := by
  obtain ⟨st, c, hdeliver, hback⟩ := deliver_exc_of_fault (x := excDF) hpe hp h
  have hdouble : takeFault excDF s = takeDoubleFault s := rfl
  rw [hdouble]
  simp only [takeDoubleFault, hdeliver, hback]
  rfl

theorem software_raises {i : Instr} (hpe : s.cr0.pe = true) (hp : s.cr0.pg = false) (ha : Accepts s false)
    (hi : Software s vector i) (h : DeliveryFault s (begun s) vector s.next true none e u) : exec i s = takeFault e u := by
  obtain ⟨m, hexec, hm⟩ := software_run hi
  obtain ⟨st, c, hdeliver, hback⟩ := deliver_of_fault (b := begun s) (ev := softwareEvent vector (begun s)) hpe hp rfl h
  rw [hexec, performTransfer_exc (lock_eq_false_of_accepts ha) ha.2 ((hm.trans (softwareInterrupt_eq ..)).trans hdeliver),
    takeException, hback]
  rfl

/-! ## Refusals -/

theorem deliver_of_shortGate {b : State} {ev : Event} (hp : b.cr0.pg = false)
    (hs : ev.software = true → b.cpl ≤ (gateAt b ev.vector).dpl) (h : ShortGateFromV86 b ev.vector) :
    deliver ev b = .error (.refuse .v86Gate16) := by
  have hpe : b.cr0.pe = true := cr0_pe_of_mode (by rw [h.1]; decide)
  exact deliver_prot_refuse hpe (deliverProt_of_shortGate hp hs h)

/-- An exception is refused when the model refuses to deliver its vector. -/
theorem takeFault_of_refuse {r : Refusal}
    (h : ∀ ev : Event, ev.vector = x.vector → ev.software = false → deliver ev s = .error (.refuse r)) :
    takeFault x s = .refused r := by
  have hx : deliver (excEvent x s) s = .error (.refuse r) := h _ rfl rfl
  rw [takeFault]
  split_ifs with h14 hset h8
  · simp only [takePageFault, hx]
  · simp only [takeContributory, hx]
  · simp only [takeDoubleFault, h (excEvent excDF s) h8.symm rfl]
  · simp only [hx]

theorem takeInterrupt_of_refuse {r : Refusal} (h : deliver (interruptEvent vector s) s = .error (.refuse r)) :
    takeInterrupt vector s = .refused r := by
  rw [interruptEvent] at h
  simp only [takeInterrupt, h]

theorem performTransfer_refuse {m : M Bool} {r : Refusal} (ha : Accepts s false) (h : m (begun s) = .error (.refuse r)) :
    performTransfer s m = .refused r := by
  refine runM_refuse ?_
  rw [bind_passes (checkPrefixes_ok ha.1 ha.2 _)]
  exact bind_error h

theorem refusesDelivery_shortGate (hp : s.cr0.pg = false) :
    RefusesDelivery s vector (fun b _ => ShortGateFromV86 b vector) .v86Gate16 := by
  refine ⟨fun h => ⟨fun code => takeFault_of_refuse fun ev hv hs => ?_, takeInterrupt_of_refuse ?_⟩,
    fun ha hdpl h i hi => ?_⟩
  · have hv : ev.vector = vector := hv
    exact deliver_of_shortGate hp (fun h => absurd (hs.symm.trans h) Bool.false_ne_true) (by rwa [hv])
  · exact deliver_of_shortGate hp (fun h => absurd h Bool.false_ne_true) h
  · obtain ⟨m, hexec, hm⟩ := software_run hi
    have hdeliver := deliver_of_shortGate (b := begun s) (ev := softwareEvent vector (begun s)) hp (fun _ => hdpl) h
    rw [hexec, performTransfer_refuse ha ((hm.trans (softwareInterrupt_eq ..)).trans hdeliver)]

end

/-- Settles O49: a failing delivery raises its first exception, and the double-fault rules make of it what they say. -/
theorem deliveryFails : Obligations.DeliveryFails := by
  unfold Obligations.DeliveryFails
  intro s vector e u hm hp
  have hpe := cr0_pe_of_mode hm
  refine ⟨takeInterrupt_of_fault hpe hp, fun code h => ⟨fun hx => takeFault_of_fault hpe hp hx h,
    fun hx => takeFault_of_doubleFault hpe hp hx h, ?_⟩, fun ha h i hi => software_raises hpe hp ha hi h,
    refusesDelivery_shortGate hp⟩
  rintro rfl rfl
  exact takeFault_of_shutdown hpe hp h

end Sys2Proof.Machine
end

section
/-! PROOFS. Jcc, JCXZ, LOOP, LOOPE and LOOPNE (43_j.md R300 to R302, 44_l.md R342 to R344). -/

namespace Sys2Proof.Machine

open Sys2Proof.Claims

/-! ## Raising once the operands are found -/

/-- The exception is taken from the state the instruction began in, whatever registers the operation has changed by then. -/
theorem takes_of_perform_changed {i : Instr} {s u st : State} {l : Bool} {m : M Unit} {e : Exc} (hi : exec i s = perform s l m)
    (ha : Accepts s l) (hm : m (begun s) = .error (.exc e st false)) (hcr2 : st.cr2 = s.cr2) (hdraws : st.draws = u.draws) :
    Takes i s u e := by
  have hback : rollback s st false = { s with draws := u.draws } := by simp [rollback, hcr2, hdraws]
  exact (hi.trans (perform_exc ha.1 ha.2 hm)).trans (congrArg (takeFault e) hback)

/-! ## Transfers in the current code segment -/

section
variable {os : Sz} {t rel : Dword} {u : State}

theorem jumpNear_run (h : InCode u (truncSz os t)) : jumpNear os t u = .ok ((), jumped u (truncSz os t)) :=
  (bind_passes (M.get_run u)).trans <| (bind_passes (checkCodeLimit_ok h u)).trans (jumpTo_run _ u)

theorem jumpNear_raises (h : ¬ InCode u (truncSz os t)) : jumpNear os t u = .error (.exc (excGP 0#16) u false) :=
  (bind_passes (M.get_run u)).trans (bind_raises (checkCodeLimit_raises h u))

theorem jumpRelative_run (h : InCode u (target u os rel)) : jumpRelative os rel u = .ok ((), jumped u (target u os rel)) :=
  (bind_passes (M.get_run u)).trans (jumpNear_run h)

theorem jumpRelative_raises (h : ¬ InCode u (target u os rel)) :
    jumpRelative os rel u = .error (.exc (excGP 0#16) u false) :=
  (bind_passes (M.get_run u)).trans (jumpNear_raises h)

end

/-- An effect on the general registers alone. -/
def OnRegs (effect : State → State) : Prop := ∀ u, effect u = { u with regs := (effect u).regs }

theorem onRegs_id : OnRegs id := fun _ => rfl

theorem onRegs_counted (as : Sz) : OnRegs (counted as) := fun _ => rfl

/-- A form whose operation has an effect on the registers and then jumps or is done. -/
theorem jumpsWhen_of_perform {i : Instr} {os : Sz} {rel : Dword} {effect : State → State} {taken : State → Prop} {m : M Unit}
    (hi : ∀ s, exec i s = perform s false m) (he : OnRegs effect)
    (hjump : ∀ s, taken s → m (begun s) = jumpRelative os rel (effect (begun s)))
    (hstay : ∀ s, ¬ taken s → m (begun s) = .ok ((), effect (begun s))) : JumpsWhen i os rel effect taken := by
  intro s ha
  have htarget : target (effect (begun s)) os rel = target s os rel := by rw [he]; rfl
  have hcode : InCode (effect (begun s)) (target (effect (begun s)) os rel) ↔ InCode s (target s os rel) := by
    rw [htarget, he]; rfl
  have hbyte (a : Nat) : (effect (begun s)).byte a = (begun s).byte a := by rw [he]; rfl
  refine ⟨fun ht hin => ?_, fun ht hout => ?_, fun ht => ?_⟩
  · rw [← htarget]
    exact completes_of_perform (hi s) ha ((hjump s ht).trans (jumpRelative_run (hcode.2 hin))) (fun a _ => hbyte a)
      (found_refl _)
  · exact takes_of_perform_changed (u := begun s) (hi s) ha ((hjump s ht).trans (jumpRelative_raises (mt hcode.1 hout)))
      (by rw [he]; rfl) (by rw [he])
  · exact completes_of_perform (hi s) ha (hstay s ht) (fun a _ => hbyte a) (found_refl _)

/-! ## Jcc and JCXZ -/

theorem immSigned_eq_relOf (v : Imm) : immSigned v = relOf v := by cases v <;> rfl

theorem exec_jccRel8 (c : Cond) (os : Sz) (b : Byte) (s : State) :
    exec (jccRel8 c os b) s = jumpIf s c os (BitVec.ofInt 32 b.toInt) := by cases c <;> rfl

theorem exec_jccRel (c : Cond) (v : Imm) (s : State) : exec (jccRel c v) s = jumpIf s c (immSize v) (relOf v) := by
  rw [← immSigned_eq_relOf]
  cases c <;> rfl

theorem jumpsWhen_of_jumpIf {i : Instr} {c : Cond} {os : Sz} {rel : Dword} (hi : ∀ s, exec i s = jumpIf s c os rel) :
    JumpsWhen i os rel id (fun s => condHolds c s.flags = true) :=
  jumpsWhen_of_perform hi onRegs_id (fun s ht => (bind_passes (getFlags_run _)).trans (congrFun (if_pos ht) (begun s)))
    fun s ht => (bind_passes (getFlags_run _)).trans (congrFun (if_neg ht) (begun s))

/-- A register at an address size is 0 when its zero extension is. -/
theorem setWidth_eq_zero_iff (as : Sz) (c : BitVec as.width.bits) : c.setWidth 32 = 0#32 ↔ c = 0#_ := by
  cases as <;> simp only [Sz.width, Width.bits] at c ⊢ <;> bv_omega

theorem jcxz_jumpsWhen (os as : Sz) (b : Byte) :
    JumpsWhen (.jcxz os as b) os (BitVec.ofInt 32 b.toInt) id (fun s => s.reg as.width .cx = 0#_) :=
  jumpsWhen_of_perform (fun _ => rfl) onRegs_id
    (fun s ht => (bind_passes (readRegSz_run ..)).trans (congrFun (if_pos ((setWidth_eq_zero_iff as _).2 ht)) (begun s)))
    fun s ht => (bind_passes (readRegSz_run ..)).trans (congrFun (if_neg (mt (setWidth_eq_zero_iff as _).1 ht)) (begun s))

/-! ## LOOP -/

/-- The count may be taken down at 32 bits and cut to the address size. -/
theorem setReg_cx_counted (as : Sz) (u : State) :
    u.setReg as.width .cx ((truncSz as ((u.reg as.width .cx).setWidth 32 - 1#32)).setWidth _) = counted as u := by
  refine congrArg (u.setReg as.width .cx) ?_
  cases as <;> simp only [Sz.width, Width.bits, truncSz] <;> bv_omega

/-- The count is 0 afterwards when it was 1. -/
theorem count_eq_zero_iff (as : Sz) (c : BitVec as.width.bits) : truncSz as (c.setWidth 32 - 1#32) = 0#32 ↔ c = 1#_ := by
  cases as <;> simp only [Sz.width, Width.bits, truncSz] at c ⊢ <;> bv_omega

theorem jumpsWhen_of_loopIf {i : Instr} {os as : Sz} {b : Byte} {extra : Flags → Bool} {taken : State → Prop}
    (hi : ∀ s, exec i s = loopIf s os as b extra)
    (ht : ∀ s, taken s ↔ s.reg as.width .cx ≠ 1#_ ∧ extra s.flags = true) :
    JumpsWhen i os (BitVec.ofInt 32 b.toInt) (counted as) taken := by
  have hcount (s : State) : (truncSz as (((begun s).reg as.width .cx).setWidth 32 - 1#32) ≠ 0#32 ∧
      extra (begun s).flags = true) ↔ taken s := by
    rw [ht, ne_eq, count_eq_zero_iff]
    rfl
  have hrun (s : State) : (readRegSz as .cx >>= fun c => writeRegSz as .cx (truncSz as (c - 1#32)) >>= fun _ =>
      getFlags >>= fun f => if truncSz as (c - 1#32) ≠ 0#32 ∧ extra f = true then jumpRelative os (b.signExtend 32)
        else pure ()) (begun s) =
      (if truncSz as (((begun s).reg as.width .cx).setWidth 32 - 1#32) ≠ 0#32 ∧ extra (begun s).flags = true then
        jumpRelative os (b.signExtend 32) else pure ()) (counted as (begun s)) := by
    rw [← setReg_cx_counted]
    exact (bind_passes (readRegSz_run ..)).trans <| (bind_completes (writeRegSz_run ..)).trans (bind_passes (getFlags_run _))
  exact jumpsWhen_of_perform hi (onRegs_counted as) (fun s h => (hrun s).trans (congrFun (if_pos ((hcount s).2 h)) _))
    fun s h => (hrun s).trans (congrFun (if_neg (mt (hcount s).1 h)) _)

/-- Settles O20: every form tests its condition, once LOOP has counted, and makes one relative transfer. -/
theorem conditionalTransfers : Obligations.ConditionalTransfers := by
  unfold Obligations.ConditionalTransfers
  refine ⟨fun c os b => jumpsWhen_of_jumpIf (exec_jccRel8 c os b), fun c v => jumpsWhen_of_jumpIf (exec_jccRel c v),
    fun os as b => ⟨jcxz_jumpsWhen os as b, ?_, ?_, ?_⟩⟩
  · exact jumpsWhen_of_loopIf (extra := fun _ => true) (fun _ => rfl) fun s => by simp
  · exact jumpsWhen_of_loopIf (extra := fun f => f.zf) (fun _ => rfl) fun s => Iff.rfl
  · exact jumpsWhen_of_loopIf (extra := fun f => !f.zf) (fun _ => rfl) fun s => by simp

end Sys2Proof.Machine
end

section
/-! PROOFS. Near JMP, CALL and RET (43_j.md R303, 41_c_d_e_h.md R230, 47_r.md R425). -/

namespace Sys2Proof.Machine

open Sys2Proof.Claims

/-! ## Targets at an operand size -/

theorem truncSz_setWidth (os : Sz) (v : BitVec os.width.bits) : truncSz os (v.setWidth 32) = v.setWidth 32 := by
  cases os with
  | s16 =>
    simp only [Sz.width, Width.bits, truncSz] at v ⊢
    bv_omega
  | s32 => rfl

/-- A value of an operand's bytes needs no cutting to the operand size. -/
theorem truncSz_leValue {os : Sz} {bs : List Byte} (h : bs.length = os.bytes) :
    truncSz os (leValue 32 bs) = leValue 32 bs := by
  cases os with
  | s16 =>
    have hlt := leNat_lt bs
    rw [h] at hlt
    apply BitVec.eq_of_toNat_eq
    simp only [truncSz, leValue, BitVec.toNat_setWidth, BitVec.toNat_ofNat, Sz.bytes] at hlt ⊢
    omega
  | s32 => rfl

/-! ## The stack pointer -/

theorem setLow16_self (v : Dword) : setLow16 v (v.setWidth 16) = v := by
  apply BitVec.eq_of_getLsbD_eq
  intro i hi
  simp only [setLow16, BitVec.getLsbD_append, BitVec.getLsbD_setWidth, BitVec.getLsbD_extractLsb']
  grind

/-- Writing back the stack pointer, at the stack's size, changes nothing. -/
theorem setSp_sp_self (u : State) : u.setSp u.sp = u := by
  unfold State.setSp State.sp State.setReg
  cases u.ssSize with
  | s16 =>
    have hlow : ((u.regs.esp.setWidth 16).setWidth 32).setWidth 16 = u.regs.esp.setWidth 16 := by simp
    have hesp : setLow16 u.regs.esp (((u.regs.esp.setWidth 16).setWidth 32).setWidth 16) = u.regs.esp := by
      rw [hlow, setLow16_self]
    show { u with regs := { u.regs with esp := setLow16 u.regs.esp (((u.regs.esp.setWidth 16).setWidth 32).setWidth 16) } } = u
    rw [hesp]
  | s32 =>
    show { u with regs := { u.regs with esp := u.regs.esp.setWidth 32 } } = u
    rw [BitVec.setWidth_eq]

/-- Releasing no bytes changes nothing. -/
theorem raised_zero (u : State) : raised u 0 = u := by
  rw [raised, BitVec.add_zero, setSp_sp_self]

/-- Finding an operand leaves the stack where it was. -/
theorem below_found {b u : State} (h : Found b u) (sz : Sz) (k : Nat) : below u sz k = below b sz k := by
  rw [h.same]; rfl

/-- A push whose element passes its checks, paging on or off. -/
theorem push_opened {b u : State} {sz : Sz} {as : List Nat} (h : OpensMem b .ss (below b sz 1) sz.bytes true as u) (v : Dword) :
    push sz v b = .ok ((), pushed u sz as v) := by
  rw [below_one] at h
  rw [push_ok h, ← below_one, ← below_found (found_of_opensMem h)]
  rfl

theorem pop_opened {b u : State} {sz : Sz} {as : List Nat} (h : OpensMem b .ss b.sp sz.bytes false as u) :
    pop sz b = .ok (leValue 32 (as.map u.byte), raised u sz.bytes) := pop_ok h

theorem byte_pushed_other {u : State} {sz : Sz} {as : List Nat} (v : Dword) {a : Nat} (h : a ∉ as) :
    (pushed u sz as v).byte a = u.byte a := (setSp_byte ..).trans (byte_setBytes_other h)

/-! ## CALL -/

theorem inCode_found {b u : State} (h : Found b u) (t : Dword) : InCode u t ↔ InCode b t := by
  rw [h.same]; rfl

section
variable {b u : State} {os : Sz} {t : Dword}

theorem callNear_run {as : List Nat} (hin : InCode b (truncSz os t))
    (h : OpensMem b .ss (below b os 1) os.bytes true as u) :
    callNear os t b = .ok ((), jumped (pushed u os as b.next) (truncSz os t)) :=
  (bind_passes (M.get_run b)).trans <| (bind_passes (checkCodeLimit_ok hin b)).trans <|
    (bind_completes (push_opened h _)).trans (jumpTo_run _ _)

theorem callNear_raises (h : ¬ InCode b (truncSz os t)) : callNear os t b = .error (.exc (excGP 0#16) b false) :=
  (bind_passes (M.get_run b)).trans (bind_raises (checkCodeLimit_raises h b))

end

section
variable {s : State} {v : Imm} (ha : Accepts s false)
include ha

theorem callRel_completes {u : State} {as : List Nat} (hin : InCode s (target s (immSize v) (relOf v)))
    (h : OpensMem (begun s) .ss (below s (immSize v) 1) (immSize v).bytes true as u) :
    Completes (.callRel v) s u (jumped (pushed u (immSize v) as s.next) (target s (immSize v) (relOf v))) as := by
  rw [← immSigned_eq_relOf] at hin ⊢
  exact completes_of_perform rfl ha ((bind_passes (M.get_run _)).trans (callNear_run (b := begun s) hin h))
    (fun a hn => byte_pushed_other _ hn) (found_of_opensMem h)

theorem callRel_raises (h : ¬ InCode s (target s (immSize v) (relOf v))) :
    exec (.callRel v) s = takeFault (excGP 0#16) s := by
  rw [← immSigned_eq_relOf] at h
  exact perform_raises ha ((bind_passes (M.get_run _)).trans (callNear_raises (b := begun s) h))

end

/-! ## Targets in an operand -/

section
variable {s u : State} {os : Sz} {rm : Rm} {p : Place} (ha : Accepts s false) (ho : Opens (begun s) os.width rm false p u)
include ha ho

theorem jmpRm_completes (h : InCode s ((at' u os.width p).setWidth 32)) :
    Completes (.jmpRm os rm) s u (jumped u ((at' u os.width p).setWidth 32)) [] := by
  have h := (inCode_found (found_of_opens ho) _).2 h
  rw [← truncSz_setWidth os] at h ⊢
  exact completes_of_perform rfl ha ((bind_completes (readRm_ok ho)).trans (jumpNear_run h)) (fun _ _ => rfl)
    (found_of_opens ho)

theorem jmpRm_callRm_raise (h : ¬ InCode s ((at' u os.width p).setWidth 32)) :
    Takes (.jmpRm os rm) s u (excGP 0#16) ∧ Takes (.callRm os rm) s u (excGP 0#16) := by
  have h := mt (inCode_found (found_of_opens ho) _).1 h
  rw [← truncSz_setWidth os] at h
  exact ⟨takes_of_perform rfl ha ((bind_completes (readRm_ok ho)).trans (jumpNear_raises h)) (found_of_opens ho),
    takes_of_perform rfl ha ((bind_completes (readRm_ok ho)).trans (callNear_raises h)) (found_of_opens ho)⟩

theorem callRm_completes {u' : State} {as : List Nat} (h : InCode s ((at' u os.width p).setWidth 32))
    (ho' : OpensMem u .ss (below s os 1) os.bytes true as u') :
    Completes (.callRm os rm) s u' (jumped (pushed u' os as s.next) ((at' u os.width p).setWidth 32)) as := by
  have hf := found_of_opens ho
  have hbelow : below u os 1 = below s os 1 := below_found hf os 1
  have hnext : u.next = s.next := by rw [hf.same]; rfl
  have h := (inCode_found hf _).2 h
  rw [← hbelow] at ho'
  rw [← truncSz_setWidth os] at h ⊢
  rw [← hnext]
  exact completes_of_perform rfl ha ((bind_completes (readRm_ok ho)).trans (callNear_run h ho'))
    (fun a hn => byte_pushed_other _ hn) (found_trans hf (found_of_opensMem ho'))

end

/-! ## RET -/

section
variable {i : Instr} {s u : State} {os : Sz} {n : Word} {as : List Nat} (hi : exec i s = returnNear s os n)
  (ha : Accepts s false) (ho : OpensMem (begun s) .ss s.sp os.bytes false as u)
include hi ha ho

theorem returnNear_completes (h : InCode s (leValue 32 (as.map u.byte))) :
    Completes i s u (raised (jumped (raised u os.bytes) (leValue 32 (as.map u.byte))) n.toNat) [] := by
  have hlen : (as.map u.byte).length = os.bytes := (List.length_map _).trans (openMem_length ho)
  have h : InCode (raised u os.bytes) (leValue 32 (as.map u.byte)) := (inCode_found (found_of_opensMem ho) _).2 h
  rw [← truncSz_leValue hlen] at h ⊢
  exact completes_of_perform hi ha ((bind_completes (pop_opened ho)).trans <| (bind_completes (jumpNear_run h)).trans
    (addStackPtr_run _ _)) (fun _ _ => rfl) (found_of_opensMem ho)

theorem returnNear_raises (h : ¬ InCode s (leValue 32 (as.map u.byte))) : Takes i s u (excGP 0#16) := by
  have hlen : (as.map u.byte).length = os.bytes := (List.length_map _).trans (openMem_length ho)
  have h : ¬ InCode (raised u os.bytes) (leValue 32 (as.map u.byte)) := mt (inCode_found (found_of_opensMem ho) _).1 h
  have hcr2 : u.cr2 = s.cr2 := by rw [(found_of_opensMem ho).same]; rfl
  rw [← truncSz_leValue hlen] at h
  exact takes_of_perform_changed hi ha ((bind_completes (pop_opened ho)).trans (bind_error (jumpNear_raises h))) hcr2 rfl

end

/-- Settles O21: each form finds its target, and a stack element if it needs one, and makes one transfer. -/
theorem nearTransfers : Obligations.NearTransfers := by
  unfold Obligations.NearTransfers
  intro os b v rm
  refine ⟨?_, ?_, fun s p u ha ho => ⟨jmpRm_completes ha ho, jmpRm_callRm_raise ha ho⟩, fun s ha => callRel_raises ha,
    fun s as u ha => callRel_completes ha, fun s p u as u' ha ho => callRm_completes ha ho,
    fun s as u ha ho => ⟨fun h => ?_, fun h => ?_⟩⟩
  · exact jumpsWhen_of_perform (fun _ => rfl) onRegs_id (fun _ _ => rfl) fun _ h => absurd trivial h
  · refine jumpsWhen_of_perform (m := jumpRelative (immSize v) (immSigned v)) (fun _ => rfl) onRegs_id (fun _ _ => ?_)
      fun _ h => absurd trivial h
    rw [immSigned_eq_relOf]
    rfl
  · have hret := returnNear_completes (i := .retNear os) (n := 0#16) rfl ha ho h
    rw [show (0#16).toNat = 0 from rfl, raised_zero] at hret
    exact ⟨hret, fun w => returnNear_completes rfl ha ho h⟩
  · exact ⟨returnNear_raises (n := 0#16) rfl ha ho h, fun w => returnNear_raises (n := w) rfl ha ho h⟩

end Sys2Proof.Machine
end

section
/-! PROOFS. Far JMP, CALL and RET in Real Address Mode and V86 mode (43_j.md R304, 41_c_d_e_h.md R231, 47_r.md R426). -/

namespace Sys2Proof.Machine

open Sys2Proof.Claims

/-! ## The pointer -/

theorem readFar_run {os : Sz} {m : Mem} {b v u : State} {seg : Sreg} {a : Dword} {as : List Nat} (hm : Addressed b m seg a v)
    (ho : OpensMem v seg a (os.bytes + 2) false as u) :
    readFar os (.mem m) b =
      .ok ((leValue 32 ((as.map u.byte).take os.bytes), leValue 16 ((as.map u.byte).drop os.bytes)), u) :=
  (bind_completes (m := requireMem (.mem m)) rfl).trans <| (bind_completes hm).trans <|
    bind_completes ((bind_completes ho).trans (readPhys_run as u))

/-- The operation of a far JMP or CALL through memory. -/
def farThrough (call : Bool) (os : Sz) (rm : Rm) : M Bool := readFar os rm >>= fun x => farTransfer call os x.1 x.2

theorem farThrough_run {call : Bool} {os : Sz} {rm : Rm} {b u : State} {x : Dword × Word} (h : readFar os rm b = .ok (x, u)) :
    farThrough call os rm b = farTransfer call os x.1 x.2 u := by
  rw [farThrough, bind_completes h]

theorem exec_farMem (call : Bool) (os : Sz) (rm : Rm) (s : State) :
    exec (if call then .callFarMem os rm else .jmpFarMem os rm) s = performTransfer s (farThrough call os rm) := by
  cases call <;> rfl

theorem exec_farPtr (call : Bool) (q : FarPtr) (s : State) :
    exec (if call then .callFarPtr q else .jmpFarPtr q) s =
      performTransfer s (farTransfer call (farSize q) (farParts q).1 (farParts q).2) := by
  cases call <;> rfl

section
variable {s u : State} {call : Bool} {os : Sz} {off : Dword} {sel : Word} {i : Instr}

theorem found_of_farForm (h : FarForm s call os off sel u i) : Found (begun s) u := by
  obtain ⟨q, -, -, -, -, rfl⟩ | ⟨m, seg, a, v, as, -, hm, ho, -, -⟩ := h
  · exact found_refl _
  · exact found_trans (found_of_addressed hm) (found_of_opensMem ho)

/-- Once its pointer is found, a far JMP or CALL is the far transfer to it. -/
theorem farForm_run (h : FarForm s call os off sel u i) :
    ∃ m, exec i s = performTransfer s m ∧ m (begun s) = farTransfer call os off sel u := by
  obtain ⟨q, rfl, rfl, rfl, rfl, rfl⟩ | ⟨m, seg, a, v, as, rfl, hm, ho, rfl, rfl⟩ := h
  · exact ⟨_, exec_farPtr call q s, rfl⟩
  · have hrun := farThrough_run (call := call) (readFar_run hm ho)
    exact ⟨_, exec_farMem call os (.mem m) s, hrun⟩

theorem completes_of_farForm (ha : Accepts s false) (h : FarForm s call os off sel u i) {t : State} {stored : List Nat}
    (hrun : farTransfer call os off sel u = .ok (false, t)) (hb : ∀ a, a ∉ stored → t.byte a = u.byte a) :
    Completes i s u t stored := by
  obtain ⟨m, hexec, hm⟩ := farForm_run h
  exact ⟨hexec.trans (performTransfer_ok (lock_eq_false_of_accepts ha) ha.2 (hm.trans hrun)), hb, found_of_farForm h⟩

theorem takes_of_farForm (ha : Accepts s false) (h : FarForm s call os off sel u i) {e : Exc}
    (hrun : farTransfer call os off sel u = .error (.exc e u false)) : Takes i s u e := by
  obtain ⟨m, hexec, hm⟩ := farForm_run h
  have hcr2 : u.cr2 = s.cr2 := by rw [(found_of_farForm h).same]; rfl
  have hback : rollback s u false = { s with draws := u.draws } := by simp [rollback, hcr2]
  exact (hexec.trans (performTransfer_exc (lock_eq_false_of_accepts ha) ha.2 (hm.trans hrun))).trans
    (congrArg (takeFault e) hback)

end

/-! ## The return address -/

theorem called_eq (u : State) (os : Sz) :
    called u os = pushList (padded os u 1) os [selElement os u.cs.sel u 0, u.next] := rfl

theorem pushReturn_run {u : State} {sz : Sz} (hp : u.cr0.pg = false) (h : Room u sz 2) :
    pushReturn sz u = .ok ((), called u sz) :=
  (bind_passes (M.get_run u)).trans <| (bind_completes (padSel_first ..)).trans <|
    pushAll_run (u := padded sz u 1) hp ((descends_padded sz u 1 sz).room (by rwa [Nat.zero_add]))

theorem descends_called (u : State) (sz : Sz) : Descends sz 2 u (called u sz) := by
  have h := (descends_padded sz u 1 sz).trans (descends_pushList sz [selElement sz u.cs.sel u 0, u.next] (padded sz u 1))
  rwa [Nat.zero_add] at h

/-- With paging off finding an operand changes nothing that a stack access depends on. -/
theorem descends_found {b u : State} (h : Found b u) (hp : b.cr0.pg = false) (sz : Sz) : Descends sz 0 b u := by
  rw [h.off hp]
  exact ⟨rfl, rfl, rfl, (below_zero b sz).symm, fun _ _ => rfl⟩

/-- The state in which a far JMP or CALL loads CS. -/
def returnKept (call : Bool) (sz : Sz) (u : State) : State := if call then called u sz else u

/-- Where it has stored by then. -/
def returnSlots (call : Bool) (sz : Sz) (u : State) : List Nat := if call then slots u sz 2 else []

section
variable {call : Bool} {sz : Sz} {u : State}

theorem returnKept_run (h : call = true → u.cr0.pg = false ∧ Room u sz 2) :
    (if call then pushReturn sz else pure ()) u = .ok ((), returnKept call sz u) := by
  cases call with
  | false => rfl
  | true =>
    obtain ⟨hp, hr⟩ := h rfl
    exact pushReturn_run hp hr

theorem byte_returnKept_other {a : Nat} (h : a ∉ returnSlots call sz u) : (returnKept call sz u).byte a = u.byte a := by
  cases call with
  | false => rfl
  | true => exact (descends_called u sz).byte a h

end

/-! ## JMP and CALL -/

section
variable {call : Bool} {os : Sz} {off : Dword} {sel : Word} {u : State}

theorem farTransfer_real (hm : u.mode ≠ .prot) :
    farTransfer call os off sel u = (farReal call os off sel >>= fun _ => pure false) u :=
  (bind_passes (M.get_run u)).trans (congrFun (if_neg hm) u)

theorem farReal_eq (call : Bool) (os : Sz) (off : Dword) (sel : Word) : farReal call os off sel =
    require (decide (off.toNat ≤ 0xFFFF)) (excGP 0#16) >>= fun _ => (if call then pushReturn os else pure ()) >>= fun _ =>
      loadRealSeg .cs sel >>= fun _ => jumpTo off := by
  cases call <;> rfl

theorem farReal_run (hoff : off.toNat ≤ 0xFFFF) (h : call = true → u.cr0.pg = false ∧ Room u os 2) :
    farReal call os off sel u = .ok ((), jumped (realCs (returnKept call os u) sel) off) := by
  rw [farReal_eq]
  exact (bind_passes (require_passes (decide_eq_true hoff) _ _)).trans <| (bind_completes (returnKept_run h)).trans <|
    (bind_completes (loadRealSeg_run ..)).trans (jumpTo_run _ _)

theorem farReal_raises (hoff : ¬ off.toNat ≤ 0xFFFF) :
    farReal call os off sel u = .error (.exc (excGP 0#16) u false) := by
  rw [farReal_eq]
  exact bind_raises (require_fails (decide_eq_false hoff) _ _)

theorem mode_of_farForm {s : State} {i : Instr} (h : FarForm s call os off sel u i) : u.mode = s.mode := by
  rw [(found_of_farForm h).same]; rfl

variable {s : State} {i : Instr} (ha : Accepts s false) (hm : s.mode ≠ .prot) (h : FarForm s call os off sel u i)
include ha hm h

theorem farForm_real_completes (hoff : off.toNat ≤ 0xFFFF) (hc : call = true → s.cr0.pg = false ∧ Room (begun s) os 2) :
    Completes i s u (jumped (realCs (returnKept call os u) sel) off) (returnSlots call os (begun s)) := by
  have hf := found_of_farForm h
  have hcall : call = true → u.cr0.pg = false ∧ Room u os 2 := fun ht => by
    obtain ⟨hp, hr⟩ := hc ht
    have hd := descends_found hf hp os
    exact ⟨by rwa [hd.cr0], hd.room (by rwa [Nat.zero_add])⟩
  have hslots : returnSlots call os (begun s) = returnSlots call os u := by
    cases call with
    | false => rfl
    | true =>
      have hd := (descends_found hf (hc rfl).1 os).slots_add 2
      rwa [Nat.zero_add] at hd
  rw [← mode_of_farForm h] at hm
  refine completes_of_farForm ha h ((farTransfer_real hm).trans (bind_completes (farReal_run hoff hcall))) fun a hn => ?_
  rw [hslots] at hn
  exact (byte_realSeg ..).trans (byte_returnKept_other hn)

theorem farForm_real_raises (hoff : ¬ off.toNat ≤ 0xFFFF) : Takes i s u (excGP 0#16) :=
  takes_of_farForm ha h ((farTransfer_real (by rwa [mode_of_farForm h])).trans (bind_error (farReal_raises hoff)))

end

/-! ## RET -/

section
variable {b : State} {os : Sz} (hp : b.cr0.pg = false) (h0 : StackReadable b os 0) (h1 : StackReadable b os os.bytes)
include hp h0 h1

theorem retReal_run (n : Word) (hoff : (stackElement b os 0).toNat ≤ 0xFFFF) :
    retReal os n b = .ok ((), jumped (realCs (raised b (2 * os.bytes + n.toNat)) ((stackElement b os os.bytes).setWidth 16))
      (stackElement b os 0)) :=
  (bind_passes (stackRead_run hp h0)).trans <| (bind_passes (stackRead_run hp h1)).trans <|
    (bind_passes (require_passes (decide_eq_true hoff) _ _)).trans <| (bind_completes (addStackPtr_run _ b)).trans <|
    (bind_completes (loadRealSeg_run ..)).trans (jumpTo_run _ _)

theorem retReal_raises (n : Word) (hoff : ¬ (stackElement b os 0).toNat ≤ 0xFFFF) :
    retReal os n b = .error (.exc (excGP 0#16) b false) :=
  (bind_passes (stackRead_run hp h0)).trans <| (bind_passes (stackRead_run hp h1)).trans
    (bind_raises (require_fails (decide_eq_false hoff) _ _))

end

theorem returnFar_real {b : State} (hm : b.mode ≠ .prot) (os : Sz) (n : Word) :
    (get >>= fun s : State => if s.mode = .prot then retProt os n else retReal os n) b = retReal os n b :=
  (bind_passes (M.get_run b)).trans (congrFun (if_neg hm) b)

section
variable {s : State} {os : Sz} {i : Instr} {n : Word} (hi : exec i s = returnFar s os n) (ha : Accepts s false)
  (hm : s.mode ≠ .prot) (hp : s.cr0.pg = false) (h0 : StackReadable (begun s) os 0)
  (h1 : StackReadable (begun s) os os.bytes)
include hi ha hm hp h0 h1

theorem retFar_real_completes (hoff : (stackElement (begun s) os 0).toNat ≤ 0xFFFF) :
    Completes i s (begun s) (jumped (realCs (raised (begun s) (2 * os.bytes + n.toNat))
      ((stackElement (begun s) os os.bytes).setWidth 16)) (stackElement (begun s) os 0)) [] :=
  completes_of_perform hi ha ((returnFar_real (b := begun s) hm os n).trans (retReal_run (b := begun s) hp h0 h1 n hoff))
    (fun _ _ => byte_realSeg (raised (begun s) (2 * os.bytes + n.toNat)) .cs
      ((stackElement (begun s) os os.bytes).setWidth 16) _) (found_refl _)

theorem retFar_real_raises (hoff : ¬ (stackElement (begun s) os 0).toNat ≤ 0xFFFF) :
    exec i s = takeFault (excGP 0#16) s :=
  hi.trans (perform_raises ha ((returnFar_real (b := begun s) hm os n).trans (retReal_raises (b := begun s) hp h0 h1 n hoff)))

end

/-- Settles O22: a far JMP or CALL is one transfer to the pointer it finds, and a far RET one from the stack. -/
theorem farTransfersReal : Obligations.FarTransfersReal := by
  unfold Obligations.FarTransfersReal
  intro s ha hm
  have hptr (call : Bool) (q : FarPtr) : FarForm s call (farSize q) (farParts q).1 (farParts q).2 (begun s)
      (if call then .callFarPtr q else .jmpFarPtr q) := .inl ⟨q, rfl, rfl, rfl, rfl, rfl⟩
  refine ⟨fun q hoff => ⟨?_, fun hp hr => ?_⟩, fun q hoff => ⟨?_, ?_⟩, fun os m seg a v as u hadr ho => ?_,
    fun os hp h0 h1 => ⟨fun hoff => ⟨?_, fun w => ?_⟩, fun hoff => ⟨?_, fun w => ?_⟩⟩⟩
  · exact farForm_real_completes ha hm (hptr false q) hoff fun h => absurd h Bool.false_ne_true
  · exact farForm_real_completes ha hm (hptr true q) hoff fun _ => ⟨hp, hr⟩
  · exact farForm_real_raises (u := begun s) ha hm (hptr false q) hoff
  · exact farForm_real_raises (u := begun s) ha hm (hptr true q) hoff
  · have hmem (call : Bool) : FarForm s call os (leValue 32 ((as.map u.byte).take os.bytes))
        (leValue 16 ((as.map u.byte).drop os.bytes)) u (if call then .callFarMem os (.mem m) else .jmpFarMem os (.mem m)) :=
      .inr ⟨m, seg, a, v, as, rfl, hadr, ho, rfl, rfl⟩
    refine ⟨fun hoff => ⟨?_, fun hp hr => ?_⟩, fun hoff => ⟨?_, ?_⟩⟩
    · exact farForm_real_completes ha hm (hmem false) hoff fun h => absurd h Bool.false_ne_true
    · exact farForm_real_completes ha hm (hmem true) hoff fun _ => ⟨hp, hr⟩
    · exact farForm_real_raises ha hm (hmem false) hoff
    · exact farForm_real_raises ha hm (hmem true) hoff
  · exact retFar_real_completes (n := 0#16) rfl ha hm hp h0 h1 hoff
  · exact retFar_real_completes rfl ha hm hp h0 h1 hoff
  · exact retFar_real_raises (n := 0#16) rfl ha hm hp h0 h1 hoff
  · exact retFar_real_raises (n := w) rfl ha hm hp h0 h1 hoff

end Sys2Proof.Machine
end

section
/-! PROOFS. Far JMP and CALL in protected mode, paging off: to a code segment and through a call gate (43_j.md R305,
41_c_d_e_h.md R232). -/

namespace Sys2Proof.Machine

open Sys2Proof.Claims

/-! ## The end of a transfer at the same level -/

theorem pushList_cpl (sz : Sz) (vs : List Dword) (u : State) : (pushList u sz vs).cpl = u.cpl := by rw [pushList_eq]

section
variable (call : Bool) (sz : Sz) (u : State)

theorem returnKept_cr0 : (returnKept call sz u).cr0 = u.cr0 := by
  cases call
  · rfl
  · exact pushList_cr0 ..

theorem returnKept_gdtr : (returnKept call sz u).gdtr = u.gdtr := by
  cases call
  · rfl
  · exact pushList_gdtr ..

theorem returnKept_ldtr : (returnKept call sz u).ldtr = u.ldtr := by
  cases call
  · rfl
  · exact pushList_ldtr ..

theorem returnKept_cpl : (returnKept call sz u).cpl = u.cpl := by
  cases call
  · rfl
  · exact pushList_cpl ..

end

theorem enterCode_run {p : State} (hp : p.cr0.pg = false) (sel : Word) (c : Desc) (off : Dword) :
    enterCode sel c off p = .ok ((), codeEntered p sel p.cpl c off) :=
  (bind_passes (M.get_run p)).trans (codeEntered_run hp sel c p.cpl off)

section
variable {call : Bool} {sz : Sz} {off : Dword} {sel : Word} {c : Desc} {b : State}

theorem callRoom_ok (h : call = true → HasRoom b sz 2) :
    (if call then checkRoom b.ss b.ssSize b.sp sz.bytes 2 else pure ()) b = .ok ((), b) := by
  cases call with
  | false => rfl
  | true => exact checkRoom_ok ((stackRoom_iff_hasRoom b sz 2).2 (h rfl)) b

theorem transferSame_eq (call : Bool) (sz : Sz) (off : Dword) (sel : Word) (c : Desc) (b : State) :
    transferSame call sz off sel c b = (require c.p (excNP (selErr sel)) >>= fun _ =>
      (if call then checkRoom b.ss b.ssSize b.sp sz.bytes 2 else pure ()) >>= fun _ =>
      checkCodeLimit (c.toSeg sel) off >>= fun _ => (if call then pushReturn sz else pure ()) >>= fun _ =>
      enterCode sel c off) b := by
  cases call <;> rfl

theorem transferSame_absent (h : c.p = false) :
    transferSame call sz off sel c b = .error (.exc (excNP (selErr sel)) b false) := by
  rw [transferSame_eq]
  exact bind_raises (require_fails h _ _)

theorem transferSame_run (hp : b.cr0.pg = false) (hc : c.isCode = true) (hpr : c.p = true) {t : State} {stored : List Nat}
    (h : SameTransfer call sz off sel c b t stored) : transferSame call sz off sel c b = .ok ((), t) := by
  obtain ⟨hr, hw, rfl, -⟩ := h
  have hkept : (returnKept call sz b).cr0.pg = false := by rwa [returnKept_cr0]
  have hent := enterCode_run hkept sel c off
  rw [returnKept_cpl] at hent
  rw [transferSame_eq]
  exact (bind_passes (require_passes hpr _ _)).trans <| (bind_passes (callRoom_ok fun h => hasRoom_of_room (hr h))).trans <|
    (bind_passes (checkCodeLimit_ok ((toSeg_holds_iff hc _ _).2 hw) _)).trans <|
    (bind_completes (returnKept_run fun h => ⟨hp, hr h⟩)).trans hent

theorem transferSame_raises (hc : c.isCode = true) (hpr : c.p = true) {e : Exc} (h : SameTransferFails call sz off c b e) :
    transferSame call sz off sel c b = .error (.exc e b false) := by
  rw [transferSame_eq, bind_passes (require_passes hpr _ _)]
  obtain ⟨rfl, hr, rfl⟩ | ⟨hr, hw, rfl⟩ := h
  · exact bind_raises (checkRoom_raises (mt (stackRoom_iff_hasRoom b sz 2).1 hr) b)
  · exact (bind_passes (callRoom_ok hr)).trans (bind_raises (checkCodeLimit_raises (mt (toSeg_holds_iff hc _ _).1 hw) b))

theorem byte_sameTransfer_other {t : State} {stored : List Nat} (h : SameTransfer call sz off sel c b t stored) {a : Nat}
    (ha : a ∉ stored) : t.byte a = b.byte a := by
  obtain ⟨-, -, ht, hs⟩ := h
  have ht : t = codeEntered (returnKept call sz b) sel b.cpl c off := ht
  have hs : stored = returnSlots call sz b ++ accessedByte b sel c := hs
  rw [hs, List.mem_append, not_or] at ha
  rw [ht, byte_codeEntered_other (returnKept_gdtr ..) (returnKept_ldtr ..) off ha.2, byte_returnKept_other ha.1]

end

/-! ## A call through a gate to an inner level -/

theorem readParams_run {b : State} (hp : b.cr0.pg = false) (sz : Sz) (n i : Nat)
    (h : ∀ j, j < n → StackReadable b sz ((i + j) * sz.bytes)) :
    readParams sz n i b = .ok ((List.range n).map fun j => stackElement b sz ((i + j) * sz.bytes), b) := by
  induction n generalizing i with
  | zero => rfl
  | succ n ih =>
    have hread : stackRead sz (sz.bytes * i) b = .ok (stackElement b sz (i * sz.bytes), b) := by
      rw [Nat.mul_comm]
      exact stackRead_run hp (h 0 (Nat.succ_pos n))
    have hnext (j : Nat) : i + 1 + j = i + (j + 1) := by omega
    have hrest := ih (i + 1) fun j hj => by
      rw [hnext]
      exact h (j + 1) (by omega)
    rw [List.range_succ_eq_map, List.map_cons, List.map_map]
    simp only [hnext] at hrest
    exact (bind_passes hread).trans (bind_passes hrest)

/-- What a call inward pushes. -/
def inwardElements (b : State) (g : Desc) : List Dword :=
  [selElement g.gateSize b.ss.sel b 0, b.regs.esp] ++ parameters b g ++ [selElement g.gateSize b.cs.sel b 1, b.next]

theorem inwardElements_length (b : State) (g : Desc) : (inwardElements b g).length = g.gateCount + 4 := by
  simp [inwardElements, parameters]

theorem parameters_run {b : State} (hp : b.cr0.pg = false) (g : Desc)
    (h : ∀ i, i < g.gateCount → StackReadable b g.gateSize (i * g.gateSize.bytes)) :
    readParams g.gateSize g.gateCount 0 b = .ok ((parameters b g).reverse, b) := by
  have hrun := readParams_run hp g.gateSize g.gateCount 0 fun j hj => by
    rw [Nat.zero_add]
    exact h j hj
  simp only [Nat.zero_add] at hrun
  rw [hrun, parameters, List.reverse_reverse]

theorem inwardStack_eq (b : State) (g c d : Desc) :
    inwardStack b g c d = onInnerStack (padded g.gateSize b 2) c.dpl d := rfl

/-- Room on the inner stack is tested before it is entered. -/
theorem inwardStack_room_iff {b : State} (hm : b.mode = .prot) (g c d : Desc) (k : Nat) :
    stackRoom (d.toSeg (innerSel b c.dpl)) d.stackSize (innerPtr b c.dpl) g.gateSize.bytes k = true ↔
      HasRoom (inwardStack b g c d) g.gateSize k := by
  have hm : (padded g.gateSize b 2).mode = .prot := hm
  exact stackRoom_iff_of_stack ((onInnerStack_mode _ c.dpl d).trans hm) (onInnerStack_ss ..) (onInnerStack_sp ..) _ _

/-- The state when it has pushed its elements. -/
def inwardPushed (b : State) (g c d : Desc) : State := pushList (inwardStack b g c d) g.gateSize (inwardElements b g)

section
variable (b : State) (g c d : Desc)

theorem inwardPushed_cr0 : (inwardPushed b g c d).cr0 = b.cr0 := (pushList_cr0 ..).trans (onInnerStack_cr0 ..)
theorem inwardPushed_gdtr : (inwardPushed b g c d).gdtr = b.gdtr := (pushList_gdtr ..).trans (onInnerStack_gdtr ..)
theorem inwardPushed_ldtr : (inwardPushed b g c d).ldtr = b.ldtr := (pushList_ldtr ..).trans (onInnerStack_ldtr ..)
theorem inwardPushed_cpl : (inwardPushed b g c d).cpl = c.dpl := pushList_cpl ..

end

section
variable {b : State} {g c d : Desc} {e : Exc}

theorem inwardPushed_run (hp : b.cr0.pg = false) (h : Room (inwardStack b g c d) g.gateSize (g.gateCount + 4)) :
    pushAll g.gateSize (inwardElements b g) (inwardStack b g c d) = .ok ((), inwardPushed b g c d) := by
  refine pushAll_run ((congrArg Cr0.pg (onInnerStack_cr0 ..)).trans hp) ?_
  rwa [inwardElements_length]

theorem byte_inwardPushed_other {a : Nat} (hd : a ∉ accessedByte b (innerSel b c.dpl) d)
    (hs : a ∉ slots (inwardStack b g c d) g.gateSize (g.gateCount + 4)) : (inwardPushed b g c d).byte a = b.byte a := by
  rw [← inwardElements_length b g] at hs
  rw [inwardPushed, (descends_pushList g.gateSize _ _).byte a hs, inwardStack_eq]
  exact byte_onInnerStack_other (u := padded g.gateSize b 2) hd

theorem callInner_absent (sel : Word) (h : c.p = false) : callInner g sel c b = .error (.exc (excNP (selErr sel)) b false) :=
  (bind_passes (M.get_run b)).trans (bind_raises (require_fails h _ _))

theorem callInner_run (hm : b.mode = .prot) (hp : b.cr0.pg = false) (hc : c.isCode = true) (hpr : c.p = true)
    (hd : InnerStack b c.dpl d) {t : State} {stored : List Nat} (h : CallsInward g c d b t stored) :
    callInner g g.gateSel c b = .ok ((), t) := by
  obtain ⟨hw, hparams, hroom, rfl, -⟩ := h
  have hfits := (inwardStack_room_iff hm g c d _).2 (hasRoom_of_room hroom)
  have hpushed : (inwardPushed b g c d).cr0.pg = false := by rwa [inwardPushed_cr0]
  have hent := enterCode_run hpushed g.gateSel c g.gateOff
  rw [inwardPushed_cpl] at hent
  refine (bind_passes (M.get_run b)).trans <| (bind_passes (require_passes hpr _ _)).trans <|
    (bind_passes (innerStack_run hp _ hd)).trans <| (bind_passes (checkRoom_ok hfits _)).trans <|
    (bind_passes (checkCodeLimit_ok ((toSeg_holds_iff hc _ _).2 hw) _)).trans <|
    (bind_passes (parameters_run hp g hparams)).trans <| (bind_completes (padSel_first _ _ _)).trans <|
    (bind_completes (padSel_run _ _ _ 1)).trans <|
    (bind_completes (enterStack_run (u := padded g.gateSize b 2) hp c.dpl d)).trans ?_
  rw [List.reverse_reverse]
  exact (bind_completes (inwardPushed_run hp hroom)).trans hent

theorem callInner_raises_stack (hp : b.cr0.pg = false) (hpr : c.p = true) (h : InnerFails b c.dpl (excTS 0#16) e) :
    callInner g g.gateSel c b = .error (.exc e b false) :=
  (bind_passes (M.get_run b)).trans <| (bind_passes (require_passes hpr _ _)).trans (bind_raises (innerStack_raises hp h))

theorem callInner_raises_room (hm : b.mode = .prot) (hp : b.cr0.pg = false) (hpr : c.p = true) (hd : InnerStack b c.dpl d)
    (h : ¬ HasRoom (inwardStack b g c d) g.gateSize (g.gateCount + 4)) :
    callInner g g.gateSel c b = .error (.exc (excSS 0#16) b false) :=
  (bind_passes (M.get_run b)).trans <| (bind_passes (require_passes hpr _ _)).trans <|
    (bind_passes (innerStack_run hp _ hd)).trans (bind_raises (checkRoom_raises (mt (inwardStack_room_iff hm g c d _).1 h) b))

theorem callInner_raises_limit (hm : b.mode = .prot) (hp : b.cr0.pg = false) (hc : c.isCode = true) (hpr : c.p = true)
    (hd : InnerStack b c.dpl d) (hr : HasRoom (inwardStack b g c d) g.gateSize (g.gateCount + 4)) (h : ¬ Within c g.gateOff) :
    callInner g g.gateSel c b = .error (.exc (excGP 0#16) b false) :=
  (bind_passes (M.get_run b)).trans <| (bind_passes (require_passes hpr _ _)).trans <|
    (bind_passes (innerStack_run hp _ hd)).trans <|
    (bind_passes (checkRoom_ok ((inwardStack_room_iff hm g c d _).2 hr) b)).trans
    (bind_raises (checkCodeLimit_raises (mt (toSeg_holds_iff hc _ _).1 h) b))

theorem byte_callsInward_other {t : State} {stored : List Nat} (h : CallsInward g c d b t stored) {a : Nat}
    (ha : a ∉ stored) : t.byte a = b.byte a := by
  obtain ⟨-, -, -, ht, rfl⟩ := h
  have ht : t = codeEntered (inwardPushed b g c d) g.gateSel c.dpl c g.gateOff := ht
  simp only [List.mem_append, not_or] at ha
  rw [ht, byte_codeEntered_other (inwardPushed_gdtr ..) (inwardPushed_ldtr ..) g.gateOff ha.2,
    byte_inwardPushed_other ha.1.1 ha.1.2]

end

/-! ## The target of a call gate -/

/-- A code segment that a call gate may lead to. -/
def gateCode (call : Bool) (cpl : BitVec 2) (c : Desc) : Bool :=
  c.isCode && if call then decide (c.dpl ≤ cpl) else if c.conforming then decide (c.dpl ≤ cpl) else decide (c.dpl = cpl)

theorem gateCode_iff (b : State) (call : Bool) (c : Desc) : gateCode call b.cpl c = true ↔ GateTarget b call c := by
  cases call with
  | false => exact atLevel_iff b.cpl c
  | true => simp [gateCode, GateTarget]

/-- The transfer to it: inward or at the same level. -/
def gateTransfer (call : Bool) (cpl : BitVec 2) (g c : Desc) : M Unit :=
  if call = true ∧ c.conforming = false ∧ c.dpl < cpl then callInner g g.gateSel c
  else transferSame call g.gateSize g.gateOff g.gateSel c

theorem gateTransfer_absent {call : Bool} {cpl : BitVec 2} {g c : Desc} (h : c.p = false) (b : State) :
    gateTransfer call cpl g c b = .error (.exc (excNP (selErr g.gateSel)) b false) := by
  rw [gateTransfer]
  split
  · exact callInner_absent _ h
  · exact transferSame_absent h

/-- A test that an operation makes itself may be made before it. -/
theorem require_of_raises {α : Type} {p : Bool} {e : Exc} {f : M α} (h : p = false → ∀ b, f b = .error (.exc e b false)) :
    (require p e >>= fun _ => f) = f := by
  funext b
  cases p with
  | false => exact (bind_raises (require_fails rfl _ _)).trans (h rfl b).symm
  | true => exact bind_passes (require_passes rfl _ _)

/-- What follows the reading of the descriptor that a call gate names. -/
def gateChecked (call : Bool) (cpl : BitVec 2) (g c : Desc) : M Unit := do
  require c.isCode (excGP (selErr g.gateSel))
  if call then
    require (decide (c.dpl ≤ cpl)) (excGP (selErr g.gateSel))
    if !c.conforming ∧ c.dpl < cpl then callInner g g.gateSel c
    else transferSame true g.gateSize g.gateOff g.gateSel c
  else
    require (if c.conforming then decide (c.dpl ≤ cpl) else decide (c.dpl = cpl)) (excGP (selErr g.gateSel))
    transferSame false g.gateSize g.gateOff g.gateSel c

theorem gateChecked_eq (call : Bool) (cpl : BitVec 2) (g c : Desc) :
    gateChecked call cpl g c = (require (gateCode call cpl c) (excGP (selErr g.gateSel)) >>= fun _ =>
      require c.p (excNP (selErr g.gateSel)) >>= fun _ => gateTransfer call cpl g c) := by
  rw [require_of_raises gateTransfer_absent, gateCode, ← require_require]
  cases call with
  | false => rfl
  | true => simp [gateChecked, gateTransfer]

/-- The tests of a call gate are those of the gate, then those of any named descriptor. -/
theorem farGate_eq (call : Bool) (sel : Word) (g : Desc) (b : State) :
    farGate call sel g b = (require (decide (b.cpl ≤ g.dpl)) (excGP (selErr sel)) >>= fun _ =>
      require (decide (selRpl sel ≤ g.dpl)) (excGP (selErr sel)) >>= fun _ => require g.p (excNP (selErr sel)) >>= fun _ =>
      checkedDesc g.gateSel (excGP 0#16) (excGP (selErr g.gateSel)) (excNP (selErr g.gateSel)) (gateCode call b.cpl) >>=
        gateTransfer call b.cpl g) b := by
  simp only [checkedDesc, bind_assoc, pure_bind, ← gateChecked_eq]
  cases call <;> rfl

section
variable {call : Bool} {sel : Word} {g c : Desc} {b : State} {e : Exc}

theorem farGate_open (h : OpenGate b sel g) (hpr : g.p = true) :
    farGate call sel g b = (checkedDesc g.gateSel (excGP 0#16) (excGP (selErr g.gateSel)) (excNP (selErr g.gateSel))
      (gateCode call b.cpl) >>= gateTransfer call b.cpl g) b := by
  obtain ⟨-, -, hcpl, hrpl⟩ := h
  rw [← selRpl_eq] at hrpl
  rw [farGate_eq]
  exact (bind_passes (require_passes (decide_eq_true hcpl) _ _)).trans <|
    (bind_passes (require_passes (decide_eq_true hrpl) _ _)).trans (bind_passes (require_passes hpr _ _))

theorem farGate_absent (h : OpenGate b sel g) (hpr : g.p = false) :
    farGate call sel g b = .error (.exc (excNP (selErr sel)) b false) := by
  obtain ⟨-, -, hcpl, hrpl⟩ := h
  rw [← selRpl_eq] at hrpl
  rw [farGate_eq]
  exact (bind_passes (require_passes (decide_eq_true hcpl) _ _)).trans <|
    (bind_passes (require_passes (decide_eq_true hrpl) _ _)).trans (bind_raises (require_fails hpr _ _))

theorem farGate_raises_level (h : ¬ (b.cpl ≤ g.dpl ∧ rplOf sel ≤ g.dpl)) :
    farGate call sel g b = .error (.exc (excGP (selErr sel)) b false) := by
  rw [← selRpl_eq] at h
  rw [farGate_eq]
  by_cases hcpl : b.cpl ≤ g.dpl
  · have hrpl := decide_eq_false fun hrpl => h ⟨hcpl, hrpl⟩
    exact (bind_passes (require_passes (decide_eq_true hcpl) _ _)).trans (bind_raises (require_fails hrpl _ _))
  · exact bind_raises (require_fails (decide_eq_false hcpl) _ _)

theorem isCode_of_gateTarget (h : GateTarget b call c) : c.isCode = true := by
  cases call with
  | false => exact h.1
  | true => exact h.1

/-- What a gate's transfer leaves, by its kind. -/
theorem gateTransfer_run (hm : b.mode = .prot) (hp : b.cr0.pg = false) (hc : c.isCode = true) (hpr : c.p = true) {t : State}
    {stored : List Nat}
    (h : (¬ Inward b call c ∧ SameTransfer call g.gateSize g.gateOff g.gateSel c b t stored) ∨
      (Inward b call c ∧ ∃ d, InnerStack b c.dpl d ∧ CallsInward g c d b t stored)) :
    gateTransfer call b.cpl g c b = .ok ((), t) := by
  obtain ⟨hin, h⟩ | ⟨hin, d, hd, h⟩ := h
  · exact (congrFun (if_neg hin) b).trans (transferSame_run hp hc hpr h)
  · exact (congrFun (if_pos hin) b).trans (callInner_run hm hp hc hpr hd h)

theorem gateTransfer_raises (hm : b.mode = .prot) (hp : b.cr0.pg = false) (hc : c.isCode = true) (hpr : c.p = true)
    (h : (¬ Inward b call c ∧ SameTransferFails call g.gateSize g.gateOff c b e) ∨
      (Inward b call c ∧ (InnerFails b c.dpl (excTS 0#16) e ∨ ∃ d, InnerStack b c.dpl d ∧
        ((¬ HasRoom (inwardStack b g c d) g.gateSize (g.gateCount + 4) ∧ e = excSS 0#16) ∨
         (HasRoom (inwardStack b g c d) g.gateSize (g.gateCount + 4) ∧ ¬ Within c g.gateOff ∧ e = excGP 0#16))))) :
    gateTransfer call b.cpl g c b = .error (.exc e b false) := by
  obtain ⟨hin, h⟩ | ⟨hin, hd | ⟨d, hd, ⟨hr, rfl⟩ | ⟨hr, hw, rfl⟩⟩⟩ := h
  · exact (congrFun (if_neg hin) b).trans (transferSame_raises hc hpr h)
  · exact (congrFun (if_pos hin) b).trans (callInner_raises_stack hp hpr hd)
  · exact (congrFun (if_pos hin) b).trans (callInner_raises_room hm hp hpr hd hr)
  · exact (congrFun (if_pos hin) b).trans (callInner_raises_limit hm hp hc hpr hd hr hw)

end

/-! ## The descriptor that a far pointer names -/

/-- A code segment that a far pointer may name, among those of code. -/
def directKind (sel : Word) (cpl : BitVec 2) (c : Desc) : Bool :=
  if c.conforming then decide (c.dpl ≤ cpl) else decide (selRpl sel ≤ cpl) && decide (c.dpl = cpl)

/-- What follows the reading of its descriptor. -/
def farDesc (call : Bool) (os : Sz) (off : Dword) (sel : Word) (d : Desc) : M Bool :=
  if d.isCode then farCode call os off sel d >>= fun _ => pure false
  else if d.isSys 4#4 || d.isSys 12#4 then farGate call sel d >>= fun _ => pure false
  else if d.isSys 5#4 || d.availTss || d.busyTss then farTask call sel d >>= fun _ => pure true
  else raise (excGP (selErr sel))

theorem farProt_eq (call : Bool) (os : Sz) (off : Dword) (sel : Word) :
    farProt call os off sel = require (!selNull sel) (excGP 0#16) >>= fun _ => fetchDesc sel (excGP (selErr sel)) >>=
      farDesc call os off sel := rfl

theorem farCode_eq (call : Bool) (os : Sz) (off : Dword) (sel : Word) (c : Desc) (b : State) :
    farCode call os off sel c b = (require (directKind sel b.cpl c) (excGP (selErr sel)) >>= fun _ =>
      transferSame call os off sel c) b := by
  refine (bind_passes (M.get_run b)).trans ?_
  rw [directKind]
  cases h : c.conforming with
  | true => rfl
  | false =>
    simp only [Bool.false_eq_true, if_false, ← require_require]
    rfl

section
variable {call : Bool} {os : Sz} {off : Dword} {sel : Word} {d : Desc} {b : State} {e : Exc}

theorem directTarget_iff (hc : d.isCode = true) : directKind sel b.cpl d = true ↔ DirectTarget b sel d := by
  rw [directKind, DirectTarget, AtLevel, selRpl_eq, and_iff_right hc]
  cases d.conforming <;> simp [and_comm]

theorem isGate_iff : (d.isSys 4#4 || d.isSys 12#4) = true ↔ d.s = false ∧ (d.typ = 4#4 ∨ d.typ = 12#4) := by
  rw [Bool.or_eq_true, isSys_iff, isSys_iff, and_or_left]

theorem isTask_iff : (d.isSys 5#4 || d.availTss || d.busyTss) = true ↔
    d.s = false ∧ (d.typ = 1#4 ∨ d.typ = 3#4 ∨ d.typ = 5#4 ∨ d.typ = 9#4 ∨ d.typ = 11#4) := by
  simp only [Desc.availTss, Desc.busyTss, Bool.or_eq_true, isSys_iff]
  tauto

theorem not_isCode_of_system (h : d.s = false) : ¬ d.isCode = true := by simp [Desc.isCode, h]

theorem farDesc_code (hc : d.isCode = true) :
    farDesc call os off sel d b = (farCode call os off sel d >>= fun _ => pure false) b := congrFun (if_pos hc) b

theorem farDesc_direct (h : DirectTarget b sel d) :
    farDesc call os off sel d b = (transferSame call os off sel d >>= fun _ => pure false) b := by
  have hc : d.isCode = true := h.1.1
  rw [farDesc_code hc, M.bind_run, M.bind_run, farCode_eq, bind_passes (require_passes ((directTarget_iff hc).2 h) _ _)]

theorem farDesc_gate (h : d.s = false ∧ (d.typ = 4#4 ∨ d.typ = 12#4)) :
    farDesc call os off sel d b = (farGate call sel d >>= fun _ => pure false) b :=
  congrFun ((if_neg (not_isCode_of_system h.1)).trans (if_pos (isGate_iff.2 h))) b

/-- Neither code that may be named, nor a gate that may be used, nor a task. -/
theorem farDesc_raises (h : ¬ (DirectTarget b sel d ∨ OpenGate b sel d))
    (ht : ¬ (d.s = false ∧ (d.typ = 1#4 ∨ d.typ = 3#4 ∨ d.typ = 5#4 ∨ d.typ = 9#4 ∨ d.typ = 11#4))) :
    farDesc call os off sel d b = .error (.exc (excGP (selErr sel)) b false) := by
  by_cases hc : d.isCode = true
  · have hbad := Bool.eq_false_iff.2 fun hk => h (.inl ((directTarget_iff hc).1 hk))
    rw [farDesc_code hc]
    exact bind_raises ((farCode_eq ..).trans (bind_raises (require_fails hbad _ _)))
  by_cases hg : d.s = false ∧ (d.typ = 4#4 ∨ d.typ = 12#4)
  · rw [farDesc_gate hg]
    exact bind_raises (farGate_raises_level fun hl => h (.inr ⟨hg.1, hg.2, hl⟩))
  · exact congrFun ((if_neg hc).trans <| (if_neg (mt isGate_iff.1 hg)).trans (if_neg (mt isTask_iff.1 ht))) b

theorem farDesc_absent (h : DirectTarget b sel d ∨ OpenGate b sel d) (hpr : d.p = false) :
    farDesc call os off sel d b = .error (.exc (excNP (selErr sel)) b false) := by
  obtain h | h := h
  · rw [farDesc_direct h]
    exact bind_raises (transferSame_absent hpr)
  · rw [farDesc_gate ⟨h.1, h.2.1⟩]
    exact bind_raises (farGate_absent h hpr)

/-! ## The whole transfer -/

variable (hp : b.cr0.pg = false)
include hp

theorem farProt_named (hn : ¬ NullSel sel) (hin : InTable b sel) :
    farProt call os off sel b = farDesc call os off sel (descAt b sel) b := by
  have hnull : (!selNull sel) = true := by simpa using mt (selNull_iff sel).1 hn
  rw [farProt_eq]
  exact (bind_passes (require_passes hnull _ _)).trans (bind_passes (fetchDesc_run hp _ hin))

theorem farProt_raises_name (ht : ¬ HasTask b sel)
    (h : NameFails b sel (fun d => DirectTarget b sel d ∨ OpenGate b sel d) (excGP 0#16) (excGP (selErr sel))
      (excNP (selErr sel)) e) : farProt call os off sel b = .error (.exc e b false) := by
  obtain ⟨hn, rfl⟩ | ⟨hn, hbad, rfl⟩ | ⟨hn, hin, hok, hpr, rfl⟩ := h
  · have hnull : (!selNull sel) = false := by simpa using (selNull_iff sel).2 hn
    exact bind_raises (require_fails hnull _ _)
  · by_cases hin : InTable b sel
    · rw [farProt_named hp hn hin]
      exact farDesc_raises (fun hok => hbad ⟨hin, hok⟩) fun htask => ht ⟨hn, hin, htask⟩
    · have hnull : (!selNull sel) = true := by simpa using mt (selNull_iff sel).1 hn
      rw [farProt_eq]
      exact (bind_passes (require_passes hnull _ _)).trans (bind_raises (fetchDesc_raises _ hin))
  · rw [farProt_named hp hn hin]
    exact farDesc_absent hok hpr

theorem farProt_direct (h : Named b sel (DirectTarget b sel) d) :
    farProt call os off sel b = (transferSame call os off sel d >>= fun _ => pure false) b := by
  obtain ⟨hn, hin, rfl, hd, -⟩ := h
  rw [farProt_named hp hn hin, farDesc_direct hd]

theorem farProt_gate (h : Named b sel (OpenGate b sel) d) :
    farProt call os off sel b = ((checkedDesc d.gateSel (excGP 0#16) (excGP (selErr d.gateSel)) (excNP (selErr d.gateSel))
      (gateCode call b.cpl) >>= gateTransfer call b.cpl d) >>= fun _ => pure false) b := by
  obtain ⟨hn, hin, rfl, hg, hpr⟩ := h
  rw [farProt_named hp hn hin, farDesc_gate ⟨hg.1, hg.2.1⟩, M.bind_run, farGate_open hg hpr, ← M.bind_run]

variable (hm : b.mode = .prot)
include hm

/-- The transfer that `FarEnters` describes runs so. -/
theorem farProt_of_enters {t : State} {stored : List Nat} (h : FarEnters call os off sel b t stored) :
    farProt call os off sel b = .ok (false, t) := by
  obtain ⟨c, hc, h⟩ | ⟨g, c, hg, hc, h⟩ := h
  · obtain ⟨-, -, -, ⟨⟨hcode, -⟩, -⟩, hpr⟩ := id hc
    exact (farProt_direct hp hc).trans (bind_completes (transferSame_run hp hcode hpr h))
  · obtain ⟨-, -, -, hk, hpr⟩ := id hc
    have hrun := gateTransfer_run hm hp (isCode_of_gateTarget hk) hpr h
    exact (farProt_gate hp hg).trans
      (bind_completes ((bind_passes (checkedDesc_ok (gateCode_iff b call) hp hc)).trans hrun))

/-- So does the one that `FarFails` describes raise its exception, before anything changes. -/
theorem farProt_of_fails (h : FarFails call os off sel b e) : farProt call os off sel b = .error (.exc e b false) := by
  obtain ⟨ht, h⟩ | ⟨c, hc, h⟩ | ⟨g, hg, h | ⟨c, hc, h⟩⟩ := h
  · exact farProt_raises_name hp ht h
  · obtain ⟨-, -, -, ⟨⟨hcode, -⟩, -⟩, hpr⟩ := id hc
    exact (farProt_direct hp hc).trans (bind_raises (transferSame_raises hcode hpr h))
  · exact (farProt_gate hp hg).trans (bind_raises (bind_raises (checkedDesc_raises (gateCode_iff b call) hp h)))
  · obtain ⟨-, -, -, hk, hpr⟩ := id hc
    have hrun := gateTransfer_raises hm hp (isCode_of_gateTarget hk) hpr h
    exact (farProt_gate hp hg).trans
      (bind_raises ((bind_passes (checkedDesc_ok (gateCode_iff b call) hp hc)).trans hrun))

end

theorem byte_farEnters_other {call : Bool} {os : Sz} {off : Dword} {sel : Word} {b t : State} {stored : List Nat}
    (h : FarEnters call os off sel b t stored) {a : Nat} (ha : a ∉ stored) : t.byte a = b.byte a := by
  obtain ⟨c, -, h⟩ | ⟨g, c, -, -, ⟨-, h⟩ | ⟨-, d, -, h⟩⟩ := h
  · exact byte_sameTransfer_other h ha
  · exact byte_sameTransfer_other h ha
  · exact byte_callsInward_other h ha

/-! ## The claims about the instructions -/

section
variable {s u : State} {call : Bool} {os : Sz} {off : Dword} {sel : Word} {i : Instr}

theorem farTransfer_prot (hm : u.mode = .prot) : farTransfer call os off sel u = farProt call os off sel u :=
  (bind_passes (M.get_run u)).trans (congrFun (if_pos hm) u)

variable (ha : Accepts s false) (hm : s.mode = .prot) (hp : s.cr0.pg = false) (h : FarForm s call os off sel u i)
include ha hm hp h

theorem farForm_prot_completes {t : State} {stored : List Nat} (he : FarEnters call os off sel u t stored) :
    Completes i s u t stored := by
  have hm : u.mode = .prot := (mode_of_farForm h).trans hm
  have hp : u.cr0.pg = false := by rw [(found_of_farForm h).same]; exact hp
  exact completes_of_farForm ha h ((farTransfer_prot hm).trans (farProt_of_enters hp hm he)) fun a => byte_farEnters_other he

theorem farForm_prot_raises {e : Exc} (he : FarFails call os off sel u e) : Takes i s u e := by
  have hm : u.mode = .prot := (mode_of_farForm h).trans hm
  have hp : u.cr0.pg = false := by rw [(found_of_farForm h).same]; exact hp
  exact takes_of_farForm ha h ((farTransfer_prot hm).trans (farProt_of_fails hp hm he))

end

end Sys2Proof.Machine
end

section
/-! PROOFS. Far RET in protected mode, paging off: to the same and to an outer level (47_r.md R427, R428). -/

namespace Sys2Proof.Machine

open Sys2Proof.Claims

/-! ## The data segments of an outer level -/

theorem readable_iff_fitsType (g : SegReg) : g.readable = true ↔ FitsType g false := by
  simp [SegReg.readable, FitsType]

theorem conforming_iff (g : SegReg) : g.conforming = true ↔ IsConforming g := by
  simp [SegReg.conforming, SegReg.isCode, IsConforming, and_assoc]

theorem retInvalid_iff (s : State) (g : SegReg) : retInvalid s g = true ↔ retDrops s g := by
  have hnull : selNull g.sel = true ↔ NullSel g.sel := selNull_iff g.sel
  simp only [retInvalid, retDrops, Bool.and_eq_true, Bool.or_eq_true, Bool.not_eq_true', ← Bool.not_eq_true,
    decide_eq_true_eq, hnull, selInTable_iff, readable_iff_fitsType, conforming_iff, or_assoc]

/-- A data segment register after a RET to an outer level. -/
def retKept (u : State) (g : SegReg) : SegReg := if retInvalid u g then retZero g else g

theorem dropped_ret_eq (u : State) : dropped (retDrops u) retZero u =
    { u with es := retKept u u.es, fs := retKept u u.fs, gs := retKept u u.gs, ds := retKept u u.ds } := by
  have hkeep (g : SegReg) [Decidable (retDrops u g)] : (if retDrops u g then retZero g else g) = retKept u g :=
    if_congr (retInvalid_iff u g).symm rfl rfl
  simp only [dropped, hkeep]

theorem clearInvalid_run (r : Sreg) (u : State) : clearInvalid r u = .ok ((), u.setSeg r (retKept u (u.seg r))) := by
  refine (M.modify_run _ u).trans ?_
  rw [retKept]
  split
  · rfl
  · cases r <;> rfl

theorem clearAll_run (u : State) (f : M Unit) :
    (clearInvalid .es >>= fun _ => clearInvalid .fs >>= fun _ => clearInvalid .gs >>= fun _ =>
      clearInvalid .ds >>= fun _ => f) u = f (dropped (retDrops u) retZero u) := by
  rw [dropped_ret_eq]
  exact (bind_completes (clearInvalid_run .es u)).trans <| (bind_completes (clearInvalid_run .fs _)).trans <|
    (bind_completes (clearInvalid_run .gs _)).trans (bind_completes (clearInvalid_run .ds _))

section
variable {b : State} {os : Sz} {n : Word} {c d : Desc} {sel ss : Word} {e : Exc}

/-! ## The return to the same level -/

/-- What it leaves. -/
def retReturned (os : Sz) (n : Nat) (b : State) (sel : Word) (c : Desc) : State :=
  jumped (raised (segLoaded b .cs sel c) (2 * os.bytes + n)) (stackElement b os 0)

theorem retSame_run (hp : b.cr0.pg = false) (hc : Named b sel (AtLevel b.cpl) c) (hr : StackReadable b os 0)
    (hw : Within c (stackElement b os 0)) : retSame os n sel b = .ok ((), retReturned os n.toNat b sel c) :=
  (bind_passes (M.get_run b)).trans <| (bind_passes (returnCs_run hp hc)).trans <|
    (bind_passes (checkStackTop_ok (held_of_readable hr))).trans <| (bind_passes (stackRead_run hp hr)).trans <|
    (bind_passes (checkCodeLimit_ok ((toSeg_holds_iff (isCode_of_named hc) _ _).2 hw) b)).trans <|
    (bind_completes (loadSeg_run hp ..)).trans <| (bind_completes (addStackPtr_run ..)).trans (jumpTo_run ..)

theorem retSame_raises_cs (hp : b.cr0.pg = false)
    (h : NameFails b sel (AtLevel b.cpl) (excGP 0#16) (excGP (selErr sel)) (excNP (selErr sel)) e) :
    retSame os n sel b = .error (.exc e b false) :=
  (bind_passes (M.get_run b)).trans (bind_raises (returnCs_raises hp h))

theorem retSame_raises_top (hp : b.cr0.pg = false) (hc : Named b sel (AtLevel b.cpl) c) (h : ¬ Held b 0 os.bytes) :
    retSame os n sel b = .error (.exc (excSS 0#16) b false) :=
  (bind_passes (M.get_run b)).trans <| (bind_passes (returnCs_run hp hc)).trans (bind_raises (checkStackTop_raises h))

theorem retSame_raises_ip (hp : b.cr0.pg = false) (hc : Named b sel (AtLevel b.cpl) c) (hr : StackReadable b os 0)
    (hw : ¬ Within c (stackElement b os 0)) : retSame os n sel b = .error (.exc (excGP 0#16) b false) :=
  (bind_passes (M.get_run b)).trans <| (bind_passes (returnCs_run hp hc)).trans <|
    (bind_passes (checkStackTop_ok (held_of_readable hr))).trans <| (bind_passes (stackRead_run hp hr)).trans
    (bind_raises (checkCodeLimit_raises (mt (toSeg_holds_iff (isCode_of_named hc) _ _).1 hw) b))

/-! ## The return to an outer level -/

/-- The outer stack and code segment, before the data segment registers are looked at. -/
def retStack (os : Sz) (n : Nat) (b : State) (sel ss : Word) (c d : Desc) : State :=
  outerSp os (stackElement b os (2 * os.bytes + n))
    (segLoaded (segLoaded { b with cpl := rplOf sel } .cs sel c) .ss ss d)

/-- What the return leaves. -/
noncomputable def retOuterReturned (os : Sz) (n : Nat) (b : State) (sel ss : Word) (c d : Desc) : State :=
  jumped (dropped (retDrops (retStack os n b sel ss c d)) retZero (retStack os n b sel ss c d)) (stackElement b os 0)

/-- The stack selector that the frame holds above `n` bytes of parameters. -/
def retSs (os : Sz) (n : Nat) (b : State) : Word := (stackElement b os (3 * os.bytes + n)).setWidth 16

section
variable (hp : b.cr0.pg = false) (hh : Held b 0 (4 * os.bytes + n.toNat))
include hp hh

theorem retOuter_raises_cs
    (h : NameFails b sel (AtLevel (rplOf sel)) (excGP 0#16) (excGP (selErr sel)) (excNP (selErr sel)) e) :
    retOuter os n sel b = .error (.exc e b false) := by
  rw [← selRpl_eq] at h
  exact (bind_passes (checkStackTop_ok hh)).trans (bind_raises (returnCs_raises hp h))

variable (hc : Named b sel (AtLevel (rplOf sel)) c) (hs : StackReadable b os (3 * os.bytes + n.toNat))
include hc hs

theorem retOuter_raises_ss (h : NameFails b (retSs os n.toNat b) (StackAt (retSs os n.toNat b) (rplOf sel)) (excGP 0#16)
    (excGP (selErr (retSs os n.toNat b))) (excNP (selErr (retSs os n.toNat b))) e) :
    retOuter os n sel b = .error (.exc e b false) := by
  rw [← selRpl_eq] at hc h
  exact (bind_passes (checkStackTop_ok hh)).trans <| (bind_passes (returnCs_run hp hc)).trans <|
    (bind_passes (stackRead_run hp hs)).trans (bind_raises (returnSs_raises hp h))

variable (hd : Named b (retSs os n.toNat b) (StackAt (retSs os n.toNat b) (rplOf sel)) d) (hr : StackReadable b os 0)
include hd hr

theorem retOuter_raises_ip (hw : ¬ Within c (stackElement b os 0)) :
    retOuter os n sel b = .error (.exc (excGP 0#16) b false) := by
  have hlimit := mt (toSeg_holds_iff (isCode_of_named hc) sel _).1 hw
  rw [← selRpl_eq] at hc hd
  exact (bind_passes (checkStackTop_ok hh)).trans <| (bind_passes (returnCs_run hp hc)).trans <|
    (bind_passes (stackRead_run hp hs)).trans <| (bind_passes (returnSs_run hp hd)).trans <|
    (bind_passes (stackRead_run hp hr)).trans (bind_raises (checkCodeLimit_raises hlimit b))

theorem retOuter_run (hsp : StackReadable b os (2 * os.bytes + n.toNat)) (hw : Within c (stackElement b os 0)) :
    retOuter os n sel b = .ok ((), retOuterReturned os n.toNat b sel (retSs os n.toNat b) c d) := by
  have hlimit := (toSeg_holds_iff (isCode_of_named hc) sel _).2 hw
  rw [retOuterReturned, retStack]
  rw [← selRpl_eq] at hc hd ⊢
  have hcs := loadSeg_run (s := { b with cpl := selRpl sel }) hp .cs sel c
  have hss := loadSeg_run (s := segLoaded { b with cpl := selRpl sel } .cs sel c) (by rwa [segLoaded_cr0]) .ss
    (retSs os n.toNat b) d
  exact (bind_passes (checkStackTop_ok hh)).trans <| (bind_passes (returnCs_run hp hc)).trans <|
    (bind_passes (stackRead_run hp hs)).trans <| (bind_passes (returnSs_run hp hd)).trans <|
    (bind_passes (stackRead_run hp hr)).trans <| (bind_passes (checkCodeLimit_ok hlimit b)).trans <|
    (bind_passes (stackRead_run hp hsp)).trans <| (bind_completes (M.modify_run _ b)).trans <|
    (bind_completes hcs).trans <| (bind_completes hss).trans <| (bind_completes (returnSp_run ..)).trans <|
    (clearAll_run _ _).trans (jumpTo_run _ _)

end

theorem retOuter_raises_top (h : ¬ Held b 0 (4 * os.bytes + n.toNat)) :
    retOuter os n sel b = .error (.exc (excSS 0#16) b false) := bind_raises (checkStackTop_raises h)

/-! ## Which return it is -/

/-- The return selector can be read. -/
def SelReadable (b : State) (os : Sz) : Prop := b.accessExc .ss (above b os.bytes) 2 false = none

theorem retProt_raises_top (h : ¬ Held b os.bytes 2) : retProt os n b = .error (.exc (excSS 0#16) b false) :=
  (bind_passes (M.get_run b)).trans (bind_raises (checkStackTop_raises h))

/-- The part before the two returns reads the return selector. -/
theorem retProt_eq (hp : b.cr0.pg = false) (h : SelReadable b os) :
    retProt os n b = (require (decide (b.cpl ≤ selRpl (retSel b os))) (excGP (selErr (retSel b os))) >>= fun _ =>
      if selRpl (retSel b os) = b.cpl then retSame os n (retSel b os) else retOuter os n (retSel b os)) b :=
  (bind_passes (M.get_run b)).trans <| (bind_passes (checkStackTop_ok (holds_of_accessExc (r := .ss) h))).trans
    (bind_passes (memBytes_off hp h))

section
variable (hp : b.cr0.pg = false) (h : SelReadable b os)
include hp h

theorem retProt_same (hl : rplOf (retSel b os) = b.cpl) : retProt os n b = retSame os n (retSel b os) b := by
  have hl : selRpl (retSel b os) = b.cpl := (selRpl_eq _).trans hl
  have hle : decide (b.cpl ≤ selRpl (retSel b os)) = true := by simp [hl]
  rw [retProt_eq hp h, bind_passes (require_passes hle _ _), if_pos hl]

theorem retProt_outer (hl : b.cpl < rplOf (retSel b os)) : retProt os n b = retOuter os n (retSel b os) b := by
  have hl : b.cpl < selRpl (retSel b os) := by rwa [selRpl_eq]
  have hle : decide (b.cpl ≤ selRpl (retSel b os)) = true := decide_eq_true (BitVec.le_of_lt hl)
  have hne : ¬ selRpl (retSel b os) = b.cpl := fun h => absurd hl (by simp [h])
  rw [retProt_eq hp h, bind_passes (require_passes hle _ _), if_neg hne]

theorem retProt_raises_level (hl : rplOf (retSel b os) < b.cpl) :
    retProt os n b = .error (.exc (excGP (selErr (retSel b os))) b false) := by
  have hl : selRpl (retSel b os) < b.cpl := by rwa [selRpl_eq]
  have hle : decide (b.cpl ≤ selRpl (retSel b os)) = false := decide_eq_false (BitVec.not_le.2 hl)
  rw [retProt_eq hp h]
  exact bind_raises (require_fails hle _ _)

end

/-! ## What a return stores -/

theorem byte_retReturned_other {a : Nat} (h : a ∉ accessedByte b sel c) (k : Nat) :
    (retReturned os k b sel c).byte a = b.byte a := by
  rw [retReturned, byte_jumped, byte_raised, byte_segLoaded_other h]

theorem byte_retOuterReturned_other {a : Nat} (hc : a ∉ accessedByte b sel c) (hd : a ∉ accessedByte b ss d) (k : Nat) :
    (retOuterReturned os k b sel ss c d).byte a = b.byte a := by
  have hc : a ∉ accessedByte { b with cpl := rplOf sel } sel c := hc
  have hbyte : accessedByte (segLoaded { b with cpl := rplOf sel } .cs sel c) ss d = accessedByte b ss d :=
    accessedByte_congr (segLoaded_gdtr ..) (segLoaded_ldtr ..) ss d
  rw [← hbyte] at hd
  rw [retOuterReturned, byte_jumped, byte_dropped, retStack, byte_outerSp, byte_segLoaded_other hd, byte_segLoaded_other hc,
    byte_releveled]

/-! ## The two claims -/

/-- The return that `RetEnters` describes runs so and stores so. -/
theorem retProt_of_enters (hp : b.cr0.pg = false) {t : State} {stored : List Nat} (h : RetEnters os n.toNat b t stored) :
    retProt os n b = .ok ((), t) ∧ ∀ a, a ∉ stored → t.byte a = b.byte a := by
  obtain ⟨hsel, hr, c, hc, hw, ⟨hl, rfl, rfl⟩ | ⟨hl, hh, hs, hsp, d, hd, rfl, rfl⟩⟩ := h
  · refine ⟨?_, fun a ha => byte_retReturned_other ha _⟩
    rw [hl] at hc
    exact (retProt_same hp hsel hl).trans (retSame_run hp hc hr hw)
  · refine ⟨?_, fun a ha => byte_retOuterReturned_other (fun h => ha (List.mem_append_left _ h))
      (fun h => ha (List.mem_append_right _ h)) _⟩
    exact (retProt_outer hp hsel hl).trans (retOuter_run hp hh hc hs hd hr hsp hw)

/-- So does the return that `RetFails` describes raise its exception, before anything changes. -/
theorem retProt_of_fails (hp : b.cr0.pg = false) (h : RetFails os n.toNat b e) : retProt os n b = .error (.exc e b false) := by
  obtain ⟨hheld, rfl⟩ | ⟨hsel, ⟨hl, rfl⟩ | ⟨hl, h⟩ | ⟨hl, h⟩⟩ := h
  · exact retProt_raises_top hheld
  · exact retProt_raises_level hp hsel hl
  · rw [retProt_same hp hsel hl]
    obtain h | ⟨c, hc, ⟨hheld, rfl⟩ | ⟨hr, hw, rfl⟩⟩ := h
    · exact retSame_raises_cs hp h
    · exact retSame_raises_top hp hc hheld
    · exact retSame_raises_ip hp hc hr hw
  · rw [retProt_outer hp hsel hl]
    obtain ⟨hheld, rfl⟩ | ⟨hheld, h | ⟨c, hc, hs, h | ⟨d, hd, hr, hw, rfl⟩⟩⟩ := h
    · exact retOuter_raises_top hheld
    · exact retOuter_raises_cs hp hheld h
    · exact retOuter_raises_ss hp hheld hc hs h
    · exact retOuter_raises_ip hp hheld hc hs hd hr hw

end

theorem returnFar_prot {b : State} (hm : b.mode = .prot) (os : Sz) (n : Word) :
    (get >>= fun s : State => if s.mode = .prot then retProt os n else retReal os n) b = retProt os n b :=
  (bind_passes (M.get_run b)).trans (congrFun (if_pos hm) b)

section
variable {s : State} {os : Sz} {i : Instr} {n : Word} (hi : exec i s = returnFar s os n) (ha : Accepts s false)
  (hm : s.mode = .prot) (hp : s.cr0.pg = false)
include hi ha hm hp

theorem retFar_prot_completes {t : State} {stored : List Nat} (h : RetEnters os n.toNat (begun s) t stored) :
    Completes i s (begun s) t stored := by
  obtain ⟨hrun, hbyte⟩ := retProt_of_enters (b := begun s) hp h
  exact completes_of_perform hi ha ((returnFar_prot (b := begun s) hm os n).trans hrun) hbyte (found_refl _)

theorem retFar_prot_raises {e : Exc} (h : RetFails os n.toNat (begun s) e) : exec i s = takeFault e s :=
  hi.trans (perform_raises ha ((returnFar_prot (b := begun s) hm os n).trans (retProt_of_fails (b := begun s) hp h)))

end

/-- A far RET and the number of bytes it releases, as the model runs it. -/
theorem exec_retFar_of_form {os : Sz} {n : Nat} {i : Instr}
    (h : (i = .retFar os ∧ n = 0) ∨ (∃ w : Word, i = .retFarImm os w ∧ n = w.toNat)) (s : State) :
    ∃ w : Word, n = w.toNat ∧ exec i s = returnFar s os w := by
  obtain ⟨rfl, rfl⟩ | ⟨w, rfl, rfl⟩ := h
  · exact ⟨0#16, rfl, rfl⟩
  · exact ⟨w, rfl, rfl⟩

/-- Settles O23: each transfer and each return makes its checks in the order of the listing, before anything changes. -/
theorem farTransfersProtected : Obligations.FarTransfersProtected := by
  unfold Obligations.FarTransfersProtected
  intro s ha hm hp
  refine ⟨fun call os off sel u i h => ⟨fun t stored => farForm_prot_completes ha hm hp h,
    fun e => farForm_prot_raises ha hm hp h⟩, fun os n i h => ?_⟩
  obtain ⟨w, rfl, hi⟩ := exec_retFar_of_form h s
  exact ⟨fun t stored => retFar_prot_completes hi ha hm hp, fun e => retFar_prot_raises hi ha hm hp⟩

end Sys2Proof.Machine
end

section
/-! PROOFS. LEA, XCHG and XLAT (44_l.md R322, 49_t_v_w_x.md R484 to R486). -/

namespace Sys2Proof.Machine

open Sys2Proof.Claims

/-- The effective address of an operand is its offset in the segment. -/
theorem effAddr_of_addressed {b v : State} {m : Mem} {seg : Sreg} {off : Dword} (h : Addressed b m seg off v) :
    effAddr m b = .ok (off, v) := by
  have h : resolve m b = .ok ((seg, off), v) := h
  simp only [resolve, M.bind_run, M.get_run, M.pure_run] at h
  rcases he : effAddr m b with e | ⟨a, t⟩
  · simp only [he] at h
    cases h
  · simp only [he] at h
    cases h
    rfl

theorem lea_completes {os : Sz} {r : Reg} {m : Mem} {s v : State} {seg : Sreg} {off : Dword} (ha : Accepts s false)
    (hm : Addressed (begun s) m seg off v) :
    Completes (.lea os r (.mem m)) s v (v.setReg os.width r (off.setWidth _)) [] := by
  refine completes_of_perform (m := effAddr m >>= fun ea => writeReg os.width r (ea.setWidth _)) rfl ha ?_
    (fun _ _ => rfl) (found_of_addressed hm)
  rw [bind_completes (effAddr_of_addressed hm), writeReg_run]

theorem xchgAccR_plain (os : Sz) (r : Reg) :
    Plain (.xchgAccR os r) (fun u => (u.setReg os.width .ax (u.reg os.width r)).setReg os.width r (u.reg os.width .ax)) :=
  plain_of_perform (fun _ => rfl)
    (m := do
      let t ← readReg os.width .ax
      let v ← readReg os.width r
      writeReg os.width .ax v
      writeReg os.width r t)
    (fun _ => rfl) fun _ _ => rfl

/-- XCHG reads both operands before it writes them. -/
theorem exchanges_of_exec {i : Instr} {w : Width} {rm : Rm} {r : Reg} (hi : ∀ s, exec i s = exchangeRm s w rm r) :
    Exchanges i w rm r := by
  intro s p u ha ho
  refine completes_of_perform (hi s) ha ?_ (fun a hn => byte_put_other _ hn) (found_of_opens ho)
  rw [bind_completes ho]
  simp only [M.bind_run, readPlace_run, readReg_run, writePlace_run, writeReg_run]

theorem memRead_ok {b u : State} {w : Width} {seg : Sreg} {off : Dword} {as : List Nat}
    (h : OpensMem b seg off w.bytes false as u) : memRead w seg off b = .ok (leValue _ (as.map u.byte), u) := by
  have h : openMem seg off w.bytes false b = .ok (as, u) := h
  simp only [memRead, memBytes, M.bind_run, h, readPhys_run, M.pure_run]

theorem xlat_completes {as' : Sz} {s u : State} {as : List Nat} (ha : Accepts s false)
    (ho : OpensMem (begun s) (s.dataSeg .ds)
      (truncSz as' ((s.reg as'.width .bx).setWidth 32 + (s.reg .b8 .ax).setWidth 32)) 1 false as u) :
    Completes (.xlat as') s u (u.setReg .b8 .ax (leValue 8 (as.map u.byte))) [] := by
  refine completes_of_perform (i := .xlat as') rfl ha ?_ (fun _ _ => rfl) (found_of_opensMem ho)
  rw [bind_passes (readRegSz_run ..), bind_passes (readReg_run ..), bind_passes (M.get_run _)]
  exact bind_completes (memRead_ok (w := .b8) ho)

/-- Settles O13: each form finds its memory operand, if it has one, and then only writes what it has read. -/
theorem addressAndExchange : Obligations.AddressAndExchange := by
  unfold Obligations.AddressAndExchange
  intro os as' r rm m
  exact ⟨fun s seg off v ha hm => lea_completes ha hm, xchgAccR_plain os r, exchanges_of_exec fun _ => rfl,
    exchanges_of_exec fun _ => rfl, fun s as u ha ho => xlat_completes ha ho⟩

end Sys2Proof.Machine
end

section
/-! PROOFS. LGDT, LIDT, LLDT and LTR (44_l.md R324, R325, R332, R346). -/

namespace Sys2Proof.Machine

open Sys2Proof.Claims

/-! ## The six bytes of LGDT and LIDT -/

theorem translateAll_length (lin : Dword) (wr user : Bool) (n : Nat) :
    Accesses (fun as => as.length = n) (translateAll lin wr user n) := by
  induction n generalizing lin with
  | zero => exact Accesses.pure' rfl
  | succ n ih =>
    exact Accesses.bind' (translate_accesses _ _ _) fun _ _ => Accesses.bind' (ih _) fun as has =>
      Accesses.pure' (congrArg (· + 1) has)

/-- The tail of an operand has as many addresses as it has bytes. -/
theorem openTail_length {s u : State} {r : Sreg} {off : Dword} {k n : Nat} {wr : Bool} {as : List Nat}
    (h : openTail r off k n wr s = .ok (as, u)) : as.length = n := by
  rcases checkAccess_accesses r off (k + n) wr s with hc | ⟨e, hc⟩
  · rw [openTail, bind_passes hc, bind_passes (M.get_run s)] at h
    exact ((translateAll_length _ _ _ n).ok h).2.2
  · rw [openTail, bind_raises hc] at h
    cases h

theorem readsParts_length {b u : State} {seg : Sreg} {off : Dword} {k n : Nat} {lo hi : List Byte}
    (h : ReadsParts b seg off k n lo hi u) : lo.length = k ∧ hi.length = n := by
  obtain ⟨as, v, as', hfirst, htail, rfl, rfl⟩ := h
  rw [List.length_map, List.length_map]
  exact ⟨openMem_length hfirst, openTail_length htail⟩

/-- The low 24 bits of a doubleword are its first three bytes. -/
theorem leValue_and_24 (bs : List Byte) (h : bs.length = 4) :
    leValue 32 bs &&& 0x00FFFFFF#32 = leValue 32 (bs.take 3) := by
  match bs, h with
  | [b0, b1, b2, b3], _ =>
    have h0 := b0.isLt; have h1 := b1.isLt; have h2 := b2.isLt; have h3 := b3.isLt
    apply BitVec.eq_of_toNat_eq
    have hmask : (0x00FFFFFF#32).toNat = 2 ^ 24 - 1 := rfl
    rw [BitVec.toNat_and, hmask, Nat.and_two_pow_sub_one_eq_mod]
    simp only [leValue, leNat, List.take_succ_cons, List.take_zero, BitVec.toNat_ofNat]
    omega

theorem readTable_run {os : Sz} {b v u : State} {m : Mem} {seg : Sreg} {off : Dword} {lo hi : List Byte} (h : Privileged b)
    (hm : Addressed b m seg off v) (hp : ReadsParts v seg off 2 4 lo hi u) :
    readTable os (.mem m) b = .ok (tableOf os (lo ++ hi), u) := by
  obtain ⟨hlo, hhi⟩ := readsParts_length hp
  have hmem : requireMem (.mem m) b = .ok (m, b) := rfl
  rw [readTable, bind_passes hmem, bind_passes (requireCpl0_ok h), bind_completes (readPair_ok hm hp), tableOf,
    List.take_left' hlo, List.drop_left' hlo, ← leValue_setWidth (by decide : 16 ≤ 32)]
  cases os with
  | s16 => simp only [if_true, ← leValue_and_24 hi hhi, M.pure_run]
  | s32 => simp only [reduceCtorEq, if_false, ← hhi, List.take_length, M.pure_run]

/-- LGDT and LIDT, which differ in the register that takes the table. -/
theorem tableLoad_completes {i : Instr} {os : Sz} {s v u : State} {m : Mem} {seg : Sreg} {off : Dword} {lo hi : List Byte}
    {load : TableReg → State → State}
    (hexec : exec i s = perform s false (readTable os (.mem m) >>= fun t => modify (load t))) (ha : Accepts s false)
    (h : Privileged s) (hm : Addressed (begun s) m seg off v) (hp : ReadsParts v seg off 2 4 lo hi u)
    (hb : ∀ t a, (load t u).byte a = u.byte a) : Completes i s u (load (tableOf os (lo ++ hi)) u) [] := by
  refine completes_of_perform hexec ha ?_ (fun a _ => hb _ a) (found_trans (found_of_addressed hm) (found_of_readsParts hp))
  rw [bind_completes (readTable_run (b := begun s) h hm hp), M.modify_run]

/-! ## LLDT and LTR -/

/-- The operation `load` of the model does to a selector what `loads` and `fails` say. -/
structure LoadsSelector (load : Word → M Unit) (loads : State → Word → State → List Nat → Prop)
    (fails : State → Word → Exc → Prop) : Prop where
  runs : ∀ {u sel t stored}, u.cr0.pg = false → loads u sel t stored → load sel u = .ok ((), t)
  keeps : ∀ {u sel t stored}, loads u sel t stored → ∀ a, a ∉ stored → t.byte a = u.byte a
  raises : ∀ {u sel e}, u.cr0.pg = false → fails u sel e → load sel u = .error (.exc e u false)

/-- Both forms test the mode and the privilege level, and read their selector, before anything else. -/
theorem loadsSystem_of_perform {i : Rm → Instr} {load : Word → M Unit} {loads : State → Word → State → List Nat → Prop}
    {fails : State → Word → Exc → Prop}
    (hi : ∀ rm s, exec (i rm) s = perform s false (requireProt >>= fun _ => requireCpl0 >>= fun _ => readRm .b16 rm >>= load))
    (hl : LoadsSelector load loads fails) : LoadsSystem i loads fails := by
  intro rm s p u ha hmode hcpl hp ho
  have hprot : (begun s).mode = .prot := hmode
  have hpriv : Privileged (begun s) := .inr ⟨vm_of_mode_prot hmode, hcpl⟩
  have hf := found_of_opens ho
  have hpu : u.cr0.pg = false := by rw [hf.off hp]; exact hp
  have hread : (requireProt >>= fun _ => requireCpl0 >>= fun _ => readRm .b16 rm >>= load) (begun s) =
      load (at' u .b16 p) u :=
    (bind_passes (requireProt_ok hprot)).trans <| (bind_passes (requireCpl0_ok hpriv)).trans (bind_completes (readRm_ok ho))
  exact ⟨fun t stored h => completes_of_perform (hi rm s) ha (hread.trans (hl.runs hpu h)) (hl.keeps h) hf,
    fun e h => takes_of_perform (hi rm s) ha (hread.trans (hl.raises hpu h)) hf⟩

theorem not_selNull_iff (sel : Word) : (!selNull sel) = true ↔ ¬ NullSel sel := by
  rw [Bool.not_eq_true', Bool.eq_false_iff]
  exact not_congr (selNull_iff sel)

/-- LLDT of a selector in the GDT: the checks of the listing, then the load of LDTR. -/
theorem loadLdt_eq {sel : Word} (h : ¬ NullSel sel) (hgdt : sel.getLsbD 2 = false) (u : State) :
    loadLdt sel u = (checkedDesc sel (excGP (selErr sel)) (excGP (selErr sel)) (excNP (selErr sel)) (fun d => d.isSys 2#4) >>=
      fun d => modify fun s => { s with ldtr := d.toSeg sel }) u := by
  have hti : (!selTI sel) = true := by rw [selTI, hgdt]; rfl
  refine (congrFun (if_neg (mt (selNull_iff sel).1 h)) u).trans <| (bind_passes (require_passes hti _ _)).trans ?_
  rw [checkedDesc_bind_of_not_null h]
  rfl

theorem loadLdt_loadsSelector : LoadsSelector loadLdt ldtLoads ldtFails where
  runs := by
    rintro u sel t stored hp ⟨-, ⟨hn, rfl⟩ | ⟨hn, ⟨hgdt, hin⟩, hs, htyp, hpr, rfl⟩⟩
    · exact congrFun (if_pos ((selNull_iff sel).2 hn)) u
    · exact (loadLdt_eq hn hgdt u).trans
        (bind_passes (checkedDesc_ok (ldtKind_iff hgdt) hp ⟨hn, hin, rfl, ⟨hgdt, hs, htyp⟩, hpr⟩))
  keeps := by
    rintro u sel t stored ⟨-, ⟨-, rfl⟩ | ⟨-, -, -, -, -, rfl⟩⟩ a -
    · rfl
    · rfl
  raises := by
    rintro u sel e hp ⟨hn, h⟩
    cases hgdt : sel.getLsbD 2 with
    | false =>
      refine (loadLdt_eq hn hgdt u).trans (bind_raises (checkedDesc_raises (ldtKind_iff hgdt) hp ?_))
      rcases h with ⟨hbad, rfl⟩ | ⟨⟨-, hin⟩, hs, htyp, hpr, rfl⟩
      · exact .inr (.inl ⟨hn, fun ⟨hin, _, hs, htyp⟩ => hbad ⟨⟨hgdt, hin⟩, hs, htyp⟩, rfl⟩)
      · exact .inr (.inr ⟨hn, hin, ⟨hgdt, hs, htyp⟩, hpr, rfl⟩)
    | true =>
      have hti : (!selTI sel) = false := by rw [selTI, hgdt]; rfl
      rcases h with ⟨-, rfl⟩ | ⟨⟨hno, -⟩, -⟩
      · exact (congrFun (if_neg (mt (selNull_iff sel).1 hn)) u).trans (bind_raises (require_fails hti _ _))
      · exact absurd (hgdt.symm.trans hno) (by decide)

/-- LTR of a selector that is not null: it names an available TSS, whose descriptor is then marked busy. -/
theorem loadTask_eq {sel : Word} (h : ¬ NullSel sel) (u : State) :
    loadTask sel u = (fetchTss sel excGP >>= fun d => setBusy sel true >>= fun _ =>
      modify fun s => { s with tr := { d.toSeg sel with typ := d.typ ||| 2#4 } }) u := by
  refine (bind_passes (require_passes ((not_selNull_iff sel).2 h) _ _)).trans ?_
  simp only [fetchTss, bind_assoc, pure_bind]

/-- The busy bit of a descriptor in the GDT is in its second doubleword. -/
theorem stores_busyField {u : State} {sel : Word} (hgdt : sel.getLsbD 2 = false) :
    stores (busyField u sel true) u =
      u.setBytes (span (descAddress u sel + 4#32) 4) (leBytes 4 ((descAt u sel).hi ||| 0x200#32)) := by
  have haddr : descAddress u sel = u.gdtr.base + BitVec.ofNat 32 (sel.toNat / 8 * 8) := by
    rw [descAddress, hgdt]
    rfl
  rw [descAt, haddr]
  rfl

theorem loadTask_loadsSelector : LoadsSelector loadTask trLoads trFails where
  runs := by
    rintro u sel t stored hp ⟨hn, hgdt, hk, hpr, rfl, rfl⟩
    rw [loadTask_eq hn, bind_passes (fetchTss_run hp ⟨hgdt, rfl, hk, hpr⟩), bind_completes (setBusy_run hp sel true),
      stores_busyField hgdt.1, M.modify_run]
  keeps := by
    rintro u sel t stored ⟨-, -, -, -, -, rfl⟩ a ha
    exact byte_setBytes_other ha
  raises := by
    rintro u sel e hp (⟨hn, rfl⟩ | ⟨hn, hfail⟩ | ⟨hn, hfail⟩)
    · have hnull : (!selNull sel) = false := by simpa using (selNull_iff sel).2 hn
      exact bind_raises (require_fails hnull _ _)
    · exact (loadTask_eq hn u).trans (bind_raises (fetchTss_raises hp (.inl hfail)))
    · exact (loadTask_eq hn u).trans (bind_raises (fetchTss_raises hp (.inr hfail)))

/-- Settles O33: LGDT and LIDT read six bytes into their register; LLDT and LTR check their descriptor before they load it. -/
theorem tableLoads : Obligations.TableLoads := by
  unfold Obligations.TableLoads
  refine ⟨fun os m s seg a v lo hi u ha h hm hp => ⟨?_, ?_⟩, ?_, ?_⟩
  · exact tableLoad_completes (load := fun t u => { u with gdtr := t }) rfl ha h hm hp fun _ _ => rfl
  · exact tableLoad_completes (load := fun t u => { u with idtr := t }) rfl ha h hm hp fun _ _ => rfl
  · exact loadsSystem_of_perform (fun _ _ => rfl) loadLdt_loadsSelector
  · exact loadsSystem_of_perform (fun _ _ => rfl) loadTask_loadsSelector

end Sys2Proof.Machine
end

section
/-! PROOFS. LAR, LSL, VERR, VERW and ARPL in protected mode, paging off (44_l.md R321, R345, 49_t_v_w_x.md R481, R482, 40_a_b.md
R207). -/

namespace Sys2Proof.Machine

open Sys2Proof.Claims

/-! ## Inspecting a selector -/

theorem visible_iff (s : State) (sel : Word) (d : Desc) : visible s sel d = true ↔ Visible s sel d := by
  simp [visible, Visible, selRpl_eq]

theorem setZero_run (z : Bool) (u : State) : setZero z u = .ok ((), zeroFlag u z) := rfl

theorem lookup_some {u : State} {sel : Word} (hp : u.cr0.pg = false) (hn : ¬ NullSel sel) (ht : InTable u sel) :
    lookup sel u = .ok (some (descAt u sel), u) := by
  have hfound : (!selNull sel) = true ∧ u.selInTable sel = true := ⟨(not_selNull_iff sel).2 hn, (selInTable_iff u sel).2 ht⟩
  rw [lookup, bind_passes (M.get_run u), M.ite_run, if_pos hfound, bind_passes (readDesc_run hp sel), M.pure_run]

theorem lookup_none {u : State} {sel : Word} (h : ¬ (¬ NullSel sel ∧ InTable u sel)) : lookup sel u = .ok (none, u) := by
  have hmiss : ¬ ((!selNull sel) = true ∧ u.selInTable sel = true) := by rwa [not_selNull_iff, selInTable_iff]
  rw [lookup, bind_passes (M.get_run u), M.ite_run, if_neg hmiss, M.pure_run]

/-- What the four forms do with their selector: `accepted` for a visible descriptor of a kind they accept, else ZF is 0. -/
def inspected (valid : Desc → Bool) (accepted : Desc → M Unit) (sel : Word) : M Unit := do
  let s ← get
  match ← lookup sel with
  | none => setZero false
  | some d => if valid d && visible s sel d then accepted d else setZero false

section
variable {valid : Desc → Bool} {kind : Desc → Prop} {accepted : Desc → M Unit} {u : State} {sel : Word}

theorem inspected_accepts (hk : ∀ d, valid d = true ↔ kind d) (hp : u.cr0.pg = false) (h : Inspects kind u sel) :
    inspected valid accepted sel u = accepted (descAt u sel) u := by
  obtain ⟨hn, ht, hd, hv⟩ := h
  have hpass : (valid (descAt u sel) && visible u sel (descAt u sel)) = true := by
    rw [(hk _).2 hd, (visible_iff u sel _).2 hv]
    rfl
  rw [inspected, bind_passes (M.get_run u), bind_passes (lookup_some hp hn ht)]
  exact congrFun (if_pos hpass) u

theorem inspected_rejects (hk : ∀ d, valid d = true ↔ kind d) (hp : u.cr0.pg = false) (h : ¬ Inspects kind u sel) :
    inspected valid accepted sel u = .ok ((), zeroFlag u false) := by
  rw [inspected, bind_passes (M.get_run u)]
  by_cases hfound : ¬ NullSel sel ∧ InTable u sel
  · obtain ⟨hn, ht⟩ := hfound
    have hfail : ¬ (valid (descAt u sel) && visible u sel (descAt u sel)) = true := by
      rw [Bool.and_eq_true, hk, visible_iff]
      exact fun ⟨hd, hv⟩ => h ⟨hn, ht, hd, hv⟩
    rw [bind_passes (lookup_some hp hn ht)]
    exact (congrFun (if_neg hfail) u).trans (setZero_run false u)
  · rw [bind_passes (lookup_none hfound)]
    exact setZero_run false u

end

/-- A form that reads a selector and inspects it. -/
theorem inspectForm_of_perform {i : Instr} {w : Width} {rm : Rm} {valid : Desc → Bool} {kind : Desc → Prop}
    {accepted : Desc → M Unit} {effect : Desc → State → State}
    (hi : ∀ s, exec i s =
      perform s false (requireProt >>= fun _ => readRm w rm >>= fun v => inspected valid accepted (v.setWidth 16)))
    (hk : ∀ d, valid d = true ↔ kind d) (he : ∀ d u, accepted d u = .ok ((), effect d u))
    (hb : ∀ d u a, (effect d u).byte a = u.byte a) : InspectForm i w rm kind effect := by
  intro s p u ha hmode hp ho
  have hprot : (begun s).mode = .prot := hmode
  have hf := found_of_opens ho
  have hpu : u.cr0.pg = false := by rw [hf.off hp]; exact hp
  have hread : (requireProt >>= fun _ => readRm w rm >>= fun v => inspected valid accepted (v.setWidth 16)) (begun s) =
      inspected valid accepted ((at' u w p).setWidth 16) u :=
    (bind_passes (requireProt_ok hprot)).trans (bind_completes (readRm_ok ho))
  refine ⟨fun h => ?_, fun h => ?_⟩
  · exact completes_of_perform (hi s) ha (hread.trans ((inspected_accepts hk hpu h).trans (he _ u))) (fun a _ => hb _ u a) hf
  · exact completes_of_perform (hi s) ha (hread.trans (inspected_rejects hk hpu h)) (fun _ _ => rfl) hf

/-! ## LAR, LSL, VERR and VERW -/

/-- LAR and LSL put a value of the descriptor into their register. -/
theorem inspect_eq (s : State) (os : Sz) (r : Reg) (rm : Rm) (valid : Desc → Bool) (value : Desc → M Dword) :
    inspect s os r rm valid value = perform s false (requireProt >>= fun _ => readRm os.width rm >>= fun v =>
      inspected valid (fun d => value d >>= fun x => writeRegSz os r x >>= fun _ => setZero true) (v.setWidth 16)) := by
  simp only [inspect, readSelector, bind_assoc, pure_bind]
  rfl

/-- VERR and VERW do nothing more with a selector they accept. -/
theorem verify_eq (s : State) (rm : Rm) (valid : Desc → Bool) :
    verify s rm valid = perform s false (requireProt >>= fun _ => readRm .b16 rm >>= fun v =>
      inspected valid (fun _ => setZero true) (v.setWidth 16)) := by
  have hset (z : Bool) : setZero z = if z then setZero true else setZero false := by cases z <;> rfl
  simp only [verify, inspected, BitVec.setWidth_eq]
  refine congrArg (perform s false) (congrArg (requireProt >>= ·) (funext fun _ =>
    congrArg (readRm .b16 rm >>= ·) (funext fun v => ?_)))
  refine congrArg ((get : M State) >>= ·) (funext fun b => congrArg (lookup v >>= ·) (funext fun o => ?_))
  cases o with
  | none => rfl
  | some d => exact hset _

theorem larValid_iff (d : Desc) :
    larValid d = true ↔ d.s = true ∨ ¬ (d.typ = 0#4 ∨ d.typ = 8#4 ∨ d.typ = 10#4 ∨ d.typ = 13#4) := by
  simp [larValid, and_assoc]

theorem lslValid_iff (d : Desc) :
    lslValid d = true ↔ d.s = true ∨ d.typ = 1#4 ∨ d.typ = 2#4 ∨ d.typ = 3#4 ∨ d.typ = 9#4 ∨ d.typ = 11#4 := by
  simp [lslValid, or_assoc]

/-! ## ARPL -/

/-- A segment that may be written may be read. -/
theorem accessExc_read_of_write {s : State} {r : Sreg} {off : Dword} {n : Nat} (hm : s.mode = .prot)
    (h : s.accessExc r off n true = none) : s.accessExc r off n false = none := by
  have hread : (s.seg r).writable = true → (s.seg r).readable = true := by
    simp only [SegReg.writable, SegReg.readable, Bool.and_eq_true, Bool.or_eq_true]
    exact fun ⟨⟨hs, hdata⟩, _⟩ => ⟨hs, .inl hdata⟩
  rw [accessExc_prot hm] at h ⊢
  by_cases hw : (s.seg r).writable = true
  · simp only [hw, hread hw, if_true, ite_self] at h ⊢
    exact h
  · rw [if_pos rfl, if_neg hw] at h
    split at h
    · cases h
    · cases h

/-- An operand that may be written may be read, at the same place. -/
theorem opens_read_of_write {b u : State} {w : Width} {rm : Rm} {p : Place} (hm : b.mode = .prot) (hp : b.cr0.pg = false)
    (h : Opens b w rm true p u) : Opens b w rm false p u := by
  cases rm with
  | reg r => exact h
  | mem m =>
    have h : (resolve m >>= fun x => openMem x.1 x.2 w.bytes true >>= fun as => pure (.mem as)) b = .ok (p, u) := h
    rcases hr : resolve m b with e | ⟨⟨seg, off⟩, v⟩
    · rw [bind_error hr] at h
      cases h
    · have hv := resolve_ok_off hr
      have hpv : v.cr0.pg = false := by rw [hv]; exact hp
      have hmv : v.mode = .prot := by rw [hv]; exact hm
      rw [bind_completes hr] at h
      cases hc : v.accessExc seg off w.bytes true with
      | some e =>
        rw [bind_raises (openMem_exc hc)] at h
        cases h
      | none =>
        rw [bind_passes (openMem_off hpv hc), M.pure_run] at h
        cases h
        exact openRm_mem_ok hr (openMem_off hpv (accessExc_read_of_write hmv hc))

/-- ARPL with the checks of a write made first. -/
def raiseRpl (rm : Rm) (src : Word) : M Unit := do
  let p ← openRm .b16 rm true
  let d ← readPlace .b16 p
  if decide (selRpl d < selRpl src) then writePlace .b16 p (withRpl d (selRpl src))
  setZero (decide (selRpl d < selRpl src))

section
variable {b u : State} {rm : Rm} {p : Place}

theorem raiseRpl_lower {src : Word} (ho : Opens b .b16 rm true p u) (h : rplOf (at' u .b16 p) < rplOf src) :
    raiseRpl rm src b =
      .ok ((), zeroFlag (put u .b16 p (((at' u .b16 p : Word).extractLsb' 2 14) ++ rplOf src)) true) := by
  rw [raiseRpl, bind_completes ho, bind_passes (readPlace_run .b16 p u), selRpl_eq, selRpl_eq, decide_eq_true h,
    if_pos rfl, bind_completes (writePlace_run ..)]
  rfl

theorem raiseRpl_not_lower {src : Word} (ho : Opens b .b16 rm true p u) (h : ¬ rplOf (at' u .b16 p) < rplOf src) :
    raiseRpl rm src b = .ok ((), zeroFlag u false) := by
  rw [raiseRpl, bind_completes ho, bind_passes (readPlace_run .b16 p u), selRpl_eq, selRpl_eq, decide_eq_false h]
  rfl

/-- Where the operand may be written, it makes no difference which checks come first (log entry 25). -/
theorem adjustRpl_eq (hm : b.mode = .prot) (hp : b.cr0.pg = false) (ho : Opens b .b16 rm true p u) (src : Word) :
    adjustRpl rm src b = raiseRpl rm src b := by
  have hread := readRm_ok (opens_read_of_write hm hp ho)
  by_cases hc : isMem rm = true ∧ Config.arplChecksWrite = false
  · simp only [adjustRpl, if_pos hc, hread]
    by_cases hl : rplOf (at' u .b16 p) < rplOf src
    · rw [selRpl_eq, selRpl_eq, decide_eq_true hl]
      rfl
    · rw [raiseRpl_not_lower ho hl, selRpl_eq, selRpl_eq, decide_eq_false hl]
      rfl
  · simp only [adjustRpl, if_neg hc]
    rfl

end

theorem arpl_of_raiseRpl {rm : Rm} {r : Reg} {s u t : State} {p : Place} {stored : List Nat} (ha : Accepts s false)
    (hm : s.mode = .prot) (hp : s.cr0.pg = false) (ho : Opens (begun s) .b16 rm true p u)
    (h : raiseRpl rm (s.reg .b16 r) (begun s) = .ok ((), t)) (hb : ∀ a, a ∉ stored → t.byte a = u.byte a) :
    Completes (.arplRmR rm r) s u t stored := by
  refine completes_of_perform (m := requireProt >>= fun _ => readReg .b16 r >>= adjustRpl rm) rfl ha ?_ hb (found_of_opens ho)
  rw [bind_passes (requireProt_ok (s := begun s) hm), bind_passes (readReg_run .b16 r (begun s)),
    adjustRpl_eq (b := begun s) hm hp ho]
  exact h

/-- Settles O34: the four inspecting forms share one test of their selector, and ARPL compares the two RPLs once. -/
theorem selectorInspection : Obligations.SelectorInspection := by
  unfold Obligations.SelectorInspection
  intro os r rm
  refine ⟨?_, ?_, ?_, ?_, fun s p u ha hm hp ho => ⟨fun h => ?_, fun h => ?_⟩⟩
  · exact inspectForm_of_perform (fun s => inspect_eq s os r rm larValid accessRights) larValid_iff (fun _ _ => rfl)
      fun _ _ _ => rfl
  · exact inspectForm_of_perform (fun s => inspect_eq s os r rm lslValid fun d => pure d.limit) lslValid_iff (fun _ _ => rfl)
      fun _ _ _ => rfl
  · exact inspectForm_of_perform (fun s => verify_eq s rm Desc.readable) (fun _ => Iff.rfl) (fun _ _ => rfl) fun _ _ _ => rfl
  · exact inspectForm_of_perform (fun s => verify_eq s rm Desc.writable) (fun _ => Iff.rfl) (fun _ _ => rfl) fun _ _ _ => rfl
  · exact arpl_of_raiseRpl ha hm hp ho (raiseRpl_lower ho h) fun a hn => byte_put_other _ hn
  · exact arpl_of_raiseRpl ha hm hp ho (raiseRpl_not_lower ho h) fun _ _ => rfl

end Sys2Proof.Machine
end

section
/-! PROOFS. MOV in its general forms, MOVSX, MOVZX and NOP (45_m_n_o.md R360, R363 to R365, R370, R371, R374). -/

namespace Sys2Proof.Machine

open Sys2Proof.Claims

/-! ## An r/m destination -/

/-- A form whose operation comes to one store in its r/m operand. -/
theorem storesRm_of_writeRm {i : Instr} {w : Width} {rm : Rm} {v : State → BitVec w.bits} {m : M Unit}
    (hi : ∀ s, exec i s = perform s false m) (hm : ∀ s, m (begun s) = writeRm w rm (v s) (begun s)) : StoresRm i w rm v := by
  intro s p u ha ho
  refine completes_of_perform (hi s) ha ?_ (fun a hn => byte_put_other _ hn) (found_of_opens ho)
  rw [hm, writeRm_ok ho]

/-! ## A direct offset -/

theorem openMoffs_ok {b u : State} {w : Width} {o : Imm} {wr : Bool} {as : List Nat}
    (h : OpensMem b (b.dataSeg .ds) (immValue o) w.bytes wr as u) : openMoffs w o wr b = .ok (.mem as, u) := by
  rw [openMoffs, bind_passes (M.get_run b), bind_completes h, M.pure_run]

section
variable {i : Instr} {s u : State} {w : Width} {o : Imm} {as : List Nat} (ha : Accepts s false)
include ha

theorem loadMoffs_completes (hi : exec i s = loadMoffs s w o)
    (ho : OpensMem (begun s) (s.dataSeg .ds) (immValue o) w.bytes false as u) :
    Completes i s u (u.setReg w .ax (leValue _ (as.map u.byte))) [] := by
  refine completes_of_perform hi ha ?_ (fun _ _ => rfl) (found_of_opensMem ho)
  rw [bind_completes (openMoffs_ok (b := begun s) ho), bind_passes (readPlace_mem w as u), writeReg_run]

theorem storeMoffs_completes (hi : exec i s = storeMoffs s w o)
    (ho : OpensMem (begun s) (s.dataSeg .ds) (immValue o) w.bytes true as u) :
    Completes i s u (u.setBytes as (leBytes w.bytes (s.reg w .ax))) as := by
  refine completes_of_perform hi ha ?_ (fun _ hn => byte_setBytes_other hn) (found_of_opensMem ho)
  rw [bind_passes (readReg_run w .ax (begun s)), bind_completes (openMoffs_ok (b := begun s) ho)]
  rfl

end

/-! ## Extension -/

/-- The zero-extended source is the same unsigned number. -/
theorem movzx_readsRm {i : Instr} {src dst : Width} {r : Reg} {rm : Rm}
    (hi : ∀ s, exec i s = moveExtend s src dst false r rm) :
    ReadsRm i src rm (fun _ _ => True) (fun a u => u.setReg dst r (BitVec.ofNat _ a.toNat)) := by
  refine readsRm_of_accRm (f := fun v => writeReg dst r (v.setWidth _)) hi (fun _ => ?_) fun _ _ _ => rfl
  rw [writeReg_run, BitVec.ofNat_toNat]

/-- The sign-extended source is the same signed number, as `signExtend` is defined. -/
theorem movsx_readsRm {i : Instr} {src dst : Width} {r : Reg} {rm : Rm}
    (hi : ∀ s, exec i s = moveExtend s src dst true r rm) :
    ReadsRm i src rm (fun _ _ => True) (fun a u => u.setReg dst r (BitVec.ofInt _ a.toInt)) :=
  readsRm_of_accRm (f := fun v => writeReg dst r (v.signExtend _)) hi (fun _ => rfl) fun _ _ _ => rfl

theorem moveToReg_readsRm {i : Instr} {w : Width} {r : Reg} {rm : Rm} (hi : ∀ s, exec i s = moveToReg s w r rm) :
    ReadsRm i w rm (fun _ _ => True) (fun a u => u.setReg w r a) :=
  readsRm_of_accRm (f := writeReg w r) hi (fun _ => rfl) fun _ _ _ => rfl

/-- Settles O12: every form finds its memory operand, if it has one, and makes one write of what it has read. -/
theorem moves : Obligations.Moves := by
  unfold Obligations.Moves
  intro os rm r b v o
  refine ⟨?_, ?_, ?_, ?_, ?_, ?_, ?_, ?_, fun s as u ha ho => ?_, fun s as u ha ho => ?_, fun s as u ha ho => ?_,
    fun s as u ha ho => ?_, ?_, ?_, ?_, ?_⟩
  · exact storesRm_of_writeRm (m := readReg .b8 r >>= writeRm .b8 rm) (fun _ => rfl) fun _ => rfl
  · exact storesRm_of_writeRm (m := readReg os.width r >>= writeRm os.width rm) (fun _ => rfl) fun _ => rfl
  · exact storesRm_of_writeRm (m := pure b >>= writeRm .b8 rm) (fun _ => rfl) fun _ => rfl
  · exact storesRm_of_writeRm (m := pure (immAt _ v) >>= writeRm (immSize v).width rm) (fun _ => rfl) fun _ => rfl
  · exact moveToReg_readsRm fun _ => rfl
  · exact moveToReg_readsRm fun _ => rfl
  · exact plain_of_perform (fun _ => rfl) (writeReg_run .b8 r b) fun _ _ => rfl
  · exact plain_of_perform (fun _ => rfl) (writeReg_run _ r (immAt (immSize v).width v)) fun _ _ => rfl
  · exact loadMoffs_completes (w := .b8) ha rfl ho
  · rw [← width_bytes_eq] at ho
    exact loadMoffs_completes ha rfl ho
  · exact storeMoffs_completes (w := .b8) ha rfl ho
  · rw [← width_bytes_eq] at ho ⊢
    exact storeMoffs_completes ha rfl ho
  · exact movsx_readsRm fun _ => rfl
  · exact movsx_readsRm fun _ => rfl
  · exact movzx_readsRm fun _ => rfl
  · exact movzx_readsRm fun _ => rfl

/-- Settles O40: the opcode byte is the whole encoding, and the operation does nothing. -/
theorem noOperation : Obligations.NoOperation := by
  unfold Obligations.NoOperation
  exact ⟨fun os as rest => roundTrip os as .nop rest rfl, plain_of_perform (fun _ => rfl) (M.pure_run ()) fun _ _ => rfl⟩

end Sys2Proof.Machine
end

section
/-! PROOFS. MUL and IMUL (45_m_n_o.md R372, 42_i.md R271, 10_state.md R39). -/

namespace Sys2Proof.Machine

open Sys2Proof.Claims

theorem mulFlags_run (high : Bool) (u : State) : mulFlags high u = .ok ((), mulState u high) := rfl

/-- The upper half of an unsigned product is 0 exactly when the product fits the lower half. -/
theorem product_high_ne_zero {n : Nat} (a b : BitVec n) :
    (BitVec.ofNat n (a.toNat * b.toNat / 2 ^ n) != 0#n) = decide (2 ^ n ≤ a.toNat * b.toNat) := by
  have hprod : a.toNat * b.toNat < 2 ^ n * 2 ^ n := Nat.mul_lt_mul'' a.isLt b.isLt
  have hhigh : a.toNat * b.toNat / 2 ^ n < 2 ^ n := Nat.div_lt_of_lt_mul hprod
  rw [Bool.eq_iff_iff, bne_iff_ne, decide_eq_true_eq, ne_eq, ← BitVec.toNat_inj, BitVec.toNat_ofNat,
    Nat.mod_eq_of_lt hhigh, BitVec.toNat_zero, Nat.div_eq_zero_iff_lt (Nat.two_pow_pos n), not_lt]

theorem mulUnsigned_run (w : Width) (b : BitVec w.bits) (u : State) :
    mulUnsigned w b u = .ok ((), mulEffect w b u) := by
  rw [mulUnsigned, bind_passes (readReg_run w .ax u), bind_completes (writePair_run ..), mulFlags_run,
    product_high_ne_zero, mulEffect]

/-- The test `!=` on integers, as the decision of its proposition. -/
theorem bne_eq_decide_ne (p q : Int) : (p != q) = decide (p ≠ q) := by
  rw [Bool.eq_iff_iff, bne_iff_ne, decide_eq_true_eq]

theorem mulSigned_run (w : Width) (b : BitVec w.bits) (u : State) : mulSigned w b u = .ok ((), imulEffect w b u) := by
  rw [mulSigned, bind_passes (readReg_run w .ax u), bind_completes (writePair_run ..), mulFlags_run, bne_eq_decide_ne,
    imulEffect, signedHi]

theorem mulSignedTo_run (w : Width) (r : Reg) (a b : BitVec w.bits) (u : State) :
    mulSignedTo w r a b u = .ok ((), imulToEffect w r a b u) := by
  rw [mulSignedTo, bind_completes (writeReg_run ..), mulFlags_run, bne_eq_decide_ne, imulToEffect]

theorem byte_mulEffect (w : Width) (b : BitVec w.bits) (u : State) (a : Nat) : (mulEffect w b u).byte a = u.byte a :=
  putPair_byte u w _ _ a

theorem byte_imulEffect (w : Width) (b : BitVec w.bits) (u : State) (a : Nat) : (imulEffect w b u).byte a = u.byte a :=
  putPair_byte u w _ _ a

/-- The two-operand form reads its destination register before its other operand. -/
theorem imulRRm_readsRm (os : Sz) (r : Reg) (rm : Rm) :
    ReadsRm (.imulRRm os r rm) os.width rm (fun _ _ => True) (fun a u => imulToEffect os.width r (u.reg os.width r) a u) := by
  intro s p u ha ho _
  refine completes_of_perform (m := readReg os.width r >>= fun a => readRm os.width rm >>= mulSignedTo os.width r a) rfl ha ?_
    (fun _ _ => rfl) (found_of_opens ho)
  rw [bind_passes (readReg_run ..), bind_completes (readRm_ok ho), mulSignedTo_run, ← reg_of_found (found_of_opens ho)]

/-- The forms with an immediate factor. -/
theorem imulTo_readsRm {i : Instr} {w : Width} {r : Reg} {rm : Rm} {b : BitVec w.bits} (hi : ∀ s, exec i s = imulTo s w r rm b) :
    ReadsRm i w rm (fun _ _ => True) (fun a => imulToEffect w r a b) :=
  readsRm_of_accRm (f := fun a => mulSignedTo w r a b) hi (fun _ => mulSignedTo_run ..) fun _ _ _ => rfl

/-- Settles O5: every form reads its operands, and one multiplication writes the product and its flags. -/
theorem multiplication : Obligations.Multiplication := by
  unfold Obligations.Multiplication
  intro os rm r b v
  refine ⟨?_, ?_, ?_, ?_, imulRRm_readsRm os r rm, imulTo_readsRm fun _ => rfl, imulTo_readsRm fun _ => rfl⟩
  · exact readsRm_of_accRm (fun _ => rfl) (fun _ => mulUnsigned_run ..) (byte_mulEffect _)
  · exact readsRm_of_accRm (fun _ => rfl) (fun _ => mulUnsigned_run ..) (byte_mulEffect _)
  · exact readsRm_of_accRm (fun _ => rfl) (fun _ => mulSigned_run ..) (byte_imulEffect _)
  · exact readsRm_of_accRm (fun _ => rfl) (fun _ => mulSigned_run ..) (byte_imulEffect _)

end Sys2Proof.Machine
end

section
/-! PROOFS. MOV to and from control, debug and test registers (45_m_n_o.md R366 to R368, 10_state.md R46 to R49, 60_exceptions.md
R546). -/

namespace Sys2Proof.Machine

open Sys2Proof.Claims

/-! ## The registers as words -/

/-- One more bit below a number. -/
theorem shiftLeft_one_or_toNat (x : Nat) (b : Bool) : x <<< 1 ||| b.toNat = 2 * x + b.toNat := by
  rw [← Nat.shiftLeft_add_eq_or_of_lt (Bool.toNat_lt b), Nat.shiftLeft_eq, Nat.mul_comm]

/-- CR0 as a word is the sum of its fields at their places (10_state.md R46). -/
theorem cr0Word_eq_image (c : Cr0) : cr0Word c = cr0Image c := by
  have hupper : c.pg.toNat <<< 26 ||| c.res.toNat = 2 ^ 26 * c.pg.toNat + c.res.toNat := by
    rw [← Nat.shiftLeft_add_eq_or_of_lt c.res.isLt, Nat.shiftLeft_eq, Nat.mul_comm]
  have hword : (cr0Word c).toNat = c.pe.toNat + 2 * c.mp.toNat + 4 * c.em.toNat + 8 * c.ts.toNat + 16 * c.et.toNat
      + 32 * c.res.toNat + 2 ^ 31 * c.pg.toNat := by
    simp only [cr0Word, BitVec.toNat_append, BitVec.toNat_ofBool, shiftLeft_one_or_toNat, hupper]
    ring
  rw [cr0Image, ← hword, BitVec.ofNat_toNat, BitVec.setWidth_eq]

theorem readDReg_eq (s : State) (d : DReg) : readDReg s d = debugReg s d := by cases d <;> rfl

/-- The bits of DR7 that enable a breakpoint or the general detect. -/
theorem getLsbD_enableMask : ∀ i < 32, (0x000020FF#32).getLsbD i = true ↔ i = 13 ∨ i < 8 := by decide

theorem breakpointsOn_iff (v : Dword) : breakpointsOn v = true ↔ Enables v := by
  have hbits : v &&& 0x000020FF#32 = 0#32 ↔ ∀ i < 32, (i = 13 ∨ i < 8) → v.getLsbD i = false := by
    rw [BitVec.eq_of_getLsbD_eq_iff]
    refine forall_congr' fun i => imp_congr_right fun hi => ?_
    rw [BitVec.getLsbD_and, BitVec.getLsbD_zero, ← getLsbD_enableMask i hi]
    cases v.getLsbD i <;> simp
  rw [breakpointsOn, bne_iff_ne, ne_eq, hbits, Enables]
  constructor
  · intro h
    push Not at h
    obtain ⟨i, -, rfl | hlow, hv⟩ := h
    · exact .inl (Bool.not_eq_false _ ▸ hv)
    · exact .inr ⟨i, hlow, Bool.not_eq_false _ ▸ hv⟩
  · rintro (h | ⟨i, hi, h⟩) hall
    · exact Bool.false_ne_true ((hall 13 (by omega) (.inl rfl)).symm.trans h)
    · exact Bool.false_ne_true ((hall i (by omega) (.inr hi)).symm.trans h)

/-! ## The forms -/

theorem undefStatus_all_run (u : State) : undefStatus UndefMask.all u = .ok ((), statusFree u) := rfl

/-- A move from a special register, whose value the statement names `value`. -/
theorem fromSpecial_of_exec {i : Instr} {r : Reg} {read value : State → Dword} (hi : ∀ s, exec i s = moveFromSpecial s r read)
    (hv : ∀ s, read s = value s) : FromSpecial i r value :=
  guarded_of_requireCpl0 hi
    (fun u => (bind_passes (M.get_run u)).trans <| (bind_completes (writeReg_run ..)).trans <| by
      rw [hv, undefStatus_all_run])
    fun _ _ => rfl

section
variable {i : Instr} {s : State} {r : Reg} {write : Dword → M Unit}

theorem moveToSpecial_completes {t : State} (hi : exec i s = moveToSpecial s r write) (ha : Accepts s false)
    (hp : Privileged s) (hw : write (s.reg .b32 r) (begun s) = .ok ((), t)) (hb : ∀ a, t.byte a = (begun s).byte a) :
    Completes i s (begun s) (statusFree t) [] := by
  refine completes_of_perform hi ha ?_ (fun a _ => hb a) (found_refl _)
  rw [bind_passes (requireCpl0_ok (s := begun s) hp), bind_passes (readReg_run ..), begun_reg, bind_completes hw,
    undefStatus_all_run]

theorem moveToSpecial_refused {x : Refusal} (hi : exec i s = moveToSpecial s r write) (ha : Accepts s false)
    (hp : Privileged s) (hw : write (s.reg .b32 r) (begun s) = .error (.refuse x)) : exec i s = .refused x := by
  refine hi.trans (perform_refuse ha.1 ha.2 ?_)
  rw [bind_passes (requireCpl0_ok (s := begun s) hp), bind_passes (readReg_run ..), begun_reg, bind_error hw]

theorem moveToSpecial_raises (hi : exec i s = moveToSpecial s r write) (ha : Accepts s false) (hp : ¬ Privileged s) :
    exec i s = takeFault (excGP 0#16) s :=
  hi.trans (perform_raises ha (bind_raises (requireCpl0_raises (s := begun s) hp)))

/-- A move to a special register that is never refused. -/
theorem toSpecial_of_exec {effect : Dword → State → State} (hi : ∀ s, exec i s = moveToSpecial s r write)
    (hw : ∀ v u, write v u = .ok ((), effect v u)) (hb : ∀ v u a, (effect v u).byte a = u.byte a) :
    ToSpecial i r effect :=
  fun s ha => ⟨fun hp => moveToSpecial_completes (hi s) ha hp (hw _ _) (hb _ _), moveToSpecial_raises (hi s) ha⟩

end

/-! ## CR0 and DR7 -/

theorem writeCr0_run {v : Dword} (h : v.getLsbD 31 = false ∨ v.getLsbD 0 = true) (u : State) :
    writeCr0 v u = .ok ((), cr0Written v u) := by
  have hpass : ¬ ((cr0OfWord v).pg && !(cr0OfWord v).pe) = true := by
    simp only [cr0OfWord, Bool.and_eq_true, Bool.not_eq_true', not_and, Bool.not_eq_false]
    exact fun hpg => h.resolve_left (by rw [hpg]; decide)
  rw [writeCr0]
  exact (congrFun (if_neg hpass) u).trans <| (bind_completes (draw_run 26 u)).trans (setCr0_run _ _)

theorem writeCr0_refuses {v : Dword} (hpg : v.getLsbD 31 = true) (hpe : v.getLsbD 0 = false) (u : State) :
    writeCr0 v u = .error (.refuse .pagingWithoutProtection) := by
  have hfail : ((cr0OfWord v).pg && !(cr0OfWord v).pe) = true := by simp only [cr0OfWord, hpg, hpe]; rfl
  rw [writeCr0]
  exact (congrFun (if_pos hfail) u).trans (bind_error (refuse_run ..))

theorem writeDReg_run {d : DReg} {v : Dword} (h : ¬ (d = .dr7 ∧ Enables v)) (u : State) :
    writeDReg d v u = .ok ((), debugSet d v u) := by
  cases d with
  | dr7 => exact congrFun (if_neg fun hon => h ⟨rfl, (breakpointsOn_iff v).1 hon⟩) u
  | dr0 | dr1 | dr2 | dr3 | dr6 => rfl

theorem writeDReg_refuses {v : Dword} (h : Enables v) (u : State) :
    writeDReg .dr7 v u = .error (.refuse .breakpointEnable) :=
  (congrFun (if_pos ((breakpointsOn_iff v).2 h)) u).trans (bind_error (refuse_run ..))

theorem byte_debugSet (d : DReg) (v : Dword) (u : State) (a : Nat) : (debugSet d v u).byte a = u.byte a := by
  cases d <;> rfl

/-- Settles O37: every form tests the privilege level and makes one read or write, which CR0 and DR7 may refuse. -/
theorem specialRegisterMoves : Obligations.SpecialRegisterMoves := by
  unfold Obligations.SpecialRegisterMoves
  intro r d
  refine ⟨?_, ?_, ?_, ?_, ?_, ?_, fun s ha => ⟨fun hp h => ?_, fun hp hpg hpe => ?_, fun hp h => ?_, ?_, fun hp => ?_⟩,
    ?_, ?_, ?_, ?_⟩
  · exact fromSpecial_of_exec (fun _ => rfl) fun s => cr0Word_eq_image s.cr0
  · exact fromSpecial_of_exec (fun _ => rfl) fun _ => rfl
  · exact fromSpecial_of_exec (fun _ => rfl) fun _ => rfl
  · exact fromSpecial_of_exec (fun _ => rfl) fun s => readDReg_eq s d
  · exact fromSpecial_of_exec (fun _ => rfl) fun _ => rfl
  · exact fromSpecial_of_exec (fun _ => rfl) fun _ => rfl
  · exact moveToSpecial_completes rfl ha hp (writeCr0_run h _) fun _ => rfl
  · exact moveToSpecial_refused rfl ha hp (writeCr0_refuses hpg hpe _)
  · exact moveToSpecial_completes rfl ha hp (writeDReg_run h _) (byte_debugSet d _ _)
  · rintro hp rfl h
    exact moveToSpecial_refused rfl ha hp (writeDReg_refuses h _)
  · exact ⟨moveToSpecial_raises rfl ha hp, moveToSpecial_raises rfl ha hp⟩
  · exact toSpecial_of_exec (fun _ => rfl) (fun _ _ => rfl) fun _ _ _ => rfl
  · exact toSpecial_of_exec (fun _ => rfl) (fun _ _ => rfl) fun _ _ _ => rfl
  · exact toSpecial_of_exec (fun _ => rfl) (fun _ _ => rfl) fun _ _ _ => rfl
  · exact toSpecial_of_exec (fun _ => rfl) (fun _ _ => rfl) fun _ _ _ => rfl

end Sys2Proof.Machine
end

section
/-! PROOFS. MOV from a segment register, SLDT, STR, SMSW, SGDT and SIDT (45_m_n_o.md R361, 48_s.md R448, R449, R452, R463, R468). -/

namespace Sys2Proof.Machine

open Sys2Proof.Claims

/-! ## Segment registers -/

theorem sregOfField_sregField (r : Sreg) : sregOfField (sregField r) = some r := by cases r <;> rfl

/-- A register takes the selector padded to the operand size. -/
theorem storeSreg_reg (os : Sz) (d : Reg) (r : Sreg) :
    storeSreg os (.reg d) (sregField r) = (get >>= fun s => padSel os (s.seg r).sel >>= fun v => writeRegSz os d v) := by
  rw [storeSreg, sregOfField_sregField]

/-- Memory takes the selector alone, at any operand size. -/
theorem storeSreg_mem (os : Sz) (m : Mem) (r : Sreg) :
    storeSreg os (.mem m) (sregField r) = (get >>= fun s => writeRm .b16 (.mem m) (s.seg r).sel) := by
  rw [storeSreg, sregOfField_sregField]

theorem movRmSreg_reg_plain (os : Sz) (r : Sreg) (d : Reg) :
    Plain (.movRmSreg os (.reg d) (sregField r)) (fun u =>
      (withFlags u (if os = .s32 then 1 else 0) u.flags).setReg os.width d ((selElement os (u.seg r).sel u 0).setWidth _)) := by
  refine plain_of_perform (fun _ => rfl) (fun u => ?_) fun _ _ => rfl
  rw [storeSreg_reg, bind_passes (M.get_run u), bind_completes (padSel_first ..), writeRegSz_run, padded]

theorem movRmSreg_mem_storesRm (os : Sz) (m : Mem) (r : Sreg) :
    StoresRm (.movRmSreg os (.mem m) (sregField r)) .b16 (.mem m) (fun s => (s.seg r).sel) := by
  refine storesRm_of_writeRm (fun _ => rfl) fun s => ?_
  rw [storeSreg_mem, bind_passes (M.get_run _), begun_seg]

/-! ## System segment registers -/

/-- SLDT and STR, which differ in the selector they store. -/
theorem storeSelector_completes {i : Instr} {rm : Rm} {s u : State} {p : Place} {sel : State → Word}
    (hi : exec i s = perform s false (requireProt >>= fun _ => get >>= fun s => writeRm .b16 rm (sel s)))
    (ha : Accepts s false) (hm : s.mode = .prot) (ho : Opens (begun s) .b16 rm true p u) :
    Completes i s u (put u .b16 p (sel (begun s))) (bytesOf p) := by
  refine completes_of_perform hi ha ?_ (fun a hn => byte_put_other _ hn) (found_of_opens ho)
  rw [bind_passes (requireProt_ok (s := begun s) hm), bind_passes (M.get_run _), writeRm_ok ho]

/-! ## Table registers -/

theorem setWidth_ushiftRight_eq_extractLsb' {n : Nat} (v : BitVec n) (k : Nat) : (v >>> k).setWidth 8 = v.extractLsb' k 8 := by
  ext i hi
  simp

/-- The first `k` bytes of a value, each by its place. -/
theorem leBytes_eq_map_extractLsb' {n : Nat} (k : Nat) (v : BitVec n) :
    leBytes k v = (List.range k).map fun i => v.extractLsb' (8 * i) 8 := by
  induction k generalizing v with
  | zero => rfl
  | succ k ih =>
    rw [leBytes, ih, List.range_succ_eq_map, List.map_cons, List.map_map, ← setWidth_ushiftRight_eq_extractLsb',
      Nat.mul_zero, BitVec.ushiftRight_zero]
    refine congrArg _ (List.map_congr_left fun i _ => ?_)
    rw [Function.comp_apply, ← setWidth_ushiftRight_eq_extractLsb', ← setWidth_ushiftRight_eq_extractLsb',
      ← BitVec.shiftRight_add, Nat.mul_succ, Nat.add_comm]

theorem tableBytes_eq_image (os : Sz) (t : TableReg) : tableBytes os t = tableImage os t := by
  cases os <;> simp only [tableBytes, leBytes_eq_map_extractLsb'] <;> rfl

theorem storeTable_run {b v u : State} {os : Sz} {m : Mem} {seg : Sreg} {a : Dword} {as : List Nat}
    (hm : Addressed b m seg a v) (ho : OpensMem v seg a 6 true as u) (t : TableReg) :
    storeTable os (.mem m) t b = .ok ((), u.setBytes as (tableImage os t)) := by
  have hmem : requireMem (.mem m) b = .ok (m, b) := rfl
  rw [storeTable, tableBytes_eq_image]
  exact (bind_passes hmem).trans <| (bind_completes hm).trans (bind_completes ho)

/-- SGDT and SIDT, which differ in the register they store. -/
theorem storeTable_completes {i : Instr} {os : Sz} {m : Mem} {s v u : State} {seg : Sreg} {a : Dword} {as : List Nat}
    {t : State → TableReg} (hi : exec i s = perform s false (get >>= fun s => storeTable os (.mem m) (t s)))
    (ha : Accepts s false) (hm : Addressed (begun s) m seg a v) (ho : OpensMem v seg a 6 true as u) :
    Completes i s u (u.setBytes as (tableImage os (t (begun s)))) as :=
  completes_of_perform hi ha ((bind_passes (M.get_run _)).trans (storeTable_run hm ho _))
    (fun _ hn => byte_setBytes_other hn) (found_trans (found_of_addressed hm) (found_of_opensMem ho))

/-- Settles O32: every form stores what its register holds, which finding the operand leaves alone. -/
theorem segmentStores : Obligations.SegmentStores := by
  unfold Obligations.SegmentStores
  intro os r d m rm
  refine ⟨movRmSreg_reg_plain os r d, movRmSreg_mem_storesRm os m r, ?_, fun s p u ha hm ho => ⟨?_, ?_⟩,
    fun s seg a v as u ha hm ho => ⟨?_, ?_⟩⟩
  · exact storesRm_of_writeRm (m := get >>= fun s => writeRm .b16 rm ((cr0Word s.cr0).setWidth 16)) (fun _ => rfl) fun _ => rfl
  · exact storeSelector_completes (sel := fun s => s.ldtr.sel) rfl ha hm ho
  · exact storeSelector_completes (sel := fun s => s.tr.sel) rfl ha hm ho
  · exact storeTable_completes (t := State.gdtr) rfl ha hm ho
  · exact storeTable_completes (t := State.idtr) rfl ha hm ho

end Sys2Proof.Machine
end

section
/-! PROOFS. MOVS, CMPS, SCAS, LODS, STOS, INS and OUTS: one operation of each, and an instruction that is not repeated
(45_m_n_o.md R369, R382, 41_c_d_e_h.md R241, 48_s.md R446, R467, 44_l.md R341, 42_i.md R274). -/

namespace Sys2Proof.Machine

open Sys2Proof.Claims

/-! ## Operands -/

/-- The bytes of an operand, read as a value and stored again. -/
theorem leBytes_leValue_width {w : Width} {bs : List Byte} (h : bs.length = w.bytes) :
    leBytes w.bytes (leValue w.bits bs) = bs := by
  have hbits : 8 * w.bytes ≤ w.bits := by cases w <;> decide
  rw [← h] at hbits ⊢
  exact leBytes_leValue bs w.bits hbits

section
variable {as : Sz} {w : Width} {b u : State} {at1 : List Nat}

theorem openSource_ok (h : Source as w b at1 u) : openSource as w b = .ok (.mem at1, u) :=
  (bind_passes (M.get_run b)).trans <| (bind_passes (readRegSz_run as .si b)).trans (bind_completes h)

theorem openDest_ok {wr : Bool} (h : Destination as w wr b at1 u) : openDest as w wr b = .ok (.mem at1, u) :=
  (bind_passes (readRegSz_run as .di b)).trans (bind_completes h)

theorem source_length (h : Source as w b at1 u) : at1.length = w.bytes := openMem_length h

end

/-- An index register may be stepped at 32 bits and cut to the address size. -/
theorem stepIndex_run (as : Sz) (w : Width) (r : Reg) (u : State) : stepIndex as w r u = .ok ((), stepped as w r u) := by
  have hstep (i : BitVec as.width.bits) : (i.setWidth 32 + indexStep u.flags w).setWidth as.width.bits =
      if u.flags.df then i - BitVec.ofNat _ w.bytes else i + BitVec.ofNat _ w.bytes := by
    unfold indexStep
    split <;> cases as <;> simp only [Sz.width, Width.bits] at i ⊢ <;> bv_omega
  rw [stepIndex, bind_passes (getFlags_run u), bind_passes (readRegSz_run as r u), writeRegSz_run, hstep, stepped]

/-! ## One operation of each -/

/-- The operation of each instruction. -/
def stringOp (op : StrOp) (as : Sz) (w : Width) : M Unit :=
  match op with
  | .movs => moveString as w
  | .cmps => compareString as w
  | .scas => scanString as w
  | .lods => loadString as w
  | .stos => storeString as w
  | .ins => inputString as w
  | .outs => outputString as w

section
variable {as : Sz} {w : Width} {b u t : State} {stored : List Nat}

theorem moveString_run (h : Operates .movs as w b u t stored) : moveString as w b = .ok ((), t) := by
  obtain ⟨src, v, hsrc, hdst, rfl⟩ := h
  have hcopy : leBytes w.bytes (leValue w.bits (src.map v.byte)) = src.map v.byte :=
    leBytes_leValue_width ((List.length_map _).trans (source_length hsrc))
  refine (bind_completes (openSource_ok hsrc)).trans <| (bind_passes (readPlace_mem w src v)).trans <|
    (bind_completes (openDest_ok hdst)).trans <| (bind_completes (writePlace_mem w stored _ u)).trans ?_
  rw [hcopy, bind_completes (stepIndex_run ..), stepIndex_run]

theorem compareString_run (h : Operates .cmps as w b u t stored) : compareString as w b = .ok ((), t) := by
  obtain ⟨src, v, dst, hsrc, hdst, -, rfl⟩ := h
  exact (bind_completes (openSource_ok hsrc)).trans <| (bind_passes (readPlace_mem w src v)).trans <|
    (bind_completes (openDest_ok hdst)).trans <| (bind_passes (readPlace_mem w dst u)).trans <|
    (bind_completes (modifyFlags_run ..)).trans <| (bind_completes (stepIndex_run ..)).trans (stepIndex_run ..)

theorem scanString_run (h : Operates .scas as w b u t stored) : scanString as w b = .ok ((), t) := by
  obtain ⟨dst, hdst, -, rfl⟩ := h
  exact (bind_completes (openDest_ok hdst)).trans <| (bind_passes (readPlace_mem w dst u)).trans <|
    (bind_passes (readReg_run w .ax u)).trans <| (bind_completes (modifyFlags_run ..)).trans (stepIndex_run ..)

theorem loadString_run (h : Operates .lods as w b u t stored) : loadString as w b = .ok ((), t) := by
  obtain ⟨src, hsrc, -, rfl⟩ := h
  exact (bind_completes (openSource_ok hsrc)).trans <| (bind_passes (readPlace_mem w src u)).trans <|
    (bind_completes (writeReg_run ..)).trans (stepIndex_run ..)

theorem storeString_run (h : Operates .stos as w b u t stored) : storeString as w b = .ok ((), t) := by
  obtain ⟨hdst, rfl⟩ := h
  exact (bind_completes (openDest_ok hdst)).trans <| (bind_passes (readReg_run w .ax u)).trans <|
    (bind_completes (writePlace_mem ..)).trans (stepIndex_run ..)

theorem portIn_run (w : Width) (port : Word) (u : State) : portIn w port u = .ok (portValue u w port, portRead u w port) := rfl

theorem portOut_run (w : Width) (port : Word) (v : BitVec w.bits) (u : State) :
    portOut w port v u = .ok ((), portWritten u w port v) := rfl

theorem inputString_run (h : Operates .ins as w b u t stored) : inputString as w b = .ok ((), t) := by
  obtain ⟨hport, hdst, rfl⟩ := h
  exact (bind_passes (readReg_run .b16 .dx b)).trans <| (bind_passes (checkPort_ok hport)).trans <|
    (bind_completes (openDest_ok hdst)).trans <| (bind_completes (portIn_run ..)).trans <|
    (bind_completes (writePlace_mem ..)).trans (stepIndex_run ..)

theorem outputString_run (h : Operates .outs as w b u t stored) : outputString as w b = .ok ((), t) := by
  obtain ⟨src, hport, hsrc, -, rfl⟩ := h
  exact (bind_passes (readReg_run .b16 .dx b)).trans <| (bind_passes (checkPort_ok hport)).trans <|
    (bind_completes (openSource_ok hsrc)).trans <| (bind_passes (readPlace_mem w src u)).trans <|
    (bind_completes (portOut_run ..)).trans (stepIndex_run ..)

variable {op : StrOp}

/-- An operation that its checks let pass ends as the statement says. -/
theorem stringOp_run (h : Operates op as w b u t stored) : stringOp op as w b = .ok ((), t) := by
  cases op with
  | movs => exact moveString_run h
  | cmps => exact compareString_run h
  | scas => exact scanString_run h
  | lods => exact loadString_run h
  | stos => exact storeString_run h
  | ins => exact inputString_run h
  | outs => exact outputString_run h

/-- INS and OUTS test the port before they find their operand. -/
theorem stringOp_denied (hop : op = .ins ∨ op = .outs) (h : PortDenied b (b.reg .b16 .dx) w.bytes) :
    stringOp op as w b = .error (.exc (excGP 0#16) b false) := by
  rcases hop with rfl | rfl
  · exact (bind_passes (readReg_run .b16 .dx b)).trans (bind_raises (checkPort_raises h))
  · exact (bind_passes (readReg_run .b16 .dx b)).trans (bind_raises (checkPort_raises h))

/-- An operation stores at its destination alone, if it stores. -/
theorem byte_operates_other (h : Operates op as w b u t stored) {a : Nat} (ha : a ∉ stored) : t.byte a = u.byte a := by
  cases op with
  | movs =>
    obtain ⟨src, v, -, -, rfl⟩ := h
    exact byte_setBytes_other ha
  | cmps =>
    obtain ⟨src, v, dst, -, -, -, rfl⟩ := h
    rfl
  | scas =>
    obtain ⟨dst, -, -, rfl⟩ := h
    rfl
  | lods =>
    obtain ⟨src, -, -, rfl⟩ := h
    rfl
  | stos =>
    obtain ⟨-, rfl⟩ := h
    exact byte_setBytes_other ha
  | ins =>
    obtain ⟨-, -, rfl⟩ := h
    exact byte_setBytes_other (s := portRead u w (b.reg .b16 .dx)) ha
  | outs =>
    obtain ⟨src, -, -, -, rfl⟩ := h
    rfl

theorem found_of_operates (h : Operates op as w b u t stored) : Found b u := by
  cases op with
  | movs =>
    obtain ⟨src, v, hsrc, hdst, -⟩ := h
    exact found_trans (found_of_opensMem hsrc) (found_of_opensMem hdst)
  | cmps =>
    obtain ⟨src, v, dst, hsrc, hdst, -⟩ := h
    exact found_trans (found_of_opensMem hsrc) (found_of_opensMem hdst)
  | scas =>
    obtain ⟨dst, hdst, -⟩ := h
    exact found_of_opensMem hdst
  | lods =>
    obtain ⟨src, hsrc, -⟩ := h
    exact found_of_opensMem hsrc
  | stos =>
    obtain ⟨hdst, -⟩ := h
    exact found_of_opensMem hdst
  | ins =>
    obtain ⟨-, hdst, -⟩ := h
    exact found_of_opensMem hdst
  | outs =>
    obtain ⟨src, -, hsrc, -⟩ := h
    exact found_of_opensMem hsrc

end

/-! ## The instructions -/

theorem exec_strByte (op : StrOp) (as : Sz) (s : State) :
    exec (strByte op as) s = performString s (scans op) as (stringOp op as .b8) := by cases op <;> rfl

theorem exec_strWord (op : StrOp) (os as : Sz) (s : State) :
    exec (strWord op os as) s = performString s (scans op) as (stringOp op as os.width) := by cases op <;> rfl

section
variable {i : Instr} {s : State} {scan : Bool} {as : Sz} {m : M Unit} (hi : exec i s = performString s scan as m)
  (ha : Accepts s false)
include hi ha

/-- A string instruction that is not repeated is its operation. -/
theorem exec_string_unrepeated : exec i s = runM s (m >>= fun _ => clearRF) := by
  have hlock : (!s.pfx.lock) = true := by rw [lock_eq_false_of_accepts ha]; rfl
  rw [hi, performString, ha.2, hlock]
  rfl

theorem string_completes {u t : State} {stored : List Nat} (hm : m (begun s) = .ok ((), t))
    (hb : ∀ a, a ∉ stored → t.byte a = u.byte a) (hf : Found (begun s) u) : Completes i s u t stored :=
  ⟨(exec_string_unrepeated hi ha).trans (runM_ok ((bind_completes hm).trans (clearRF_run t))), hb, hf⟩

theorem string_raises {e : Exc} (hm : m (begun s) = .error (.exc e (begun s) false)) : exec i s = takeFault e s :=
  (exec_string_unrepeated hi ha).trans ((runM_exc (bind_raises hm)).trans rfl)

end

/-- Settles O29: an instruction that is not repeated is one operation, whose port test comes first. -/
theorem stringOperations : Obligations.StringOperations := by
  unfold Obligations.StringOperations
  refine fun op os as s u t stored ha => ⟨fun h => ?_, fun h => ?_, fun hop => ⟨fun h => ?_, fun h => ?_⟩⟩
  · exact string_completes (exec_strByte op as s) ha (stringOp_run h) (fun _ hn => byte_operates_other h hn)
      (found_of_operates h)
  · exact string_completes (exec_strWord op os as s) ha (stringOp_run h) (fun _ hn => byte_operates_other h hn)
      (found_of_operates h)
  · exact string_raises (exec_strByte op as s) ha (stringOp_denied (b := begun s) hop h)
  · rw [← width_bytes_eq] at h
    exact string_raises (exec_strWord op os as s) ha (stringOp_denied (b := begun s) hop h)

end Sys2Proof.Machine
end

section
/-! PROOFS. MOV to a segment register, POP of one, LDS, LES, LFS, LGS and LSS (45_m_n_o.md R362, 46_p.md R394, 44_l.md R326 to
R331, 20_memory.md R98, 10_state.md R41, 70_reset_and_hazards.md R570). -/

namespace Sys2Proof.Machine

open Sys2Proof.Claims

/-! ## Loading a segment register -/

/-- The type and privilege tests of a load, those of SS apart. -/
def loadableTest (r : Sreg) (b : State) (sel : Word) (d : Desc) : Bool :=
  if r = .ss then decide (selRpl sel = b.cpl) && (d.writable && decide (d.dpl = b.cpl))
  else d.readable && (d.conforming || (decide (selRpl sel ≤ d.dpl) && decide (b.cpl ≤ d.dpl)))

theorem loadableTest_iff (r : Sreg) (b : State) (sel : Word) (d : Desc) :
    loadableTest r b sel d = true ↔ Loadable r b sel d := by
  by_cases hr : r = .ss
  · simp [loadableTest, Loadable, hr, selRpl_eq]
  · simp [loadableTest, Loadable, hr, selRpl_eq, Visible, and_comm]

/-- The exception of a segment that is not present. -/
def absentExc (r : Sreg) (sel : Word) : Exc := if r = .ss then excSS (selErr sel) else excNP (selErr sel)

section
variable {r : Sreg} {sel : Word} {u t : State} {stored : List Nat} {e : Exc}

theorem segLoad_real (hm : u.mode ≠ .prot) : segLoad r sel u = .ok ((), realSeg u r sel) :=
  (bind_passes (M.get_run u)).trans <| (congrFun (if_pos hm) u).trans (loadRealSeg_run r sel u)

theorem segLoad_null (hm : u.mode = .prot) (hr : r ≠ .ss) (hn : NullSel sel) :
    segLoad r sel u = .ok ((), u.setSeg r { u.seg r with sel := sel, valid := false }) :=
  (bind_passes (M.get_run u)).trans <| (congrFun (if_neg (not_not.2 hm)) u).trans <| (congrFun (if_neg hr) u).trans <|
    (congrFun (if_pos ((selNull_iff sel).2 hn)) u).trans (M.modify_run _ u)

/-- A selector in protected mode is checked before it is loaded; a null one is checked for SS alone. -/
theorem segLoad_eq (hm : u.mode = .prot) (hn : NullSel sel → r = .ss) :
    segLoad r sel u = (checkedDesc sel (excGP 0#16) (excGP (selErr sel)) (absentExc r sel) (loadableTest r u sel) >>=
      loadSeg r sel) u := by
  refine (bind_passes (M.get_run u)).trans <| (congrFun (if_neg (not_not.2 hm)) u).trans ?_
  by_cases hr : r = .ss
  · have htest : loadableTest r u sel =
        fun d => decide (selRpl sel = u.cpl) && (d.writable && decide (d.dpl = u.cpl)) := funext fun _ => if_pos hr
    rw [if_pos hr, htest, absentExc, if_pos hr]
    simp only [checkedDesc, require_require, bind_assoc, pure_bind]
    rfl
  · have hnull : ¬ NullSel sel := mt hn hr
    have htest : loadableTest r u sel =
        fun d => d.readable && (d.conforming || (decide (selRpl sel ≤ d.dpl) && decide (u.cpl ≤ d.dpl))) :=
      funext fun _ => if_neg hr
    rw [if_neg hr, if_neg (mt (selNull_iff sel).1 hnull), checkedDesc_bind_of_not_null hnull, htest, absentExc, if_neg hr]
    simp only [require_require]
    rfl

theorem segLoad_run (h : SegLoads r sel u t stored) : segLoad r sel u = .ok ((), t) := by
  rcases h with ⟨hm, -, rfl⟩ | ⟨hm, -, hn, hr, -, rfl⟩ | ⟨hm, hp, hn, hin, hd, hpr, -, rfl⟩
  · exact segLoad_real hm
  · exact segLoad_null hm hr hn
  · exact (segLoad_eq hm fun h => absurd h hn).trans <|
      (bind_passes (checkedDesc_ok (loadableTest_iff r u sel) hp ⟨hn, hin, rfl, hd, hpr⟩)).trans (loadSeg_run hp ..)

/-- A load that fails does so at one of its checks. -/
theorem nameFails_of_segFails (h : SegFails r sel u e) :
    (NullSel sel → r = .ss) ∧
      NameFails u sel (Loadable r u sel) (excGP 0#16) (excGP (selErr sel)) (absentExc r sel) e := by
  obtain ⟨-, -, ⟨hn, hr, rfl⟩ | ⟨hn, hin, rfl⟩ | ⟨hn, hin, hd, rfl⟩ | ⟨hn, hin, hd, hpr, rfl⟩⟩ := h
  · exact ⟨fun _ => hr, .inl ⟨hn, rfl⟩⟩
  · exact ⟨fun h => absurd h hn, .inr (.inl ⟨hn, fun h => hin h.1, rfl⟩)⟩
  · exact ⟨fun h => absurd h hn, .inr (.inl ⟨hn, fun h => hd h.2, rfl⟩)⟩
  · exact ⟨fun h => absurd h hn, .inr (.inr ⟨hn, hin, hd, hpr, rfl⟩)⟩

theorem segLoad_raises (h : SegFails r sel u e) : segLoad r sel u = .error (.exc e u false) := by
  obtain ⟨hss, hfail⟩ := nameFails_of_segFails h
  obtain ⟨hm, hp, -⟩ := h
  exact (segLoad_eq hm hss).trans (bind_raises (checkedDesc_raises (loadableTest_iff r u sel) hp hfail))

/-- A load stores at most the byte of the accessed bit. -/
theorem byte_segLoads_other (h : SegLoads r sel u t stored) {a : Nat} (ha : a ∉ stored) : t.byte a = u.byte a := by
  rcases h with ⟨-, -, rfl⟩ | ⟨-, -, -, -, -, rfl⟩ | ⟨-, -, -, -, -, -, rfl, rfl⟩
  · exact byte_realSeg ..
  · exact setSeg_byte ..
  · exact byte_segLoaded_other ha

end

/-! ## The interrupt shadow -/

/-- What MOV and POP do after the load: for SS the shadow opens. -/
def openShadow (r : Sreg) : M Unit := if r = .ss then modify fun s => { s with inhibit := .all } else pure ()

theorem openShadow_run (r : Sreg) (t : State) : openShadow r t = .ok ((), shadowed r t) := by
  rw [openShadow, shadowed]
  split <;> rfl

theorem byte_shadowed (r : Sreg) (t : State) (a : Nat) : (shadowed r t).byte a = t.byte a := by
  rw [shadowed]
  split <;> rfl

/-! ## MOV -/

theorem moveSreg_eq {r : Sreg} (hr : r ≠ .cs) (rm : Rm) (b : State) :
    moveSreg (sregField r) rm b = (readRm .b16 rm >>= fun sel => segLoad r sel >>= fun _ => openShadow r) b := by
  have hcs : decide (r ≠ .cs) = true := decide_eq_true hr
  rw [moveSreg, sregOfField_sregField]
  exact bind_passes (require_passes hcs _ _)

section
variable {r : Sreg} {rm : Rm} {s u : State} {p : Place} (ha : Accepts s false) (hr : r ≠ .cs)
  (ho : Opens (begun s) .b16 rm false p u)
include ha hr ho

theorem movSregRm_completes {t : State} {stored : List Nat} (h : SegLoads r (at' u .b16 p) u t stored) :
    Completes (.movSregRm (sregField r) rm) s u (shadowed r t) stored := by
  refine completes_of_perform (m := moveSreg (sregField r) rm) rfl ha ?_
    (fun a hn => (byte_shadowed r t a).trans (byte_segLoads_other h hn)) (found_of_opens ho)
  exact (moveSreg_eq hr rm _).trans <| (bind_completes (readRm_ok ho)).trans <|
    (bind_completes (segLoad_run h)).trans (openShadow_run r t)

theorem movSregRm_raises {e : Exc} (h : SegFails r (at' u .b16 p) u e) :
    Takes (.movSregRm (sregField r) rm) s u e := by
  refine takes_of_perform (m := moveSreg (sregField r) rm) rfl ha ?_ (found_of_opens ho)
  exact (moveSreg_eq hr rm _).trans <| (bind_completes (readRm_ok ho)).trans (bind_raises (segLoad_raises h))

end

/-! ## POP -/

theorem exec_popSreg {os : Sz} {r : Sreg} {i : Instr} (h : popSregInstr os r = some i) (s : State) :
    exec i s = perform s false (popSegment os r >>= fun _ => openShadow r) := by
  have hdata {r : Sreg} (hr : r ≠ .ss) : (popSegment os r >>= fun _ => openShadow r) = popSegment os r := by
    rw [openShadow, if_neg hr]
    exact bind_pure_unit
  cases r with
  | cs => cases h
  | ss =>
    cases h
    rfl
  | ds | es | fs | gs =>
    cases h
    rw [hdata (by decide)]
    rfl

theorem stackRead_zero_ok {b u : State} {os : Sz} {as : List Nat} (h : OpensMem b .ss b.sp os.bytes false as u) :
    stackRead os 0 b = .ok (leValue 32 (as.map u.byte), u) := by
  have htop : truncSz b.ssSize (b.sp + BitVec.ofNat 32 0) = b.sp := by rw [BitVec.add_zero, sp_trunc]
  have h : openMem .ss b.sp os.bytes false b = .ok (as, u) := h
  simp only [stackRead, M.bind_run, M.get_run, htop, memBytes, h, readPhys_run, M.pure_run]

/-- The selector is the low word of the element, and the stack pointer moves after the load. -/
theorem popSegment_eq {b u : State} {os : Sz} {as : List Nat} (h : OpensMem b .ss b.sp os.bytes false as u) (r : Sreg) :
    popSegment os r b =
      (segLoad r (leValue 16 (as.map u.byte)) >>= fun _ => setStackPtr (b.sp + BitVec.ofNat 32 os.bytes)) u := by
  rw [popSegment, bind_passes (M.get_run b), bind_completes (stackRead_zero_ok h), leValue_setWidth (by decide)]

section
variable {r : Sreg} {os : Sz} {i : Instr} {s u : State} {as : List Nat} (ha : Accepts s false)
  (hi : popSregInstr os r = some i) (ho : OpensMem (begun s) .ss s.sp os.bytes false as u)
include ha hi ho

theorem popSreg_completes {t : State} {stored : List Nat} (h : SegLoads r (leValue 16 (as.map u.byte)) u t stored) :
    Completes i s u (shadowed r (t.setSp (s.sp + BitVec.ofNat 32 os.bytes))) stored := by
  refine completes_of_perform (exec_popSreg hi s) ha ?_
    (fun a hn => (byte_shadowed ..).trans ((setSp_byte ..).trans (byte_segLoads_other h hn))) (found_of_opensMem ho)
  have hpop := (popSegment_eq (b := begun s) ho r).trans ((bind_completes (segLoad_run h)).trans (setStackPtr_run ..))
  exact (bind_completes hpop).trans (openShadow_run ..)

theorem popSreg_raises {e : Exc} (h : SegFails r (leValue 16 (as.map u.byte)) u e) : Takes i s u e :=
  takes_of_perform (exec_popSreg hi s) ha
    (bind_error ((popSegment_eq (b := begun s) ho r).trans (bind_raises (segLoad_raises h)))) (found_of_opensMem ho)

end

/-! ## LDS, LES, LFS, LGS and LSS -/

theorem exec_loadPointer {os : Sz} {g : Reg} {rm : Rm} {r : Sreg} {i : Instr} (h : loadPointer os g rm r = some i) (s : State) :
    exec i s = loadFarPointer s os r g rm := by
  cases r <;> cases h <;> rfl

section
variable {os : Sz} {g : Reg} {m : Mem} {r : Sreg} {i : Instr} {s v u : State} {seg : Sreg} {a : Dword} {lo hi : List Byte}
  (hform : loadPointer os g (.mem m) r = some i) (hm : Addressed (begun s) m seg a v) (hp : ReadsParts v seg a os.bytes 2 lo hi u)
include hform hm hp

/-- The pointer is read, then its selector is loaded, and then the register takes its offset. -/
theorem exec_loadPointer_mem :
    ∃ body, exec i s = perform s false body ∧ body (begun s) =
      (segLoad r (leValue 16 hi) >>= fun _ => writeRegSz os g (leValue 32 lo)) u := by
  have hmem : requireMem (.mem m) (begun s) = .ok (m, begun s) := rfl
  refine ⟨_, exec_loadPointer hform s, (bind_passes hmem).trans <| (bind_completes (readPair_ok hm hp)).trans ?_⟩
  rw [← leValue_setWidth (by decide : 16 ≤ 32)]

theorem loadPointer_completes (ha : Accepts s false) {t : State} {stored : List Nat} (h : SegLoads r (leValue 16 hi) u t stored) :
    Completes i s u (t.setReg os.width g (leValue _ lo)) stored := by
  have hbits : os.width.bits ≤ 32 := by cases os <;> decide
  obtain ⟨body, hexec, hbody⟩ := exec_loadPointer_mem hform hm hp
  refine completes_of_perform hexec ha (hbody.trans ?_) (fun a hn => (setReg_byte ..).trans (byte_segLoads_other h hn))
    (found_trans (found_of_addressed hm) (found_of_readsParts hp))
  rw [bind_completes (segLoad_run h), writeRegSz_run, leValue_setWidth hbits]

theorem loadPointer_raises (ha : Accepts s false) {e : Exc} (h : SegFails r (leValue 16 hi) u e) : Takes i s u e := by
  obtain ⟨body, hexec, hbody⟩ := exec_loadPointer_mem hform hm hp
  exact takes_of_perform hexec ha (hbody.trans (bind_raises (segLoad_raises h)))
    (found_trans (found_of_addressed hm) (found_of_readsParts hp))

end

/-- Settles O31: each form finds its selector and then makes the one load that `SegLoads` and `SegFails` describe. -/
theorem segmentLoads : Obligations.SegmentLoads := by
  unfold Obligations.SegmentLoads
  exact fun r os s ha hr => ⟨fun rm p u ho => ⟨fun t stored => movSregRm_completes ha hr ho, fun e => movSregRm_raises ha hr ho⟩,
    fun i as u hi ho => ⟨fun t stored => popSreg_completes ha hi ho, fun e => popSreg_raises ha hi ho⟩,
    fun g m i seg a v lo hi u hform hm hp => ⟨fun t stored => loadPointer_completes hform hm hp ha,
      fun e => loadPointer_raises hform hm hp ha⟩⟩

end Sys2Proof.Machine
end

section
/-! PROOFS. PUSH in all its forms, PUSHF and PUSHA (46_p.md R391, R397 to R402). -/

namespace Sys2Proof.Machine

open Sys2Proof.Claims

/-! ## Exceptions of finding an operand -/

theorem raises_of_takeException {i : Instr} {s u : State} {e : Exc} (h : exec i s = takeException s e u false) :
    Raises i s u e := h

theorem raises_of_perform {i : Instr} {s u : State} {l : Bool} {m : M Unit} {e : Exc} (hi : exec i s = perform s l m)
    (ha : Accepts s l) (hm : m (begun s) = .error (.exc e u false)) : Raises i s u e :=
  raises_of_takeException (hi.trans (perform_exc ha.1 ha.2 hm))

theorem performKeepingRF_raises {s : State} {m : M Unit} {e : Exc} (ha : Accepts s false)
    (h : m (begun s) = .error (.exc e (begun s) false)) : performKeepingRF s m = takeFault e s :=
  (performKeepingRF_exc (lock_eq_false_of_accepts ha) ha.2 h).trans rfl

theorem memBytes_opened {b u : State} {seg : Sreg} {off : Dword} {n : Nat} {as : List Nat}
    (h : OpensMem b seg off n false as u) : memBytes seg off n b = .ok (as.map u.byte, u) :=
  (bind_completes h).trans (readPhys_run as u)

theorem memBytes_fails {b u : State} {seg : Sreg} {off : Dword} {n : Nat} {e : Exc} (h : FailsMem b seg off n false e u) :
    memBytes seg off n b = .error (.exc e u false) := bind_error h

theorem memStore_opened {b u : State} {seg : Sreg} {off : Dword} {as : List Nat} {bs : List Byte}
    (h : OpensMem b seg off bs.length true as u) : memStore seg off bs b = .ok ((), u.setBytes as bs) :=
  (bind_completes h).trans (writePhys_run as bs u)

theorem memStore_fails {b u : State} {seg : Sreg} {off : Dword} {bs : List Byte} {e : Exc}
    (h : FailsMem b seg off bs.length true e u) : memStore seg off bs b = .error (.exc e u false) := bind_error h

/-! ## One push -/

/-- A push whose element fails its checks. -/
theorem push_fails {b u : State} {sz : Sz} {e : Exc} (h : FailsMem b .ss (below b sz 1) sz.bytes true e u) (v : Dword) :
    push sz v b = .error (.exc e u false) := by
  have h : FailsMem b .ss (below b sz 1) (leBytes sz.bytes v).length true e u := by rwa [leBytes_length]
  rw [below_one] at h
  exact (bind_passes (M.get_run b)).trans (bind_error (memStore_fails h))

/-- A form that is one push once `n` free values are drawn. -/
theorem pushesOne_of_perform {i : Instr} {sz : Sz} {ok : State → Prop} {n : Nat} {v : State → Dword} {m : M Unit}
    (hi : ∀ s, exec i s = perform s false m)
    (hm : ∀ s, ok s → m (begun s) = push sz (v s) (withFlags (begun s) n s.flags)) : PushesOne i sz ok n v := by
  intro s ha hok
  refine ⟨fun as u ho => ⟨?_, fun a hn => byte_pushed_other _ hn, found_of_opensMem ho⟩, fun e u hf => ?_⟩
  · exact (hi s).trans (perform_ok ha.1 ha.2 ((hm s hok).trans (push_opened ho _)))
  · exact raises_of_perform (hi s) ha ((hm s hok).trans (push_fails hf _))

theorem pushSreg_pushesOne (os : Sz) (g : Sreg) :
    PushesOne (pushSregInstr os g) os (fun _ => True) (if os = .s32 then 1 else 0)
      (fun s => selElement os (s.seg g).sel s 0) := by
  have hexec (s : State) : exec (pushSregInstr os g) s =
      perform s false (get >>= fun s => padSel os (s.seg g).sel >>= push os) := by cases g <;> rfl
  refine pushesOne_of_perform hexec fun s _ => ?_
  rw [bind_passes (M.get_run _), begun_seg, bind_completes (padSel_first ..)]
  cases os <;> rfl

section
variable {os : Sz} {m : Mem} {s w : State} {seg : Sreg} {off : Dword} (ha : Accepts s false)
  (hm : Addressed (begun s) m seg off w)
include ha hm

theorem pushMem_completes {as as' : List Nat} {u u' : State} (ho : OpensMem w seg off os.bytes false as u)
    (ho' : OpensMem u .ss (below u os 1) os.bytes true as' u') :
    Completes (.pushMem os m) s u' (pushed u' os as' (leValue 32 (as.map u.byte))) as' :=
  completes_of_perform rfl ha
    ((bind_completes hm).trans <| (bind_completes (memBytes_opened ho)).trans (push_opened ho' _))
    (fun _ hn => byte_pushed_other _ hn)
    (found_trans (found_trans (found_of_addressed hm) (found_of_opensMem ho)) (found_of_opensMem ho'))

theorem pushMem_raises {e : Exc} {u : State} (h : FailsMem w seg off os.bytes false e u ∨
    ∃ as v, OpensMem w seg off os.bytes false as v ∧ FailsMem v .ss (below v os 1) os.bytes true e u) :
    Raises (.pushMem os m) s u e := by
  refine raises_of_perform rfl ha ((bind_completes hm).trans ?_)
  rcases h with hsource | ⟨as, v, hsource, hstack⟩
  · exact bind_error (memBytes_fails hsource)
  · exact (bind_completes (memBytes_opened hsource)).trans (push_fails hstack _)

end

/-! ## PUSHF -/

theorem requireIopl_passes {s : State} (h : FlagsAllowed s) : requireIopl s = .ok ((), s) := by
  have htest : (!(s.flags.vm && s.flags.iopl != 3#2)) = true := by
    cases hv : s.flags.vm with
    | false => rfl
    | true => simp [h hv]
  exact (bind_passes (M.get_run s)).trans (require_passes htest _ s)

theorem requireIopl_fails {s : State} (h : ¬ FlagsAllowed s) :
    requireIopl s = .error (.exc (excGP 0#16) s false) := by
  obtain ⟨hv, hl⟩ := Classical.not_imp.1 h
  have htest : (!(s.flags.vm && s.flags.iopl != 3#2)) = false := by simp [hv, hl]
  exact (bind_passes (M.get_run s)).trans (require_fails htest _ s)

theorem pushf_pushesOne (os : Sz) : PushesOne (.pushf os) os FlagsAllowed 0 (fun s => eflags s.flags) :=
  pushesOne_of_perform (fun _ => rfl) fun s hok =>
    (bind_passes (requireIopl_passes (s := begun s) hok)).trans (bind_passes (getFlags_run _))

/-! ## The elements of PUSHA -/

/-- Opening elements in two runs, the second below the first. -/
theorem openBelow_add (sz : Sz) (m n k : Nat) :
    openBelow sz (m + n) k =
      (openBelow sz m k >>= fun ps => openBelow sz n (k + m) >>= fun qs => pure (ps ++ qs)) := by
  induction m generalizing k with
  | zero => simp only [Nat.zero_add, Nat.add_zero, openBelow, pure_bind, List.nil_append, bind_pure]
  | succ m ih =>
    simp only [Nat.succ_add, openBelow, ih, bind_assoc, pure_bind, List.cons_append, Nat.add_succ]

section
variable {b u v : State} {sz : Sz} {k : Nat} {ps : List (List Nat)}

theorem found_of_opensBelow (h : OpensBelow b sz k ps u) : Found b u := by
  induction k generalizing ps u with
  | zero =>
    obtain ⟨-, rfl⟩ := h
    exact found_refl _
  | succ k ih =>
    obtain ⟨qs, v, as, hqs, has, -⟩ := h
    exact found_trans (ih hqs) (found_of_opensMem has)

/-- Of several elements the first is opened, at its offset in the state then current, before the others. -/
theorem openBelow_head {off : Dword} (n : Nat) (hoff : u.elementBelow sz (k + 1) = off) :
    openBelow sz (n + 1) k u =
      (openMem .ss off sz.bytes true >>= fun as => openBelow sz n (k + 1) >>= fun rest => pure (as :: rest)) u := by
  rw [← hoff]
  exact bind_passes (M.get_run u)

theorem elementBelow_eq (h : Found b u) (k : Nat) : u.elementBelow sz k = below b sz k := below_found h sz k

theorem openBelow_opened (h : OpensBelow b sz k ps u) : openBelow sz k 0 b = .ok (ps, u) := by
  induction k generalizing ps u with
  | zero =>
    obtain ⟨rfl, rfl⟩ := h
    rfl
  | succ k ih =>
    obtain ⟨qs, v, as, hqs, has, rfl⟩ := h
    have hlast : openBelow sz 1 (0 + k) v = .ok ([as], u) := by
      rw [Nat.zero_add, openBelow_head 0 (elementBelow_eq (found_of_opensBelow hqs) _)]
      exact (bind_completes has).trans rfl
    rw [openBelow_add, bind_completes (ih hqs), bind_completes hlast, M.pure_run]

/-- The first element that fails stops the rest. -/
theorem openBelow_fails {e : Exc} {n : Nat} (hk : k < n) (h : OpensBelow b sz k ps u)
    (hf : FailsMem u .ss (below b sz (k + 1)) sz.bytes true e v) :
    openBelow sz n 0 b = .error (.exc e v false) := by
  obtain ⟨m, rfl⟩ : ∃ m, n = k + (m + 1) := ⟨n - k - 1, by omega⟩
  rw [openBelow_add, bind_completes (openBelow_opened h), Nat.zero_add]
  refine bind_error ?_
  rw [openBelow_head m (elementBelow_eq (found_of_opensBelow h) _)]
  exact bind_error hf

end

/-! ## PUSHA -/

section
variable {s u v : State} {os : Sz} {ps : List (List Nat)} (ha : Accepts s false)
include ha

/-- The eight elements are found, then stored, and then the stack pointer moves. -/
theorem pusha_completes (h : OpensBelow (begun s) os 8 ps u) :
    Completes (.pusha os) s u ((storedBelow u os ps (pushedRegs s)).setSp (below (begun s) os 8)) ps.flatten :=
  completes_of_perform rfl ha
    ((bind_passes (M.get_run _)).trans <| (bind_completes (openBelow_opened h)).trans <|
      (bind_completes (M.modify_run _ _)).trans (setStackPtr_run _ _))
    (fun _ hn => (setSp_byte ..).trans (setElements_byte hn)) (found_of_opensBelow h)

theorem pusha_raises {e : Exc} {k : Nat} (hk : k < 8) (h : OpensBelow (begun s) os k ps u)
    (hf : FailsMem u .ss (below (begun s) os (k + 1)) os.bytes true e v) : Raises (.pusha os) s v e :=
  raises_of_perform rfl ha ((bind_passes (M.get_run _)).trans (bind_error (openBelow_fails hk h hf)))

end

/-! ## PUSHA, paging off -/

/-- The places of the `k` elements below the top, paging off. -/
def slotList (b : State) (sz : Sz) (k : Nat) : List (List Nat) := (List.range k).map fun i => slot b sz (i + 1)

theorem flatten_slotList (b : State) (sz : Sz) (k : Nat) : (slotList b sz k).flatten = slots b sz k :=
  List.flatMap_def.symm

theorem slotList_succ (b : State) (sz : Sz) (k : Nat) : slotList b sz (k + 1) = slotList b sz k ++ [slot b sz (k + 1)] := by
  simp only [slotList, List.range_succ, List.map_append, List.map_cons, List.map_nil]

/-- The first element below the top, and those that are below it once the stack pointer has gone down to it. -/
theorem slotList_cons {b v : State} {sz : Sz} (h : Descends sz 1 b v) (k : Nat) :
    slotList b sz (k + 1) = slot b sz 1 :: slotList v sz k := by
  simp only [slotList, List.range_succ_eq_map, List.map_cons, List.map_map, Nat.zero_add, h.slot_eq, Nat.add_comm 1]
  rfl

theorem opensBelow_of_room {b : State} {sz : Sz} {k : Nat} (hp : b.cr0.pg = false) (h : Room b sz k) :
    OpensBelow b sz k (slotList b sz k) b := by
  induction k with
  | zero => exact ⟨rfl, rfl⟩
  | succ k ih =>
    exact ⟨_, b, _, ih fun i hi => h i (by omega), openMem_off hp (h k k.lt_succ_self), slotList_succ b sz k⟩

theorem setLow16_setLow16 (v : Dword) (x y : Word) : setLow16 (setLow16 v x) y = setLow16 v y := by
  have hhigh : (v.extractLsb' 16 16 ++ x).extractLsb' 16 16 = v.extractLsb' 16 16 :=
    BitVec.extractLsb'_append_eq_left
  rw [setLow16, setLow16, hhigh, setLow16]

theorem setSp_setSp (u : State) (v w : Dword) : (u.setSp v).setSp w = u.setSp w := by
  have hsize : (u.setSp v).ssSize = u.ssSize := rfl
  unfold State.setSp at hsize ⊢
  rw [hsize]
  unfold State.setReg
  cases u.ssSize with
  | s16 =>
    have hesp := setLow16_setLow16 u.regs.esp (v.setWidth 16) (w.setWidth 16)
    exact congrArg (fun e => { u with regs := { u.regs with esp := e } }) hesp
  | s32 => rfl

/-- A store and a move of the stack pointer may be exchanged. -/
theorem setBytes_setSp (u : State) (v : Dword) (as : List Nat) (bs : List Byte) :
    (u.setSp v).setBytes as bs = (u.setBytes as bs).setSp v := by
  have hput : (u.setSp v).putBytes as bs = (u.putBytes as bs).setSp v := by
    induction as generalizing u bs with
    | nil => cases bs <;> rfl
    | cons a as ih =>
      cases bs with
      | nil => rfl
      | cons b bs => exact ih (u.setByte a b) bs
  unfold State.setBytes
  rw [hput]
  rfl

theorem storedBelow_setSp (u : State) (v : Dword) (sz : Sz) (ps : List (List Nat)) (vs : List Dword) :
    storedBelow (u.setSp v) sz ps vs = (storedBelow u sz ps vs).setSp v := by
  induction ps generalizing u vs with
  | nil => rfl
  | cons p ps ih =>
    cases vs with
    | nil => rfl
    | cons x vs =>
      have hstore := setBytes_setSp u v p (leBytes sz.bytes x)
      exact (congrArg (storedBelow · sz ps vs) hstore).trans (ih _ vs)

/-- Pushes that all have room, one after the other, store what storing all elements and then moving the stack pointer does. -/
theorem pushList_eq_storedBelow (sz : Sz) (vs : List Dword) (u : State) :
    pushList u sz vs = (storedBelow u sz (slotList u sz vs.length) vs).setSp (below u sz vs.length) := by
  induction vs generalizing u with
  | nil =>
    rw [List.length_nil, below_zero]
    exact (setSp_sp_self u).symm
  | cons v vs ih =>
    have hd := descends_pushed u sz v
    rw [pushList_cons, ih, hd.below_eq, List.length_cons, slotList_cons hd, Nat.add_comm 1]
    rw [pushed, storedBelow_setSp, setSp_setSp]
    rfl

section
variable {s : State} {os : Sz} (ha : Accepts s false) (hp : s.cr0.pg = false)
include ha hp

theorem pusha_completes_off (h : Room (begun s) os 8) :
    Completes (.pusha os) s (begun s) (pushList (begun s) os (pushedRegs s)) (slots (begun s) os 8) := by
  rw [pushList_eq_storedBelow, ← flatten_slotList]
  exact pusha_completes ha (opensBelow_of_room hp h)

theorem pusha_raises_off {k : Nat} {e : Exc} (hk : k < 8) (h : Room (begun s) os k)
    (hf : (begun s).accessExc .ss (below (begun s) os (k + 1)) os.bytes true = some e) :
    exec (.pusha os) s = takeFault e s :=
  pusha_raises (v := begun s) ha hk (opensBelow_of_room (b := begun s) hp h) (openMem_exc hf)

end

/-- Settles O17: every form finds its value and makes one push; PUSHA finds its eight elements before it stores one. -/
theorem pushes : Obligations.Pushes := by
  unfold Obligations.Pushes
  refine fun os r b v g => ⟨?_, ?_, ?_, pushf_pushesOne os, fun s ha hf => ?_, pushSreg_pushesOne os g,
    fun m s seg off w as u as' u' ha hm ho ho' => pushMem_completes ha hm ho ho',
    fun m s seg off w e u ha hm h => pushMem_raises ha hm h,
    fun s ha hp => ⟨pusha_completes_off ha hp, fun k e hk h hf => pusha_raises_off ha hp hk h hf⟩,
    fun s ps u ha => ⟨pusha_completes ha, fun k e v hk h hf => pusha_raises ha hk h hf⟩⟩
  · exact pushesOne_of_perform (fun _ => rfl) fun s _ => bind_passes (readRegSz_run os r (begun s))
  · exact pushesOne_of_perform (fun _ => rfl) fun _ _ => rfl
  · exact pushesOne_of_perform (fun _ => rfl) fun _ _ => rfl
  · exact perform_raises ha (bind_raises (requireIopl_fails (s := begun s) hf))

end Sys2Proof.Machine
end

section
/-! PROOFS. POP to a register and to memory, POPF and POPA (46_p.md R390, R392, R393, R395, R396). -/

namespace Sys2Proof.Machine

open Sys2Proof.Claims

/-! ## One pop -/

theorem bits_le_dword (os : Sz) : os.width.bits ≤ 32 := by cases os <;> decide

/-- A pop whose element fails its checks. -/
theorem pop_fails {b u : State} {sz : Sz} {e : Exc} (h : FailsMem b .ss b.sp sz.bytes false e u) :
    pop sz b = .error (.exc e u false) := by
  have htop : truncSz b.ssSize (b.sp + BitVec.ofNat 32 0) = b.sp := by rw [BitVec.add_zero, sp_trunc]
  have hread : stackRead sz 0 b = .error (.exc e u false) := by
    refine (bind_passes (M.get_run b)).trans (bind_error ?_)
    rw [htop]
    exact memBytes_fails h
  exact bind_error hread

/-! ## The flags and the operand after the pop -/

/-- POPF loads neither RF nor VM, at any operand size. -/
theorem loadFlags_eq_poppedFlags (b : State) (v : Dword) : loadFlags b v .s16 false = poppedFlags b v :=
  loadFlags_eq b v .s16

/-- The operand is found once the stack pointer has moved, and then the element is stored in it. -/
theorem popMem_eq {os : Sz} {s u v : State} {as : List Nat} {m : Mem} {seg : Sreg} {off : Dword}
    (ho : OpensMem (begun s) .ss s.sp os.bytes false as u) (hm : Addressed (raised u os.bytes) m seg off v) :
    ∃ body, exec (.popMem os m) s = perform s false body ∧
    body (begun s) = memStore seg off (as.map u.byte) v := by
  refine ⟨_, rfl, (bind_completes (pop_opened (b := begun s) ho)).trans ((bind_completes hm).trans ?_)⟩
  have hlen : (as.map u.byte).length = os.bytes := (List.length_map _).trans (openMem_length ho)
  have hbytes : leBytes os.bytes (leValue 32 (as.map u.byte)) = as.map u.byte := by
    rw [← hlen]
    exact leBytes_leValue _ 32 (by rw [hlen]; cases os <;> decide)
  rw [hbytes]

section
variable {os : Sz} {s u : State} {as : List Nat} (ha : Accepts s false)
  (ho : OpensMem (begun s) .ss s.sp os.bytes false as u)
include ha ho

/-! ## POP to a register and POPF -/

theorem popR_completes (r : Reg) :
    Completes (.popR os r) s u ((raised u os.bytes).setReg os.width r (leValue _ (as.map u.byte))) [] := by
  refine completes_of_perform rfl ha ((bind_completes (pop_opened (b := begun s) ho)).trans ?_)
    (fun a _ => (setReg_byte ..).trans (byte_raised u _ a)) (found_of_opensMem ho)
  rw [writeRegSz_run, leValue_setWidth (bits_le_dword os)]

theorem popf_completes (hok : FlagsAllowed s) :
    exec (.popf os) s = .next (retire s
      { raised u os.bytes with flags := poppedFlags s (leValue 32 (as.map u.byte)) }) := by
  have hflags : loadFlags (raised u os.bytes) (leValue 32 (as.map u.byte)) .s16 false =
      poppedFlags s (leValue 32 (as.map u.byte)) := by
    rw [loadFlags_eq_poppedFlags, (found_of_opensMem ho).same]
    rfl
  rw [← hflags]
  exact performKeepingRF_ok (lock_eq_false_of_accepts ha) ha.2
    ((bind_passes (requireIopl_passes (s := begun s) hok)).trans (bind_completes (pop_opened (b := begun s) ho)))

/-! ## POP to memory -/

section
variable {m : Mem} {seg : Sreg} {off : Dword} {v : State} (hm : Addressed (raised u os.bytes) m seg off v)
include hm

theorem popMem_completes {as' : List Nat} {u' : State} (ho' : OpensMem v seg off os.bytes true as' u') :
    CompletesFrom (raised u os.bytes) (.popMem os m) s u' (u'.setBytes as' (as.map u.byte)) as' := by
  obtain ⟨body, hexec, hbody⟩ := popMem_eq ho hm
  rw [← openMem_length ho, ← List.length_map u.byte] at ho'
  exact ⟨hexec.trans (perform_ok ha.1 ha.2 (hbody.trans (memStore_opened ho'))), fun _ hn => byte_setBytes_other hn,
    found_trans (found_of_addressed hm) (found_of_opensMem ho')⟩

theorem popMem_raises {e : Exc} {u' : State} (h : FailsMem v seg off os.bytes true e u') :
    Raises (.popMem os m) s u' e := by
  obtain ⟨body, hexec, hbody⟩ := popMem_eq ho hm
  rw [← openMem_length ho, ← List.length_map u.byte] at h
  exact raises_of_perform hexec ha (hbody.trans (memStore_fails h))

end

end

section
variable {os : Sz} {s u : State} {e : Exc} (ha : Accepts s false)
include ha

theorem popf_raises_iopl (h : ¬ FlagsAllowed s) : exec (.popf os) s = takeFault (excGP 0#16) s :=
  performKeepingRF_raises ha (bind_raises (requireIopl_fails (s := begun s) h))

/-- An element that fails its checks: its exception is taken, whatever the pop was for. -/
theorem pops_raise (h : FailsMem (begun s) .ss s.sp os.bytes false e u) :
    (∀ r, Raises (.popR os r) s u e) ∧ (∀ m, Raises (.popMem os m) s u e) ∧
      (FlagsAllowed s → Raises (.popf os) s u e) := by
  have hpop : pop os (begun s) = .error (.exc e u false) := pop_fails h
  exact ⟨fun r => raises_of_perform rfl ha (bind_error hpop), fun m => raises_of_perform rfl ha (bind_error hpop),
    fun hok => raises_of_takeException <| performKeepingRF_exc (lock_eq_false_of_accepts ha) ha.2 <|
      (bind_passes (requireIopl_passes (s := begun s) hok)).trans (bind_error hpop)⟩

end

/-! ## POPA -/

/-- The state once POPA has the bytes `bs`: every register but (E)SP takes its element. -/
def popaRestored (os : Sz) (bs : List Byte) (u : State) : State :=
  let e := element os bs
  (((((((raised u (8 * os.bytes)).setReg os.width .di (e 0)).setReg os.width .si (e 1)).setReg os.width .bp
    (e 2)).setReg os.width .bx (e 4)).setReg os.width .dx (e 5)).setReg os.width .cx (e 6)).setReg os.width .ax (e 7)

/-- A register takes an element of a frame at the element's own width. -/
theorem writeRegSz_frameElem (os : Sz) (r : Reg) (bs : List Byte) (k : Nat) (u : State) :
    writeRegSz os r (frameElem os bs k) u = .ok ((), u.setReg os.width r (element os bs k)) := by
  rw [writeRegSz_run, frameElem_eq, BitVec.setWidth_setWidth_of_le _ (bits_le_dword os), BitVec.setWidth_eq]

theorem popAllRegs_run {os : Sz} {b u : State} {as : List Nat} (h : OpensMem b .ss b.sp (8 * os.bytes) false as u) :
    popAllRegs os b = .ok ((), popaRestored os (as.map u.byte) u) := by
  simp only [popAllRegs, M.bind_run, M.get_run, memBytes_opened h, addStackPtr_run, writeRegSz_frameElem]
  rfl

theorem popAllRegs_raises {os : Sz} {b u : State} {e : Exc} (h : FailsMem b .ss b.sp (8 * os.bytes) false e u) :
    popAllRegs os b = .error (.exc e u false) := (bind_passes (M.get_run b)).trans (bind_error (memBytes_fails h))

/-- Settles O18: every form reads its elements at the top and then moves the stack pointer; POP to memory then finds and checks
its destination, and POPF first tests IOPL. -/
theorem pops : Obligations.Pops := by
  unfold Obligations.Pops
  refine fun os s as u ha => ⟨popf_raises_iopl ha, fun ho => ⟨popR_completes ha ho, fun hok => ?_,
    fun m seg off v as' u' hm ho' => ⟨popMem_completes ha ho hm ho', found_of_opensMem ho⟩,
    fun m seg off v e u' hm hf => popMem_raises ha ho hm hf⟩, fun e u' hf => pops_raise ha hf, fun e u' hf => ?_, fun ho => ?_⟩
  · exact ⟨popf_completes ha ho hok, found_of_opensMem ho⟩
  · exact raises_of_perform rfl ha (popAllRegs_raises (b := begun s) hf)
  · exact completes_of_perform rfl ha (popAllRegs_run (b := begun s) ho) (fun a _ => byte_raised u (8 * os.bytes) a)
      (found_of_opensMem ho)

end Sys2Proof.Machine
end

section
/-! PROOFS. ROL, ROR, RCL, RCR, SAL, SHR and SAR (47_r.md R410 to R414, 48_s.md R441 to R444). -/

namespace Sys2Proof.Machine

open Sys2Proof.Claims

/-! ## Rotations -/

section
variable {n : Nat}

/-- A rotation to the right reads `c` bits further up, round the end. -/
theorem getLsbD_rotateRight_mod (x : BitVec n) (c : Nat) {i : Nat} (hi : i < n) :
    (x.rotateRight c).getLsbD i = x.getLsbD ((c + i) % n) := by
  have hc : c % n < n := Nat.mod_lt _ (by omega)
  rw [BitVec.getLsbD_rotateRight, ← Nat.mod_add_mod c n i]
  by_cases h : i < n - c % n
  · rw [Nat.mod_eq_of_lt (a := c % n + i) (by omega), decide_eq_true h, cond_true]
  · rw [Nat.mod_eq_sub_mod (a := c % n + i) (by omega), Nat.mod_eq_of_lt (a := c % n + i - n) (by omega),
      decide_eq_false h, decide_eq_true hi, cond_false, Bool.true_and]
    congr 1
    omega

theorem rotateLeft_rotateLeft (x : BitVec n) (c d : Nat) : (x.rotateLeft c).rotateLeft d = x.rotateLeft (c + d) := by
  refine BitVec.eq_of_getMsbD_eq fun i hi => ?_
  have hlt : (d + i) % n < n := Nat.mod_lt _ (by omega)
  simp only [BitVec.getMsbD_rotateLeft, decide_eq_true hi, decide_eq_true hlt, Bool.true_and, Nat.add_mod_mod, Nat.add_assoc]

theorem rotateRight_rotateRight (x : BitVec n) (c d : Nat) :
    (x.rotateRight c).rotateRight d = x.rotateRight (c + d) := by
  refine BitVec.eq_of_getLsbD_eq fun i hi => ?_
  have hlt : (d + i) % n < n := Nat.mod_lt _ (by omega)
  rw [getLsbD_rotateRight_mod _ _ hi, getLsbD_rotateRight_mod _ _ hlt, getLsbD_rotateRight_mod _ _ hi, Nat.add_mod_mod,
    Nat.add_assoc]

theorem rotateLeft_zero (x : BitVec n) : x.rotateLeft 0 = x := by
  rw [BitVec.rotateLeft_def, Nat.zero_mod, Nat.sub_zero, BitVec.shiftLeft_zero,
    BitVec.ushiftRight_eq_zero (Nat.le_refl n), BitVec.or_zero]

theorem rotateRight_zero (x : BitVec n) : x.rotateRight 0 = x := by
  rw [BitVec.rotateRight_def, Nat.zero_mod, Nat.sub_zero, BitVec.ushiftRight_zero,
    BitVec.shiftLeft_eq_zero (Nat.le_refl n), BitVec.or_zero]

theorem rotateLeft_one (hn : 1 < n) (x : BitVec n) :
    x.rotateLeft 1 = x <<< 1 ||| (BitVec.ofBool x.msb).setWidth n := by
  have htop : x >>> (n - 1) = (BitVec.ofBool x.msb).setWidth n := by
    refine BitVec.eq_of_getLsbD_eq fun i hi => ?_
    rw [BitVec.getLsbD_ushiftRight, BitVec.getLsbD_setWidth, BitVec.getLsbD_ofBool, BitVec.msb_eq_getLsbD_last,
      decide_eq_true hi, Bool.true_and]
    rcases i with _ | i
    · simp
    · simp [BitVec.getLsbD_of_ge x (n - 1 + (i + 1)) (by omega)]
  rw [BitVec.rotateLeft_def, Nat.mod_eq_of_lt hn, htop]

theorem rotateRight_one (hn : 1 < n) (x : BitVec n) :
    x.rotateRight 1 = x >>> 1 ||| (BitVec.ofBool (x.getLsbD 0)).setWidth n <<< (n - 1) := by
  have hbottom : x <<< (n - 1) = (BitVec.ofBool (x.getLsbD 0)).setWidth n <<< (n - 1) := by
    refine BitVec.eq_of_getLsbD_eq fun i hi => ?_
    simp only [BitVec.getLsbD_shiftLeft, BitVec.getLsbD_setWidth, BitVec.getLsbD_ofBool]
    by_cases h : i < n - 1
    · simp [h]
    · obtain rfl : i = n - 1 := by omega
      simp
  rw [BitVec.rotateRight_def, Nat.mod_eq_of_lt hn, hbottom]

/-- One round of RCL rotates the operand and CF together, as n + 1 bits. -/
theorem withCarry_rclStep (hn : 0 < n) (x : BitVec n) (cf : Bool) :
    withCarry (x <<< 1 ||| (BitVec.ofBool cf).setWidth n) x.msb = (withCarry x cf).rotateLeft 1 := by
  rw [rotateLeft_one (by omega)]
  refine BitVec.eq_of_getLsbD_eq fun i hi => ?_
  simp only [withCarry, BitVec.getLsbD_cons, BitVec.getLsbD_or, BitVec.getLsbD_shiftLeft,
    BitVec.getLsbD_setWidth, BitVec.getLsbD_ofBool, BitVec.msb_eq_getLsbD_last]
  grind

/-- One round of RCR likewise. -/
theorem withCarry_rcrStep (hn : 0 < n) (x : BitVec n) (cf : Bool) :
    withCarry (x >>> 1 ||| (BitVec.ofBool cf).setWidth n <<< (n - 1)) (x.getLsbD 0) = (withCarry x cf).rotateRight 1 := by
  obtain ⟨m, rfl⟩ : ∃ m, n = m + 1 := ⟨n - 1, by omega⟩
  rw [rotateRight_one (by omega)]
  refine BitVec.eq_of_getLsbD_eq fun i hi => ?_
  simp only [withCarry, BitVec.getLsbD_cons, BitVec.getLsbD_or, BitVec.getLsbD_shiftLeft, BitVec.getLsbD_ushiftRight,
    BitVec.getLsbD_setWidth, BitVec.getLsbD_ofBool, Nat.add_sub_cancel]
  obtain h | rfl | rfl : i < m ∨ i = m ∨ i = m + 1 := by omega
  · simp [h, show i < m + 1 by omega, show i ≠ m + 1 by omega, show 1 + i ≠ m + 1 by omega]
  · simp [show 1 + i = i + 1 by omega]
  · simp

/-! ## The loops of the model -/

theorem rolLoop_eq (hn : 1 < n) (c : Nat) (x : BitVec n) : rolLoop c x = x.rotateLeft c := by
  induction c generalizing x with
  | zero => exact (rotateLeft_zero x).symm
  | succ c ih => rw [rolLoop, ih, ← rotateLeft_one hn, rotateLeft_rotateLeft, Nat.add_comm]

theorem rorLoop_eq (hn : 1 < n) (c : Nat) (x : BitVec n) : rorLoop c x = x.rotateRight c := by
  induction c generalizing x with
  | zero => exact (rotateRight_zero x).symm
  | succ c ih => rw [rorLoop, ih, ← rotateRight_one hn, rotateRight_rotateRight, Nat.add_comm]

theorem withCarry_rclLoop (hn : 0 < n) (c : Nat) (x : BitVec n) (cf : Bool) :
    withCarry (rclLoop c x cf).1 (rclLoop c x cf).2 = (withCarry x cf).rotateLeft c := by
  induction c generalizing x cf with
  | zero => exact (rotateLeft_zero _).symm
  | succ c ih => rw [rclLoop, ih, withCarry_rclStep hn, rotateLeft_rotateLeft, Nat.add_comm 1 c]

theorem withCarry_rcrLoop (hn : 0 < n) (c : Nat) (x : BitVec n) (cf : Bool) :
    withCarry (rcrLoop c x cf).1 (rcrLoop c x cf).2 = (withCarry x cf).rotateRight c := by
  induction c generalizing x cf with
  | zero => exact (rotateRight_zero _).symm
  | succ c ih => rw [rcrLoop, ih, withCarry_rcrStep hn, rotateRight_rotateRight, Nat.add_comm 1 c]

/-! ## The result and the last bit out -/

theorem setWidth_withCarry (x : BitVec n) (cf : Bool) : (withCarry x cf).setWidth n = x := BitVec.setWidth_cons

theorem msb_withCarry (x : BitVec n) (cf : Bool) : (withCarry x cf).msb = cf := BitVec.msb_cons

theorem shiftResult_eq (hn : 1 < n) (op : ShiftOp) (c : Nat) (a : BitVec n) (cf : Bool) :
    shiftResult op c a cf = shiftValue op c a cf := by
  cases op with
  | rol => exact rolLoop_eq hn c a
  | ror => exact rorLoop_eq hn c a
  | rcl => rw [shiftValue, ← withCarry_rclLoop (by omega), setWidth_withCarry, shiftResult]
  | rcr => rw [shiftValue, ← withCarry_rcrLoop (by omega), setWidth_withCarry, shiftResult]
  | sal => rw [shiftValue, ← Nat.shiftLeft_eq]; rfl
  | shr =>
    refine BitVec.eq_of_toNat_eq ?_
    rw [shiftValue, BitVec.toNat_ofNat, Nat.mod_eq_of_lt (Nat.lt_of_le_of_lt (Nat.div_le_self _ _) a.isLt)]
    exact Nat.shiftRight_eq_div_pow ..
  | sar => rw [shiftValue, shiftResult, BitVec.sshiftRight, Int.shiftRight_eq_div_pow, Nat.cast_pow, Nat.cast_ofNat]

/-- A signed number is odd when its lowest bit is 1. -/
theorem toInt_odd (hn : 0 < n) (a : BitVec n) : decide (a.toInt % 2 = 1) = a.getLsbD 0 := by
  obtain ⟨m, rfl⟩ : ∃ m, n = m + 1 := ⟨n - 1, by omega⟩
  have hlow : a.getLsbD 0 = decide (a.toNat % 2 = 1) := Nat.testBit_zero _
  rw [hlow, BitVec.toInt_eq_toNat_cond, Nat.pow_succ]
  congr 1
  split <;> grind

/-- A bit of a signed number, below its width and from its width on. -/
theorem toInt_div_pow_mod_two (hn : 0 < n) (a : BitVec n) (k : Nat) :
    decide (a.toInt / 2 ^ k % 2 = 1) = if k < n then a.getLsbD k else a.msb := by
  have hbit : (a.sshiftRight k).getLsbD 0 = if k < n then a.getLsbD k else a.msb := by
    rw [BitVec.getLsbD_sshiftRight, decide_eq_false (by omega), Bool.not_false, Bool.true_and, Nat.add_zero]
  have hquot : (a.sshiftRight k).toInt = a.toInt / 2 ^ k := by
    rw [BitVec.toInt_sshiftRight, Int.shiftRight_eq_div_pow, Nat.cast_pow, Nat.cast_ofNat]
  rw [← hbit, ← hquot, toInt_odd hn]

theorem shiftCarry_eq (hn : 1 < n) (op : ShiftOp) (c : Nat) (a : BitVec n) (cf : Bool) :
    shiftCarry op c a cf = shiftOut op c a cf := by
  cases op with
  | rol => rw [shiftCarry, rolLoop_eq hn, shiftOut, shiftValue]
  | ror => rw [shiftCarry, rorLoop_eq hn, shiftOut, shiftValue]
  | rcl => rw [shiftOut, ← withCarry_rclLoop (by omega), msb_withCarry, shiftCarry]
  | rcr => rw [shiftOut, ← withCarry_rcrLoop (by omega), msb_withCarry, shiftCarry]
  | sal =>
    rw [shiftCarry, shiftOut, ← Nat.shiftLeft_eq, Nat.testBit_shiftLeft, BitVec.testBit_toNat]
    split
    · simp [*]
    · simp [*]
  | shr =>
    rw [shiftCarry, shiftOut, ← Nat.testBit_eq_decide_div_mod_eq, BitVec.testBit_toNat]
    split
    · rfl
    · exact (BitVec.getLsbD_of_ge a _ (by omega)).symm
  | sar =>
    have hlt : c ≤ n ↔ c - 1 < n := by omega
    rw [shiftOut, toInt_div_pow_mod_two (by omega), shiftCarry]
    simp only [hlt]

theorem shiftFlags_eq (hn : 1 < n) (op : ShiftOp) (c : Nat) (a : BitVec n) (uo ua : Bool) (f : Flags) :
    shiftFlags op c a uo ua f = shiftedFlags op c a uo ua f := by
  unfold shiftFlags shiftedFlags
  rw [shiftResult_eq hn, shiftCarry_eq hn]
  cases op <;> rfl

theorem shiftBits_run (hn : 1 < n) (op : ShiftOp) (c : Nat) (a : BitVec n) (u : State) :
    shiftBits op c a u = .ok (shiftValue op c a u.flags.cf,
      withFlags u 1 (shiftedFlags op c a ((free u 0 2).getLsbD 0) ((free u 0 2).getLsbD 1) u.flags)) := by
  rw [← shiftResult_eq hn, ← shiftFlags_eq hn]
  rfl

end

/-! ## The forms -/

theorem shiftCount_eq (count : Byte) : shiftCount count = count.toNat % 32 :=
  (BitVec.toNat_and ..).trans (Nat.and_two_pow_sub_one_eq_mod count.toNat 5)

theorem one_lt_bits (w : Width) : 1 < w.bits := by cases w <;> decide

theorem updateRm_shiftBits {b u : State} {w : Width} {op : ShiftOp} {rm : Rm} {p : Place} (h : Opens b w rm true p u) (c : Nat) :
    updateRm w rm (shiftBits op c) b = .ok ((), shiftEffect w op c p u) :=
  (bind_completes h).trans <| (bind_passes (readPlace_run w p u)).trans <|
    (bind_completes (shiftBits_run (one_lt_bits w) op c _ u)).trans (writePlace_run ..)

/-- A form whose operation updates the operand by its count. -/
theorem shifts_of_perform {i : Instr} {w : Width} {op : ShiftOp} {rm : Rm} {count : State → Byte} {m : M Unit}
    (hi : ∀ s, exec i s = perform s false m)
    (hm : ∀ s, m (begun s) = updateRm w rm (shiftBits op (shiftCount (count s))) (begun s)) : Shifts i w op rm count := by
  intro s p u ha ho
  refine completes_of_perform (hi s) ha ?_ (fun _ hn => byte_put_other _ hn) (found_of_opens ho)
  rw [hm, updateRm_shiftBits ho, shiftCount_eq]

theorem shiftRm_shifts {i : Instr} {w : Width} {op : ShiftOp} {rm : Rm} {count : Byte}
    (hi : ∀ s, exec i s = shiftRm s w op rm count) : Shifts i w op rm (fun _ => count) :=
  shifts_of_perform hi fun _ => rfl

theorem shiftRmCl_shifts {i : Instr} {w : Width} {op : ShiftOp} {rm : Rm} (hi : ∀ s, exec i s = shiftRmCl s w op rm) :
    Shifts i w op rm (fun s => s.reg .b8 .cx) :=
  shifts_of_perform hi fun _ => rfl

/-- Settles O8: each round of the model's loops is a rotation by 1, and every form updates its operand by one count. -/
theorem shiftsAndRotates : Obligations.ShiftsAndRotates := by
  unfold Obligations.ShiftsAndRotates
  intro op os rm b
  refine ⟨shiftRm_shifts fun s => ?_, shiftRmCl_shifts fun s => ?_, shiftRm_shifts fun s => ?_, shiftRm_shifts fun s => ?_,
    shiftRmCl_shifts fun s => ?_, shiftRm_shifts fun s => ?_⟩
  all_goals cases op <;> rfl

end Sys2Proof.Machine
end

section
/-! PROOFS. The repetition of string instructions (47_r.md R420, 60_exceptions.md R520, R545, 10_state.md R38). -/

namespace Sys2Proof.Machine

open Sys2Proof.Claims

/-! ## The count -/

theorem cx_stepped (as : Sz) (w : Width) {r : Reg} (h : .cx ≠ r) (u : State) :
    (stepped as w r u).reg as.width .cx = u.reg as.width .cx :=
  reg_setReg_other u as.width as _ (by rwa [homeOf_width])

theorem cx_stepped_si (as : Sz) (w : Width) (u : State) : (stepped as w .si u).reg as.width .cx = u.reg as.width .cx :=
  cx_stepped as w (by decide) u

theorem cx_stepped_di (as : Sz) (w : Width) (u : State) : (stepped as w .di u).reg as.width .cx = u.reg as.width .cx :=
  cx_stepped as w (by decide) u

theorem cx_setReg_ax (as : Sz) (w : Width) (v : BitVec w.bits) (u : State) :
    (u.setReg w .ax v).reg as.width .cx = u.reg as.width .cx :=
  reg_setReg_other u w as v (by cases w <;> decide)

section
variable {op : StrOp} {as : Sz} {w : Width} {b u t : State} {stored : List Nat}

/-- One operation moves index registers, the accumulator and memory, and so leaves the count. -/
theorem cx_operates (h : Operates op as w b u t stored) : t.reg as.width .cx = b.reg as.width .cx := by
  rw [← reg_of_found (found_of_operates h) as.width .cx]
  cases op with
  | movs =>
    obtain ⟨src, v, -, -, rfl⟩ := h
    rw [cx_stepped_di, cx_stepped_si, setBytes_reg]
  | cmps =>
    obtain ⟨src, v, dst, -, -, -, rfl⟩ := h
    rw [cx_stepped_di, cx_stepped_si]
    rfl
  | scas =>
    obtain ⟨dst, -, -, rfl⟩ := h
    rw [cx_stepped_di]
    rfl
  | lods =>
    obtain ⟨src, -, -, rfl⟩ := h
    rw [cx_stepped_si, cx_setReg_ax]
  | stos =>
    obtain ⟨-, rfl⟩ := h
    rw [cx_stepped_di, setBytes_reg]
  | ins =>
    obtain ⟨-, -, rfl⟩ := h
    rw [cx_stepped_di, setBytes_reg]
    rfl
  | outs =>
    obtain ⟨src, -, -, -, rfl⟩ := h
    rw [cx_stepped_si]
    rfl

end

/-- The count is compared and taken down at 32 bits, and cut to the address size. -/
theorem setWidth_eq_one_iff (as : Sz) (c : BitVec as.width.bits) : c.setWidth 32 = 1#32 ↔ c = 1#_ := by
  cases as <;> simp only [Sz.width, Width.bits] at c ⊢ <;> bv_omega

theorem setReg_cx_counted_cut (as : Sz) (u : State) :
    u.setReg as.width .cx (((u.reg as.width .cx).setWidth 32 - 1#32).setWidth _) = counted as u := by
  refine congrArg (u.setReg as.width .cx) ?_
  cases as <;> simp only [Sz.width, Width.bits] <;> bv_omega

/-! ## One iteration -/

/-- The instruction is over after an operation from `b` to `t`: that was the last one, or ZF ends CMPS or SCAS. -/
def Ends (r : Rep) (scan : Bool) (as : Sz) (b t : State) : Prop :=
  b.reg as.width .cx = 1#_ ∨ (scan = true ∧ t.flags.zf = decide (r = .repne))

theorem ends_iff (r : Rep) (scan : Bool) (as : Sz) (b t : State) :
    ((scan = true ∧ t.flags.zf ≠ (r == .repe)) ∨ (b.reg as.width .cx).setWidth 32 = 1#32) ↔ Ends r scan as b t := by
  have hzf : t.flags.zf ≠ (r == .repe) ↔ t.flags.zf = decide (r = .repne) := by
    cases r <;> cases t.flags.zf <;> decide
  rw [hzf, setWidth_eq_one_iff, or_comm, Ends]

section
variable {pc : Dword} {r : Rep} {scan : Bool} {as : Sz} {m : M Unit} {b t : State}

theorem repeatOnce_zero (hc : b.reg as.width .cx = 0#_) : repeatOnce pc r scan as m b = .ok ((), b) :=
  (bind_passes (readRegSz_run as .cx b)).trans (congrFun (if_pos ((setWidth_eq_zero_iff as _).2 hc)) b)

/-- With a count the operation is performed and the count drops, and only then is it known whether the instruction is over. -/
theorem repeatOnce_counted (hc : b.reg as.width .cx ≠ 0#_) (hm : m b = .ok ((), t))
    (ht : t.reg as.width .cx = b.reg as.width .cx) :
    repeatOnce pc r scan as m b =
      (if (scan = true ∧ t.flags.zf ≠ (r == .repe)) ∨ (b.reg as.width .cx).setWidth 32 = 1#32 then pure ()
        else modify fun s => { s with eip := pc } : M Unit) (counted as t) := by
  rw [← setReg_cx_counted_cut, ht]
  exact (bind_passes (readRegSz_run as .cx b)).trans <|
    (congrFun (if_neg (mt (setWidth_eq_zero_iff as _).1 hc)) b).trans <| (bind_completes hm).trans <|
    (bind_completes (writeRegSz_run ..)).trans (bind_passes (getFlags_run _))

theorem repeatOnce_ends (hc : b.reg as.width .cx ≠ 0#_) (hm : m b = .ok ((), t))
    (ht : t.reg as.width .cx = b.reg as.width .cx) (he : Ends r scan as b t) :
    repeatOnce pc r scan as m b = .ok ((), counted as t) :=
  (repeatOnce_counted hc hm ht).trans (congrFun (if_pos ((ends_iff ..).2 he)) _)

theorem repeatOnce_goes_back (hc : b.reg as.width .cx ≠ 0#_) (hm : m b = .ok ((), t))
    (ht : t.reg as.width .cx = b.reg as.width .cx) (he : ¬ Ends r scan as b t) :
    repeatOnce pc r scan as m b = .ok ((), { counted as t with eip := pc }) :=
  (repeatOnce_counted hc hm ht).trans (congrFun (if_neg (mt (ends_iff ..).1 he)) _)

end

/-! ## The instructions -/

/-- A repeated string instruction is one iteration. -/
theorem repeated_completes {i : Instr} {s u t : State} {scan : Bool} {as : Sz} {m : M Unit} {r : Rep} {stored : List Nat}
    (hi : exec i s = performString s scan as m) (hl : s.pfx.lock = false) (hr : s.pfx.rep = some r)
    (hs : r = .repe ∨ scan = true) (hm : repeatOnce s.eip r scan as m (begun s) = .ok ((), t))
    (hb : ∀ a, a ∉ stored → t.byte a = u.byte a) (hf : Found (begun s) u) : Completes i s u t stored := by
  have hlock : require (!s.pfx.lock) excUD (begun s) = .ok ((), begun s) := by rw [hl]; rfl
  have hrep : require (scan || r == .repe) excUD (begun s) = .ok ((), begun s) := by
    rcases hs with rfl | rfl <;> simp
  refine ⟨?_, hb, hf⟩
  rw [hi, performString, hr]
  exact runM_ok <| (bind_passes hlock).trans <| (bind_passes hrep).trans <| (bind_completes hm).trans (clearRF_run t)

/-- Settles O30: an iteration is one operation, which leaves the count for the instruction to take down. -/
theorem stringRepetition : Obligations.StringRepetition := by
  unfold Obligations.StringRepetition
  intro op os as s r hl hr hs w i hw
  have hi : exec i s = performString s (scans op) as (stringOp op as w) := by
    rcases hw with ⟨rfl, rfl⟩ | ⟨rfl, rfl⟩
    · exact exec_strByte op as s
    · exact exec_strWord op os as s
  refine ⟨fun hc => repeated_completes hi hl hr hs (repeatOnce_zero hc) (fun _ _ => rfl) (found_refl _),
    fun u t stored hc h => ⟨fun he => ?_, fun he => ?_⟩⟩
  · exact repeated_completes hi hl hr hs (repeatOnce_ends hc (stringOp_run h) (cx_operates h) he)
      (fun _ hn => byte_operates_other h hn) (found_of_operates h)
  · exact repeated_completes hi hl hr hs (repeatOnce_goes_back hc (stringOp_run h) (cx_operates h) he)
      (fun _ hn => byte_operates_other h hn) (found_of_operates h)

end Sys2Proof.Machine
end

section
/-! PROOFS. What only privileged instructions write (60_exceptions.md R551): every operation of the processor but theirs spares it,
task switches and deliveries among them. -/

namespace Sys2Proof.Machine

open Sys2Proof.Claims

/-! ## The system registers -/

/-- The registers that only privileged instructions write, CR0 and DR7 aside, which a task switch changes too, and DR6, which the
single-step trap does. -/
@[simp] def State.tables (s : State) : TableReg × TableReg × Dword × Dword × Dword × Dword × Dword × Dword :=
  (s.gdtr, s.idtr, s.dr0, s.dr1, s.dr2, s.dr3, s.tr6, s.tr7)

/-- From `s` to `t` at most a task switch changes the system registers: TS is set, the local breakpoint enables are cleared. -/
structure Spared (s t : State) : Prop where
  tables : t.tables = s.tables
  dr6 : t.dr6 = s.dr6
  cr0 : t.cr0 = s.cr0 ∨ t.cr0 = { s.cr0 with ts := true }
  dr7 : t.dr7 = s.dr7 ∨ t.dr7 = s.dr7 &&& 0xFFFFFFAA#32

theorem Spared.refl (s : State) : Spared s s := ⟨rfl, rfl, .inl rfl, .inl rfl⟩

theorem Spared.trans {s t u : State} (h : Spared s t) (h' : Spared t u) : Spared s u where
  tables := h'.tables.trans h.tables
  dr6 := h'.dr6.trans h.dr6
  cr0 := by rcases h.cr0 with e | e <;> rcases h'.cr0 with e' | e' <;> simp [e, e']
  dr7 := by rcases h.dr7 with e | e <;> rcases h'.dr7 with e' | e' <;> simp [e, e', BitVec.and_assoc]

/-- Every system register unchanged. -/
theorem spared_of_same {s t : State} (h : t.tables = s.tables ∧ t.dr6 = s.dr6 ∧ t.cr0 = s.cr0 ∧ t.dr7 = s.dr7) :
    Spared s t := ⟨h.1, h.2.1, .inl h.2.2.1, .inl h.2.2.2⟩

theorem Touches.spared {s t : State} (h : Touches s t) : Spared s t := by
  rw [show t = { s with mem := t.mem, tlb := t.tlb, draws := t.draws, cr2 := t.cr2 } from h]
  exact spared_of_same ⟨rfl, rfl, rfl, rfl⟩

/-! ## Operations that spare them -/

/-- The operation spares the system registers where it starts from `s`, whether it completes or raises an exception. -/
def SparesAt {α : Type} (m : M α) (s : State) : Prop :=
  match m s with
  | .ok (_, t) => Spared s t
  | .error (.exc _ st _) => Spared s st
  | .error (.refuse _) => True

/-- It does wherever it starts. -/
def Spares {α : Type} (m : M α) : Prop := ∀ s, SparesAt m s

section
variable {α β : Type} {m n : M α} {s t : State}

theorem sparesAt_exc {e : Exc} {c : Bool} (h : m s = .error (.exc e t c)) (hs : Spared s t) : SparesAt m s := by
  simpa [SparesAt, h] using hs

@[simp] theorem pure_spares (a : α) : Spares (pure a : M α) := Spared.refl
@[simp] theorem get_spares : Spares (get : M State) := Spared.refl
@[simp] theorem raise_spares (e : Exc) : Spares (raise e : M α) := Spared.refl
@[simp] theorem refuse_spares (r : Refusal) : Spares (refuse r : M α) := fun _ => trivial

theorem refuse_bind_spares (r : Refusal) (f : α → M β) : Spares (refuse r >>= f) := fun _ => trivial

theorem bind_sparesAt {f : α → M β} (hm : SparesAt m s) (hf : ∀ a, Spares (f a)) : SparesAt (m >>= f) s := by
  unfold SparesAt at hm ⊢
  rw [M.bind_run]
  rcases hms : m s with (⟨e, st, c⟩ | r) | ⟨a, t⟩ <;> simp only [hms] at hm ⊢
  · exact hm
  · have h := hf a t
    unfold SparesAt at h
    rcases hft : f a t with (⟨e, st, c⟩ | r) | ⟨b, u⟩ <;> simp only [hft] at h ⊢ <;> exact hm.trans h

@[simp] theorem bind_spares {f : α → M β} (hm : Spares m) (hf : ∀ a, Spares (f a)) : Spares (m >>= f) :=
  fun s => bind_sparesAt (hm s) hf

theorem get_bind_spares {f : State → M β} (h : ∀ s, SparesAt (f s) s) : Spares (get >>= f) := h

@[simp] theorem map_spares (f : α → β) (hm : Spares m) : Spares (f <$> m) := by
  rw [map_eq_pure_bind]
  exact bind_spares hm fun _ => pure_spares _

@[simp] theorem ite_spares {c : Prop} [Decidable c] (hm : Spares m) (hn : Spares n) : Spares (if c then m else n) := by
  split
  · exact hm
  · exact hn

/-- Two branches, then the rest that follows both. -/
theorem branch_spares {c : Prop} [Decidable c] {f : α → M β} (hm : Spares m) (hn : Spares n) (hf : ∀ a, Spares (f a)) :
    Spares (if c then m >>= f else n >>= f) := ite_spares (bind_spares hm hf) (bind_spares hn hf)

/-- An operation under a condition, then the rest. -/
theorem when_sparesAt {c : Prop} [Decidable c] {m : M Unit} {f : Unit → M β} (hm : SparesAt m s) (hf : ∀ a, Spares (f a)) :
    SparesAt (if c then m >>= f else f ()) s := by
  split
  · exact bind_sparesAt hm hf
  · exact hf () s

theorem when_spares {c : Prop} [Decidable c] {m : M Unit} {f : Unit → M β} (hm : Spares m) (hf : ∀ a, Spares (f a)) :
    Spares (if c then m >>= f else f ()) := fun s => when_sparesAt (hm s) hf

@[simp] theorem committed_spares (hm : Spares m) : Spares (committed m) := by
  intro s
  have h := hm s
  unfold SparesAt committed at *
  rcases hms : m s with (⟨e, st, c⟩ | r) | ⟨a, t⟩ <;> simp only [hms] at h ⊢ <;> exact h

/-- An operation made of memory accesses. -/
theorem Accesses.spares {post : α → Prop} (hm : Accesses post m) : Spares m := by
  intro s
  have h := hm s
  unfold SparesAt
  rcases hms : m s with (⟨e, st, c⟩ | r) | ⟨a, t⟩ <;> simp only [hms] at h ⊢
  · exact h.1.spared
  · exact h.1.spared

theorem modify_spares_of {f : State → State} (h : ∀ s, Spared s (f s)) : Spares (modify f : M PUnit) := h

/-- A change of other parts of the state. -/
@[simp] theorem modify_spares {f : State → State}
    (h : ∀ s, (f s).tables = s.tables ∧ (f s).dr6 = s.dr6 ∧ (f s).cr0 = s.cr0 ∧ (f s).dr7 = s.dr7) :
    Spares (modify f : M PUnit) := modify_spares_of fun s => spared_of_same (h s)

end

/-! ## Checks, registers, flags -/

@[simp] theorem require_spares (b : Bool) (e : Exc) : Spares (require b e) := by simp [require]
@[simp] theorem draw_spares (n : Nat) : Spares (draw n) := (draw_accesses n).spares
@[simp] theorem getFlags_spares : Spares getFlags := Spared.refl
@[simp] theorem modifyFlags_spares (f : Flags → Flags) : Spares (modifyFlags f) := fun _ => spared_of_same ⟨rfl, rfl, rfl, rfl⟩
@[simp] theorem undefStatus_spares (m : UndefMask) : Spares (undefStatus m) := by simp [undefStatus]
@[simp] theorem clearRF_spares : Spares clearRF := modifyFlags_spares _
@[simp] theorem readReg_spares (w : Width) (r : Reg) : Spares (readReg w r) := Spared.refl
@[simp] theorem readReg_b8_spares (r : Reg) : Spares (α := Byte) (readReg .b8 r) := readReg_spares .b8 r
@[simp] theorem readReg_b16_spares (r : Reg) : Spares (α := Word) (readReg .b16 r) := readReg_spares .b16 r
@[simp] theorem readReg_b32_spares (r : Reg) : Spares (α := Dword) (readReg .b32 r) := readReg_spares .b32 r
@[simp] theorem writeReg_spares (w : Width) (r : Reg) (v : BitVec w.bits) : Spares (writeReg w r v) :=
  fun _ => spared_of_same ⟨rfl, rfl, rfl, rfl⟩
@[simp] theorem readRegSz_spares (sz : Sz) (r : Reg) : Spares (readRegSz sz r) := Spared.refl
@[simp] theorem writeRegSz_spares (sz : Sz) (r : Reg) (v : Dword) : Spares (writeRegSz sz r v) :=
  fun _ => spared_of_same ⟨rfl, rfl, rfl, rfl⟩
@[simp] theorem checkPrefixes_spares (s : State) (l : Bool) : Spares (checkPrefixes s l) := by simp [checkPrefixes]
@[simp] theorem requireCpl0_spares : Spares requireCpl0 := by simp [requireCpl0]
@[simp] theorem requireProt_spares : Spares requireProt := by simp [requireProt]
@[simp] theorem requireIopl_spares : Spares requireIopl := by simp [requireIopl]
@[simp] theorem requireIo_spares : Spares requireIo := by simp [requireIo]

/-! ## Memory -/

@[simp] theorem translateAll_spares (lin : Dword) (wr user : Bool) (n : Nat) : Spares (translateAll lin wr user n) :=
  (translateAll_accesses _ _ _ _).spares
@[simp] theorem readPhys_spares (as : List Nat) : Spares (readPhys as) := (readPhys_accesses as).spares
@[simp] theorem writePhys_spares (as : List Nat) (bs : List Byte) : Spares (writePhys as bs) :=
  fun s => spared_of_same (t := s.setBytes as bs) (by simp)
@[simp] theorem linRead_spares (a : Dword) (n : Nat) : Spares (linRead a n) := (linRead_accesses a n).spares
@[simp] theorem linWrite_spares (a : Dword) (n : Nat) {k : Nat} (v : BitVec k) : Spares (linWrite a n v) :=
  (linWrite_accesses a n v).spares
@[simp] theorem linRead_word_spares (a : Dword) : Spares (α := Word) (linRead a 2) := linRead_spares a 2
@[simp] theorem linRead_dword_spares (a : Dword) : Spares (α := Dword) (linRead a 4) := linRead_spares a 4
@[simp] theorem linRead_descriptor_spares (a : Dword) : Spares (α := (BitVec 64)) (linRead a 8) := linRead_spares a 8
@[simp] theorem openMem_spares (r : Sreg) (off : Dword) (n : Nat) (wr : Bool) : Spares (openMem r off n wr) :=
  (openMem_accesses _ _ _ _).spares
@[simp] theorem memBytes_spares (r : Sreg) (off : Dword) (n : Nat) : Spares (memBytes r off n) := (memBytes_accesses _ _ _).spares
@[simp] theorem memParts_spares (r : Sreg) (off : Dword) (k n : Nat) : Spares (memParts r off k n) :=
  (memParts_accesses _ _ _ _).spares
@[simp] theorem memRead_spares (w : Width) (r : Sreg) (off : Dword) : Spares (memRead w r off) := by simp [memRead]
@[simp] theorem memRead_b8_spares (r : Sreg) (off : Dword) : Spares (α := Byte) (memRead .b8 r off) := memRead_spares .b8 r off
@[simp] theorem memStore_spares (r : Sreg) (off : Dword) (bs : List Byte) : Spares (memStore r off bs) :=
  (memStore_accesses _ _ _).spares

/-! ## The stack and control transfer -/

@[simp] theorem jumpTo_spares (off : Dword) : Spares (jumpTo off) := by simp [jumpTo]
@[simp] theorem checkCodeLimit_spares (c : SegReg) (t : Dword) : Spares (checkCodeLimit c t) := by simp [checkCodeLimit]
@[simp] theorem setStackPtr_spares (v : Dword) : Spares (setStackPtr v) := by simp [setStackPtr]
@[simp] theorem addStackPtr_spares (n : Nat) : Spares (addStackPtr n) := by simp [addStackPtr]
@[simp] theorem push_spares (sz : Sz) (v : Dword) : Spares (push sz v) := by simp [push]
@[simp] theorem pushAll_spares (sz : Sz) (vs : List Dword) : Spares (pushAll sz vs) := by
  induction vs with
  | nil => exact pure_spares ()
  | cons v vs ih => exact bind_spares (push_spares sz v) fun _ => ih
@[simp] theorem stackRead_spares (sz : Sz) (disp : Nat) : Spares (stackRead sz disp) := by simp [stackRead]
@[simp] theorem pop_spares (sz : Sz) : Spares (pop sz) := by simp [pop]
@[simp] theorem checkRoom_spares (g : SegReg) (size : Sz) (sp : Dword) (n k : Nat) : Spares (checkRoom g size sp n k) := by
  simp [checkRoom]
@[simp] theorem checkStackTop_spares (disp n : Nat) : Spares (checkStackTop disp n) := by simp [checkStackTop]
@[simp] theorem padSel_spares (sz : Sz) (sel : Word) : Spares (padSel sz sel) := by cases sz <;> simp [padSel]

/-! ## Descriptors and segment registers -/

@[simp] theorem readDescAt_spares (a : Dword) : Spares (readDescAt a) := by simp [readDescAt]
@[simp] theorem readDesc_spares (sel : Word) : Spares (readDesc sel) := by simp [readDesc]
@[simp] theorem fetchDesc_spares (sel : Word) (e : Exc) : Spares (fetchDesc sel e) := by simp [fetchDesc]
@[simp] theorem markAccessed_spares (sel : Word) (d : Desc) : Spares (markAccessed sel d) := by simp [markAccessed]
@[simp] theorem loadSeg_spares (r : Sreg) (sel : Word) (d : Desc) : Spares (loadSeg r sel d) := by simp [loadSeg]
@[simp] theorem loadRealSeg_spares (r : Sreg) (sel : Word) : Spares (loadRealSeg r sel) := by simp [loadRealSeg]
@[simp] theorem loadNull_spares (r : Sreg) (sel : Word) : Spares (loadNull r sel) := by simp [loadNull]
@[simp] theorem segLoad_spares (r : Sreg) (sel : Word) : Spares (segLoad r sel) := by
  unfold segLoad
  repeat' first | with_reducible refine bind_spares (by simp) fun _ => ?_ | with_reducible refine ite_spares ?_ ?_
  all_goals simp

/-! ## Task switches -/

@[simp] theorem tssStack_spares (level : BitVec 2) : Spares (tssStack level) := by
  unfold tssStack
  repeat' first | with_reducible refine bind_spares (by simp) fun _ => ?_ | with_reducible refine ite_spares ?_ ?_
  all_goals simp
@[simp] theorem setBusy_spares (sel : Word) (busy : Bool) : Spares (setBusy sel busy) := by
  unfold setBusy
  repeat with_reducible refine bind_spares (by simp) fun _ => ?_
  simp
@[simp] theorem saveFields_spares (base : Dword) (fs : List (Nat × Dword × Dword)) : Spares (saveFields base fs) := by
  induction fs with
  | nil => exact pure_spares ()
  | cons f fs ih => exact bind_spares (linWrite_spares _ _ _) fun _ => ih
@[simp] theorem saveTask_spares (f : Flags) (ret : Dword) : Spares (saveTask f ret) := by simp [saveTask]
@[simp] theorem readTask386_spares (base : Dword) : Spares (readTask386 base) := by
  unfold readTask386
  repeat with_reducible refine bind_spares (by simp) fun _ => ?_
  simp
@[simp] theorem readTask286_spares (base : Dword) : Spares (readTask286 base) := by
  unfold readTask286
  repeat with_reducible refine bind_spares (by simp) fun _ => ?_
  simp
@[simp] theorem loadTaskLdt_spares (sel : Word) : Spares (loadTaskLdt sel) := by
  unfold loadTaskLdt
  repeat' first | with_reducible refine bind_spares (by simp) fun _ => ?_ | with_reducible refine ite_spares ?_ ?_
  all_goals simp
@[simp] theorem loadTaskCs_spares (sel : Word) : Spares (loadTaskCs sel) := by
  unfold loadTaskCs
  repeat with_reducible refine bind_spares (by simp) fun _ => ?_
  simp
@[simp] theorem loadTaskSs_spares (sel : Word) : Spares (loadTaskSs sel) := by
  unfold loadTaskSs
  repeat with_reducible refine bind_spares (by simp) fun _ => ?_
  simp
@[simp] theorem loadTaskData_spares (r : Sreg) (sel : Word) : Spares (loadTaskData r sel) := by
  unfold loadTaskData
  repeat' first | with_reducible refine bind_spares (by simp) fun _ => ?_ | with_reducible refine ite_spares ?_ ?_
  all_goals simp
@[simp] theorem loadTaskSegs_spares (i : TaskImage) : Spares (loadTaskSegs i) := by
  unfold loadTaskSegs
  repeat' first | with_reducible refine bind_spares (by simp) fun _ => ?_ | with_reducible refine ite_spares ?_ ?_
  all_goals simp
@[simp] theorem fetchTss_spares (t : Word) (bad : Word → Exc) : Spares (fetchTss t bad) := by
  unfold fetchTss
  repeat with_reducible refine bind_spares (by simp) fun _ => ?_
  simp

/-- The commit point sets TS. -/
@[simp] theorem setTs_spares (g : SegReg) : Spares (modify fun s => { s with tr := g, cr0 := { s.cr0 with ts := true } }) :=
  modify_spares_of fun _ => ⟨rfl, rfl, .inr rfl, .inl rfl⟩

/-- The incoming task's registers: the local breakpoint enables are cleared. -/
@[simp] theorem withTask_spares (i : TaskImage) (nested : Bool) : Spares (modify fun s => s.withTask i nested) :=
  modify_spares_of fun _ => ⟨rfl, rfl, .inl rfl, .inr rfl⟩

/-- A task switch may load CR3, which is not among these registers. -/
@[simp] theorem enterTask_spares (k : SwitchKind) (t : Word) (td : Desc) : Spares (enterTask k t td) := by
  refine committed_spares <| bind_spares (setTs_spares _) fun _ => ?_
  refine branch_spares (readTask386_spares _) (readTask286_spares _) fun i => when_spares (refuse_spares _) fun _ => ?_
  refine get_bind_spares fun s => when_sparesAt (spared_of_same ⟨rfl, rfl, rfl, rfl⟩) fun _ => ?_
  refine bind_spares (withTask_spares _ _) fun _ => ?_
  repeat with_reducible refine bind_spares (by simp) fun _ => ?_
  exact loadTaskSegs_spares i

@[simp] theorem switchTasks_spares (k : SwitchKind) (t : Word) (td : Desc) (ret : Dword) : Spares (switchTasks k t td ret) := by
  refine bind_spares get_spares fun s => bind_spares (require_spares _ _) fun _ => ?_
  refine when_spares (setBusy_spares _ _) fun _ => bind_spares (saveTask_spares _ _) fun _ => ?_
  exact when_spares (linWrite_spares _ _ _) fun _ => when_spares (setBusy_spares _ _) fun _ => enterTask_spares k t td

/-! ## Delivery -/

@[simp] theorem imageFlags_spares (e : Event) : Spares (imageFlags e) := by
  refine bind_spares get_spares fun s => ?_
  cases e.rf <;> simp
@[simp] theorem deliverReal_spares (e : Event) : Spares (deliverReal e) := by
  unfold deliverReal
  repeat with_reducible refine bind_spares (by simp) fun _ => ?_
  simp
@[simp] theorem enterHandler_spares (cs : Word) (c : Desc) (cpl : BitVec 2) (off : Dword) : Spares (enterHandler cs c cpl off) := by
  simp [enterHandler]
@[simp] theorem deliverSame_spares (e : Event) (g : Desc) (cs : Word) (c : Desc) : Spares (deliverSame e g cs c) := by
  unfold deliverSame
  repeat with_reducible refine bind_spares (by simp) fun _ => ?_
  simp
@[simp] theorem innerStack_spares (level : BitVec 2) (null : Exc) : Spares (innerStack level null) := by
  unfold innerStack
  repeat with_reducible refine bind_spares (by simp) fun _ => ?_
  simp
@[simp] theorem enterStack_spares (nss : Word) (d : Desc) (nsp : Dword) (level : BitVec 2) : Spares (enterStack nss d nsp level) := by
  unfold enterStack
  repeat with_reducible refine bind_spares (by simp) fun _ => ?_
  simp
@[simp] theorem deliverInner_spares (e : Event) (g : Desc) (cs : Word) (c : Desc) : Spares (deliverInner e g cs c) := by
  unfold deliverInner
  repeat with_reducible refine bind_spares (by simp) fun _ => ?_
  simp
@[simp] theorem deliverFromV86_spares (e : Event) (g : Desc) (cs : Word) (c : Desc) : Spares (deliverFromV86 e g cs c) := by
  unfold deliverFromV86
  refine bind_spares get_spares fun s => bind_spares (require_spares _ _) fun _ => ?_
  cases g.gateSize with
  | s16 => exact refuse_bind_spares _ _
  | s32 =>
    refine bind_spares (innerStack_spares _ _) fun _ => ?_
    repeat with_reducible refine bind_spares (by simp) fun _ => ?_
    simp
@[simp] theorem deliverTask_spares (e : Event) (g : Desc) : Spares (deliverTask e g) := by
  unfold deliverTask
  refine bind_spares (fetchTss_spares _ _) fun td => bind_spares (switchTasks_spares _ _ _ _) fun _ => committed_spares ?_
  repeat with_reducible refine bind_spares (by simp) fun _ => ?_
  simp
@[simp] theorem deliverProt_spares (e : Event) : Spares (deliverProt e) := by
  unfold deliverProt
  repeat' first | with_reducible refine bind_spares (by simp) fun _ => ?_ | with_reducible refine ite_spares ?_ ?_
  all_goals simp

/-- One attempt to deliver an event. -/
theorem deliver_spares (e : Event) : Spares (deliver e) := by
  intro s
  have attempt : Spares (do
      modify fun s => { s with inhibit := .none, halted := false }
      if s.cr0.pe then deliverProt e
      else
        deliverReal e
        return false : M Bool) :=
    bind_spares (by simp) fun _ => ite_spares (deliverProt_spares e) (by simp)
  have h := attempt s
  unfold SparesAt deliver at *
  dsimp only
  split at h <;> simp_all

/-! ## Taking an exception -/

/-- Whatever next state an outcome gives has the system registers of `s`, spared. -/
def NextSpares (s : State) (o : Host.Outcome State Fault Refusal) : Prop := ∀ t, o = .next t → Spared s t

theorem nextSpares_next {s t : State} (h : Spared s t) : NextSpares s (.next t) := by
  rintro _ ⟨⟩
  exact h

theorem nextSpares_refused (s : State) (r : Refusal) : NextSpares s (.refused r) := by rintro _ ⟨⟩

theorem NextSpares.of_spared {s t : State} {o : Host.Outcome State Fault Refusal} (h : Spared s t) (ho : NextSpares t o) :
    NextSpares s o := fun u hu => h.trans (ho u hu)

theorem spared_settle {s t : State} (h : Spared s t) : Spared s (settle t) := h.trans (spared_of_same ⟨rfl, rfl, rfl, rfl⟩)

theorem spared_rollback {base st : State} (c : Bool) (h : Spared base st) : Spared base (rollback base st c) := by
  unfold rollback
  split
  · exact h
  · exact spared_of_same ⟨rfl, rfl, rfl, rfl⟩

theorem takeDoubleFault_spares (base : State) : NextSpares base (takeDoubleFault base) := by
  have hd := deliver_spares (excEvent excDF base) base
  unfold takeDoubleFault
  unfold SparesAt at hd
  split at hd <;> simp only [*]
  · exact nextSpares_next (spared_settle hd)
  · exact nextSpares_next (spared_settle ((spared_rollback _ hd).trans (spared_of_same ⟨rfl, rfl, rfl, rfl⟩)))
  · exact nextSpares_refused _ _

theorem takePageFault_spares (x : Exc) (base : State) : NextSpares base (takePageFault x base) := by
  have hd := deliver_spares (excEvent x base) base
  unfold takePageFault
  unfold SparesAt at hd
  split at hd <;> simp only [*]
  · exact nextSpares_next (spared_settle hd)
  · exact (takeDoubleFault_spares _).of_spared (spared_rollback _ hd)
  · exact nextSpares_refused _ _

theorem takeContributory_spares (x : Exc) (base : State) : NextSpares base (takeContributory x base) := by
  have hd := deliver_spares (excEvent x base) base
  unfold takeContributory
  unfold SparesAt at hd
  split at hd <;> simp only [*]
  · exact nextSpares_next (spared_settle hd)
  · split
    · exact (takePageFault_spares _ _).of_spared (spared_rollback _ hd)
    · exact (takeDoubleFault_spares _).of_spared (spared_rollback _ hd)
  · exact nextSpares_refused _ _

theorem takeFault_spares (x : Exc) (base : State) : NextSpares base (takeFault x base) := by
  have hd := deliver_spares (excEvent x base) base
  unfold takeFault
  unfold SparesAt at hd
  split
  · exact takePageFault_spares x base
  split
  · exact takeContributory_spares x base
  split
  · exact takeDoubleFault_spares base
  split at hd <;> simp only [*]
  · exact nextSpares_next (spared_settle hd)
  · split
    · exact (takePageFault_spares _ _).of_spared (spared_rollback _ hd)
    · exact (takeContributory_spares _ _).of_spared (spared_rollback _ hd)
  · exact nextSpares_refused _ _

theorem takeException_spares {base st : State} (x : Exc) (c : Bool) (h : Spared base st) :
    NextSpares base (takeException base x st c) := (takeFault_spares x _).of_spared (spared_rollback c h)

theorem takeInterrupt_spares (vector : Byte) (base : State) : NextSpares base (takeInterrupt vector base) := by
  have hd := deliver_spares
    { vector := vector, code := none, ret := base.eip, software := false, ext := true, rf := .zero } base
  unfold takeInterrupt
  unfold SparesAt at hd
  split at hd <;> simp only [*]
  · exact nextSpares_next (spared_settle hd)
  · exact takeException_spares _ _ hd
  · exact nextSpares_refused _ _

/-! ## Returns -/

@[simp] theorem iretReal_spares (sz : Sz) : Spares (iretReal sz) := by
  unfold iretReal
  repeat with_reducible refine bind_spares (by simp) fun _ => ?_
  simp
@[simp] theorem returnCs_spares (rcs : Word) (level : BitVec 2) : Spares (returnCs rcs level) := by
  unfold returnCs
  repeat with_reducible refine bind_spares (by simp) fun _ => ?_
  simp
@[simp] theorem returnSs_spares (rss : Word) (level : BitVec 2) : Spares (returnSs rss level) := by
  unfold returnSs
  repeat with_reducible refine bind_spares (by simp) fun _ => ?_
  simp
@[simp] theorem returnSp_spares (sz : Sz) (sp : Dword) : Spares (returnSp sz sp) := by
  refine bind_spares get_spares fun s => ?_
  cases sz <;> cases s.ssSize <;> simp

/-- A segment register changed under a condition. -/
theorem setSegIf_spares (c : State → Prop) [∀ s, Decidable (c s)] (r : Sreg) (v : State → SegReg) :
    Spares (modify fun s => if c s then s.setSeg r (v s) else s) := by
  refine modify_spares_of fun s => ?_
  split
  · exact spared_of_same (by simp)
  · exact Spared.refl s

@[simp] theorem invalidate_spares (bad : State → SegReg → Bool) (r : Sreg) : Spares (invalidate bad r) :=
  setSegIf_spares _ r _
@[simp] theorem clearInvalid_spares (r : Sreg) : Spares (clearInvalid r) := setSegIf_spares _ r _
@[simp] theorem iretProt_spares (sz : Sz) : Spares (iretProt sz) := by
  unfold iretProt
  repeat' first | with_reducible refine bind_spares (by simp) fun _ => ?_ | with_reducible refine ite_spares ?_ ?_
  all_goals simp
@[simp] theorem iretToV86_spares : Spares iretToV86 := by
  unfold iretToV86
  repeat with_reducible refine bind_spares (by simp) fun _ => ?_
  simp
@[simp] theorem iretTask_spares : Spares iretTask := by
  unfold iretTask
  repeat with_reducible refine bind_spares (by simp) fun _ => ?_
  simp
@[simp] theorem returnFromInterrupt_spares (sz : Sz) : Spares (returnFromInterrupt sz) := by
  have unblock (u : Unit) : Spares (modify fun s => { s with nmiBlocked := false } : M PUnit) := by simp
  refine bind_spares get_spares fun s => ?_
  refine ite_spares (bind_spares (iretReal_spares _) unblock) <| ite_spares (bind_spares (raise_spares _) unblock) ?_
  refine ite_spares (bind_spares iretTask_spares unblock) <| ite_spares ?_ (bind_spares (iretProt_spares _) unblock)
  refine bind_spares (checkStackTop_spares _ _) fun _ => bind_spares (stackRead_spares _ _) fun _ => ?_
  exact branch_spares iretToV86_spares (iretProt_spares _) unblock

/-! ## Far transfers and returns -/

@[simp] theorem pushReturn_spares (sz : Sz) : Spares (pushReturn sz) := by
  unfold pushReturn
  repeat with_reducible refine bind_spares (by simp) fun _ => ?_
  simp
@[simp] theorem farReal_spares (call : Bool) (os : Sz) (off : Dword) (sel : Word) : Spares (farReal call os off sel) :=
  bind_spares (require_spares _ _) fun _ => when_spares (pushReturn_spares _) fun _ => by simp
@[simp] theorem enterCode_spares (sel : Word) (d : Desc) (off : Dword) : Spares (enterCode sel d off) := by
  unfold enterCode
  repeat with_reducible refine bind_spares (by simp) fun _ => ?_
  simp
@[simp] theorem transferSame_spares (call : Bool) (sz : Sz) (off : Dword) (sel : Word) (d : Desc) :
    Spares (transferSame call sz off sel d) := by
  refine bind_spares get_spares fun s => bind_spares (require_spares _ _) fun _ => ?_
  refine when_spares (checkRoom_spares _ _ _ _ _) fun _ => bind_spares (checkCodeLimit_spares _ _) fun _ => ?_
  exact when_spares (pushReturn_spares _) fun _ => enterCode_spares _ _ _
@[simp] theorem farCode_spares (call : Bool) (os : Sz) (off : Dword) (sel : Word) (d : Desc) : Spares (farCode call os off sel d) := by
  unfold farCode
  repeat' first | with_reducible refine bind_spares (by simp) fun _ => ?_ | with_reducible refine ite_spares ?_ ?_
  all_goals simp
@[simp] theorem readParams_spares (sz : Sz) (n i : Nat) : Spares (readParams sz n i) := by
  induction n generalizing i with
  | zero => exact pure_spares _
  | succ n ih => exact bind_spares (stackRead_spares _ _) fun _ => bind_spares (ih _) fun _ => pure_spares _
@[simp] theorem callInner_spares (g : Desc) (cs : Word) (c : Desc) : Spares (callInner g cs c) := by
  unfold callInner
  repeat with_reducible refine bind_spares (by simp) fun _ => ?_
  simp
@[simp] theorem farGate_spares (call : Bool) (sel : Word) (g : Desc) : Spares (farGate call sel g) := by
  unfold farGate
  repeat' first | with_reducible refine bind_spares (by simp) fun _ => ?_ | with_reducible refine ite_spares ?_ ?_
  all_goals simp
@[simp] theorem farTask_spares (call : Bool) (sel : Word) (d : Desc) : Spares (farTask call sel d) := by
  unfold farTask
  repeat' first | with_reducible refine bind_spares (by simp) fun _ => ?_ | with_reducible refine ite_spares ?_ ?_
  all_goals simp
@[simp] theorem farProt_spares (call : Bool) (os : Sz) (off : Dword) (sel : Word) : Spares (farProt call os off sel) := by
  unfold farProt
  repeat' first | with_reducible refine bind_spares (by simp) fun _ => ?_ | with_reducible refine ite_spares ?_ ?_
  all_goals simp
@[simp] theorem farTransfer_spares (call : Bool) (os : Sz) (off : Dword) (sel : Word) : Spares (farTransfer call os off sel) := by
  unfold farTransfer
  repeat' first | with_reducible refine bind_spares (by simp) fun _ => ?_ | with_reducible refine ite_spares ?_ ?_
  all_goals simp
@[simp] theorem retReal_spares (os : Sz) (n : Word) : Spares (retReal os n) := by
  unfold retReal
  repeat with_reducible refine bind_spares (by simp) fun _ => ?_
  simp
@[simp] theorem retSame_spares (os : Sz) (n : Word) (rcs : Word) : Spares (retSame os n rcs) := by
  unfold retSame
  repeat with_reducible refine bind_spares (by simp) fun _ => ?_
  simp
@[simp] theorem retOuter_spares (os : Sz) (n : Word) (rcs : Word) : Spares (retOuter os n rcs) := by
  unfold retOuter
  repeat with_reducible refine bind_spares (by simp) fun _ => ?_
  simp
@[simp] theorem retProt_spares (os : Sz) (n : Word) : Spares (retProt os n) := by
  unfold retProt
  repeat' first | with_reducible refine bind_spares (by simp) fun _ => ?_ | with_reducible refine ite_spares ?_ ?_
  all_goals simp
@[simp] theorem softwareInterrupt_spares (vector : Byte) : Spares (softwareInterrupt vector) :=
  bind_spares get_spares fun _ => deliver_spares _

/-! ## Operands -/

@[simp] theorem effAddr_spares (m : Mem) : Spares (effAddr m) := (effAddr_accesses m).spares
@[simp] theorem resolve_spares (m : Mem) : Spares (resolve m) := (resolve_accesses m).spares
@[simp] theorem openRm_spares (w : Width) (rm : Rm) (wr : Bool) : Spares (openRm w rm wr) := (openRm_accesses w rm wr).spares
@[simp] theorem readPlace_spares (w : Width) (p : Place) : Spares (readPlace w p) := by cases p <;> simp [readPlace]
@[simp] theorem writePlace_spares (w : Width) (p : Place) (v : BitVec w.bits) : Spares (writePlace w p v) := by
  cases p <;> simp [writePlace]
@[simp] theorem readRm_spares (w : Width) (rm : Rm) : Spares (readRm w rm) := by simp [readRm]
@[simp] theorem readPlace_b8_spares (p : Place) : Spares (α := Byte) (readPlace .b8 p) := readPlace_spares .b8 p
@[simp] theorem readRm_b8_spares (rm : Rm) : Spares (α := Byte) (readRm .b8 rm) := readRm_spares .b8 rm
@[simp] theorem readRm_b16_spares (rm : Rm) : Spares (α := Word) (readRm .b16 rm) := readRm_spares .b16 rm
@[simp] theorem writeRm_spares (w : Width) (rm : Rm) (v : BitVec w.bits) : Spares (writeRm w rm v) := by simp [writeRm]
@[simp] theorem updateRm_spares (w : Width) (rm : Rm) {f : BitVec w.bits → M (BitVec w.bits)} (hf : ∀ a, Spares (f a)) :
    Spares (updateRm w rm f) :=
  bind_spares (openRm_spares _ _ _) fun _ => bind_spares (readPlace_spares _ _) fun a => bind_spares (hf a) fun _ =>
    writePlace_spares _ _ _
@[simp] theorem updateReg_spares (w : Width) (r : Reg) {f : BitVec w.bits → M (BitVec w.bits)} (hf : ∀ a, Spares (f a)) :
    Spares (updateReg w r f) :=
  bind_spares (readReg_spares _ _) fun a => bind_spares (hf a) fun _ => writeReg_spares _ _ _
@[simp] theorem requireMem_spares (rm : Rm) : Spares (requireMem rm) := by cases rm <;> simp [requireMem]
@[simp] theorem readSelector_spares (os : Sz) (rm : Rm) : Spares (readSelector os rm) := by simp [readSelector]
@[simp] theorem openMoffs_spares (w : Width) (o : Imm) (wr : Bool) : Spares (openMoffs w o wr) := by simp [openMoffs]
@[simp] theorem readPair_spares (m : Mem) (k n : Nat) : Spares (readPair m k n) := by simp [readPair]
@[simp] theorem readFar_spares (os : Sz) (rm : Rm) : Spares (readFar os rm) := by
  unfold readFar
  repeat with_reducible refine bind_spares (by simp) fun _ => ?_
  simp
@[simp] theorem stepIndex_spares (as : Sz) (w : Width) (r : Reg) : Spares (stepIndex as w r) := by simp [stepIndex]
@[simp] theorem openSource_spares (as : Sz) (w : Width) : Spares (openSource as w) := by
  unfold openSource
  repeat with_reducible refine bind_spares (by simp) fun _ => ?_
  simp
@[simp] theorem openDest_spares (as : Sz) (w : Width) (wr : Bool) : Spares (openDest as w wr) := by simp [openDest]

/-! ## Arithmetic and logic -/

@[simp] theorem alu_spares {n : Nat} (op : AluOp) (a b : BitVec n) : Spares (alu op a b) :=
  bind_spares getFlags_spares fun _ => branch_spares (draw_spares 1) (pure_spares _) fun _ => by simp
@[simp] theorem aluTo_spares (w : Width) (op : AluOp) (p : Place) (b : BitVec w.bits) : Spares (aluTo w op p b) := by
  unfold aluTo
  repeat with_reducible refine bind_spares (by simp) fun _ => ?_
  simp
@[simp] theorem incr_spares {n : Nat} (a : BitVec n) : Spares (incr a) := by simp [incr]
@[simp] theorem decr_spares {n : Nat} (a : BitVec n) : Spares (decr a) := by simp [decr]
@[simp] theorem negate_spares {n : Nat} (a : BitVec n) : Spares (negate a) := by simp [negate]
@[simp] theorem complement_spares {n : Nat} (a : BitVec n) : Spares (complement a) := by simp [complement]
@[simp] theorem testBits_spares {n : Nat} (a b : BitVec n) : Spares (testBits a b) := by simp [testBits]
@[simp] theorem readDouble_spares (w : Width) : Spares (readDouble w) := by
  cases w with
  | b8 => exact readReg_spares .b16 .ax
  | b16 => simp [readDouble]
  | b32 => simp [readDouble]
@[simp] theorem writePair_spares (w : Width) (hi lo : BitVec w.bits) : Spares (writePair w hi lo) := by
  cases w <;> simp [writePair]
@[simp] theorem mulFlags_spares (high : Bool) : Spares (mulFlags high) := by simp [mulFlags]
@[simp] theorem mulUnsigned_spares (w : Width) (b : BitVec w.bits) : Spares (mulUnsigned w b) := by
  unfold mulUnsigned
  repeat with_reducible refine bind_spares (by simp) fun _ => ?_
  simp
@[simp] theorem mulSigned_spares (w : Width) (b : BitVec w.bits) : Spares (mulSigned w b) := by
  unfold mulSigned
  repeat with_reducible refine bind_spares (by simp) fun _ => ?_
  simp
@[simp] theorem mulSignedTo_spares (w : Width) (r : Reg) (a b : BitVec w.bits) : Spares (mulSignedTo w r a b) := by
  simp [mulSignedTo]
@[simp] theorem divUnsigned_spares (w : Width) (v : BitVec w.bits) : Spares (divUnsigned w v) := by
  unfold divUnsigned
  repeat with_reducible refine bind_spares (by simp) fun _ => ?_
  simp
@[simp] theorem divSigned_spares (w : Width) (v : BitVec w.bits) : Spares (divSigned w v) := by
  unfold divSigned
  repeat with_reducible refine bind_spares (by simp) fun _ => ?_
  simp
@[simp] theorem asciiAdjust_spares (d h : Byte) : Spares (asciiAdjust d h) := by
  unfold asciiAdjust
  repeat' first | with_reducible refine bind_spares (by simp) fun _ => ?_ | with_reducible refine ite_spares ?_ ?_
  all_goals simp
@[simp] theorem decimalAdjust_spares (d h : Byte) : Spares (decimalAdjust d h) := by
  unfold decimalAdjust
  repeat with_reducible refine bind_spares (by simp) fun _ => ?_
  simp
@[simp] theorem asciiBeforeDivide_spares : Spares asciiBeforeDivide := by
  unfold asciiBeforeDivide
  repeat with_reducible refine bind_spares (by simp) fun _ => ?_
  simp
@[simp] theorem asciiAfterMultiply_spares : Spares asciiAfterMultiply := by
  unfold asciiAfterMultiply
  repeat with_reducible refine bind_spares (by simp) fun _ => ?_
  simp

/-! ## Bits, rotates and shifts -/

@[simp] theorem bitOn_spares (w : Width) (op : BitOp) (p : Place) (i : Nat) : Spares (bitOn w op p i) := by
  unfold bitOn
  repeat with_reducible refine bind_spares (by simp) fun _ => ?_
  simp
@[simp] theorem openBit_spares (w : Width) (rm : Rm) (o : BitVec w.bits) (wr : Bool) : Spares (openBit w rm o wr) := by
  cases rm <;> simp [openBit]
@[simp] theorem shiftBits_spares {n : Nat} (op : ShiftOp) (c : Nat) (a : BitVec n) : Spares (shiftBits op c a) := by
  unfold shiftBits
  repeat with_reducible refine bind_spares (by simp) fun _ => ?_
  simp
@[simp] theorem doubleShift_spares {n : Nat} (left : Bool) (c : Nat) (b a : BitVec n) : Spares (doubleShift left c b a) := by
  unfold doubleShift
  repeat' first | with_reducible refine bind_spares (by simp) fun _ => ?_ | with_reducible refine ite_spares ?_ ?_
  all_goals simp

/-! ## Near transfers -/

@[simp] theorem jumpNear_spares (os : Sz) (t : Dword) : Spares (jumpNear os t) := by simp [jumpNear]
@[simp] theorem jumpRelative_spares (os : Sz) (rel : Dword) : Spares (jumpRelative os rel) := by simp [jumpRelative]
@[simp] theorem callNear_spares (os : Sz) (t : Dword) : Spares (callNear os t) := by
  unfold callNear
  repeat with_reducible refine bind_spares (by simp) fun _ => ?_
  simp

/-! ## Data movement and ports -/

@[simp] theorem checkBounds_spares (os : Sz) (r : Reg) (rm : Rm) : Spares (checkBounds os r rm) := by
  unfold checkBounds
  repeat with_reducible refine bind_spares (by simp) fun _ => ?_
  simp
@[simp] theorem ioPermission_spares (port : Word) (n : Nat) : Spares (ioPermission port n) := by
  unfold ioPermission
  repeat' first | with_reducible refine bind_spares (by simp) fun _ => ?_ | with_reducible refine ite_spares ?_ ?_
  all_goals simp
@[simp] theorem checkPort_spares (port : Word) (w : Width) : Spares (checkPort port w) := by
  unfold checkPort
  repeat' first | with_reducible refine bind_spares (by simp) fun _ => ?_ | with_reducible refine ite_spares ?_ ?_
  all_goals simp
@[simp] theorem portIn_spares (w : Width) (port : Word) : Spares (portIn w port) := fun _ => spared_of_same ⟨rfl, rfl, rfl, rfl⟩
@[simp] theorem portOut_spares (w : Width) (port : Word) (v : BitVec w.bits) : Spares (portOut w port v) :=
  fun _ => spared_of_same ⟨rfl, rfl, rfl, rfl⟩
@[simp] theorem inPort_spares (w : Width) (port : Word) : Spares (inPort w port) := by simp [inPort]
@[simp] theorem outPort_spares (w : Width) (port : Word) : Spares (outPort w port) := by simp [outPort]

/-! ## Segment and table registers -/

@[simp] theorem storeSreg_spares (os : Sz) (rm : Rm) (f : BitVec 3) : Spares (storeSreg os rm f) := by
  refine bind_spares get_spares fun s => ?_
  split
  · exact raise_spares _
  · split <;> simp
@[simp] theorem moveSreg_spares (f : BitVec 3) (rm : Rm) : Spares (moveSreg f rm) := by
  unfold moveSreg
  split
  · exact raise_spares _
  · exact bind_spares (require_spares _ _) fun _ => bind_spares (readRm_spares _ _) fun _ =>
      bind_spares (segLoad_spares _ _) fun _ => by simp
@[simp] theorem storeTable_spares (os : Sz) (rm : Rm) (t : TableReg) : Spares (storeTable os rm t) := by simp [storeTable]
@[simp] theorem lookup_spares (sel : Word) : Spares (lookup sel) := by
  unfold lookup
  repeat' first | with_reducible refine bind_spares (by simp) fun _ => ?_ | with_reducible refine ite_spares ?_ ?_
  all_goals simp
@[simp] theorem setZero_spares (b : Bool) : Spares (setZero b) := modifyFlags_spares _
@[simp] theorem accessRights_spares (d : Desc) : Spares (accessRights d) := by simp [accessRights]
@[simp] theorem loadLdt_spares (sel : Word) : Spares (loadLdt sel) := by
  unfold loadLdt
  repeat' first | with_reducible refine bind_spares (by simp) fun _ => ?_ | with_reducible refine ite_spares ?_ ?_
  all_goals simp
@[simp] theorem loadTask_spares (sel : Word) : Spares (loadTask sel) := by
  unfold loadTask
  repeat with_reducible refine bind_spares (by simp) fun _ => ?_
  simp
@[simp] theorem adjustRpl_spares (rm : Rm) (src : Word) : Spares (adjustRpl rm src) := by
  have change : Spares (do
      let p ← openRm .b16 rm true
      let d ← readPlace .b16 p
      if decide (selRpl d < selRpl src) then writePlace .b16 p (withRpl d (selRpl src))
      setZero (decide (selRpl d < selRpl src)) : M Unit) :=
    bind_spares (openRm_spares _ _ _) fun _ => bind_spares (readPlace_spares _ _) fun _ =>
      when_spares (writePlace_spares _ _ _) fun _ => setZero_spares _
  intro s
  by_cases hc : isMem rm = true ∧ Config.arplChecksWrite = false
  · have h := readRm_spares .b16 rm s
    simp only [SparesAt, adjustRpl, if_pos hc] at h ⊢
    rcases hr : readRm .b16 rm s with (⟨e, st, c⟩ | r) | ⟨d, t⟩ <;> simp only [hr] at h ⊢
    · exact h
    · by_cases hl : decide (selRpl d < selRpl src) = true
      · simpa only [if_pos hl, SparesAt] using change s
      · simp only [if_neg hl]
        exact h.trans (setZero_spares false t)
  · simp only [SparesAt, adjustRpl, if_neg hc]
    exact change s

/-! ## The stack -/

@[simp] theorem popSegment_spares (os : Sz) (r : Sreg) : Spares (popSegment os r) := by
  unfold popSegment
  repeat with_reducible refine bind_spares (by simp) fun _ => ?_
  simp
@[simp] theorem openBelow_spares (sz : Sz) (n k : Nat) : Spares (openBelow sz n k) := (openBelow_accesses sz n k).spares

theorem spared_setElements (s : State) (sz : Sz) (ps : List (List Nat)) (vs : List Dword) : Spared s (s.setElements sz ps vs) := by
  induction ps generalizing s vs with
  | nil => exact Spared.refl s
  | cons p ps ih =>
    cases vs with
    | nil => exact Spared.refl s
    | cons v vs => exact (writePhys_spares p (leBytes sz.bytes v) s).trans (ih _ vs)

@[simp] theorem pushAllRegs_spares (os : Sz) : Spares (pushAllRegs os) :=
  bind_spares get_spares fun _ => bind_spares (openBelow_spares _ _ _) fun _ =>
    bind_spares (modify_spares_of fun t => spared_setElements t _ _ _) fun _ => setStackPtr_spares _
@[simp] theorem popAllRegs_spares (os : Sz) : Spares (popAllRegs os) := by
  unfold popAllRegs
  repeat with_reducible refine bind_spares (by simp) fun _ => ?_
  simp
@[simp] theorem copyDisplay_spares (os : Sz) (k : Nat) : Spares (copyDisplay os k) := by
  induction k with
  | zero => exact pure_spares ()
  | succ k ih =>
    unfold copyDisplay
    repeat with_reducible refine bind_spares (by simp) fun _ => ?_
    exact ih
@[simp] theorem enterFrame_spares (os : Sz) (locals : Word) (level : Byte) : Spares (enterFrame os locals level) := by
  unfold enterFrame
  repeat' first | with_reducible refine bind_spares (by simp) fun _ => ?_ | with_reducible refine ite_spares ?_ ?_
  all_goals simp
@[simp] theorem leaveFrame_spares (os : Sz) : Spares (leaveFrame os) := by
  unfold leaveFrame
  repeat with_reducible refine bind_spares (by simp) fun _ => ?_
  simp

/-! ## String instructions -/

theorem repeatOnce_spares (pc : Dword) (rep : Rep) (scan : Bool) (as : Sz) {body : M Unit} (h : Spares body) :
    Spares (repeatOnce pc rep scan as body) :=
  bind_spares (readRegSz_spares _ _) fun _ => ite_spares (pure_spares ()) <|
    bind_spares h fun _ => bind_spares (writeRegSz_spares _ _ _) fun _ =>
      bind_spares getFlags_spares fun _ => by simp
@[simp] theorem moveString_spares (as : Sz) (w : Width) : Spares (moveString as w) := by
  unfold moveString
  repeat with_reducible refine bind_spares (by simp) fun _ => ?_
  simp
@[simp] theorem compareString_spares (as : Sz) (w : Width) : Spares (compareString as w) := by
  unfold compareString
  repeat with_reducible refine bind_spares (by simp) fun _ => ?_
  simp
@[simp] theorem scanString_spares (as : Sz) (w : Width) : Spares (scanString as w) := by
  unfold scanString
  repeat with_reducible refine bind_spares (by simp) fun _ => ?_
  simp
@[simp] theorem loadString_spares (as : Sz) (w : Width) : Spares (loadString as w) := by
  unfold loadString
  repeat with_reducible refine bind_spares (by simp) fun _ => ?_
  simp
@[simp] theorem storeString_spares (as : Sz) (w : Width) : Spares (storeString as w) := by
  unfold storeString
  repeat with_reducible refine bind_spares (by simp) fun _ => ?_
  simp
@[simp] theorem inputString_spares (as : Sz) (w : Width) : Spares (inputString as w) := by
  unfold inputString
  repeat with_reducible refine bind_spares (by simp) fun _ => ?_
  simp
@[simp] theorem outputString_spares (as : Sz) (w : Width) : Spares (outputString as w) := by
  unfold outputString
  repeat with_reducible refine bind_spares (by simp) fun _ => ?_
  simp

/-! ## Processor control -/

@[simp] theorem enableInterrupts_spares (shadowed : Bool) : Spares (enableInterrupts shadowed) := by
  unfold enableInterrupts
  repeat' first | with_reducible refine bind_spares (by simp) fun _ => ?_ | with_reducible refine ite_spares ?_ ?_
  all_goals simp
@[simp] theorem waitChecks_spares : Spares waitChecks := by simp [waitChecks]

end Sys2Proof.Machine
end

section
/-! PROOFS. A step outside privilege level 0 spares what only privileged instructions write (60_exceptions.md R551, R513, R530,
R545). -/

namespace Sys2Proof.Machine

open Sys2Proof.Claims

/-! ## Running one instruction -/

section
variable {s : State}

theorem runM_spares {m : M Unit} (hm : SparesAt m (begun s)) : NextSpares s (runM s m) := by
  have hb : Spared s (begun s) := spared_of_same ⟨rfl, rfl, rfl, rfl⟩
  unfold runM
  unfold SparesAt at hm
  split at hm <;> simp only [*]
  · exact nextSpares_next (hb.trans (hm.trans (spared_of_same ⟨rfl, rfl, rfl, rfl⟩)))
  · exact takeException_spares _ _ (hb.trans hm)
  · exact nextSpares_refused _ _

/-- The prefixes are checked before the operation starts, from the same state. -/
theorem checkPrefixes_bind_sparesAt {t : State} {l : Bool} {f : Unit → M Unit} (h : SparesAt (f ()) t) :
    SparesAt (checkPrefixes s l >>= f) t := by
  cases hp : s.pfx.lock <;> cases hr : s.pfx.rep <;> cases l <;>
    simp_all [SparesAt, checkPrefixes, Spared.refl]

theorem perform_spares_at {l : Bool} {m : M Unit} (hm : SparesAt m (begun s)) : NextSpares s (perform s l m) :=
  runM_spares <| checkPrefixes_bind_sparesAt <| bind_sparesAt hm fun _ => clearRF_spares

theorem perform_spares {l : Bool} {m : M Unit} (hm : Spares m) : NextSpares s (perform s l m) := perform_spares_at (hm _)

theorem performKeepingRF_spares {m : M Unit} (hm : Spares m) : NextSpares s (performKeepingRF s m) :=
  runM_spares <| checkPrefixes_bind_sparesAt (hm _)

theorem performTransfer_spares {m : M Bool} (hm : Spares m) : NextSpares s (performTransfer s m) :=
  performKeepingRF_spares <| bind_spares hm fun _ => by simp

theorem performString_spares {scan : Bool} {as : Sz} {body : M Unit} (h : Spares body) :
    NextSpares s (performString s scan as body) := by
  refine runM_spares (bind_sparesAt (require_spares _ _ _) fun _ => ?_)
  split
  · exact bind_spares h fun _ => clearRF_spares
  · exact bind_spares (require_spares _ _) fun _ => bind_spares (repeatOnce_spares _ _ _ _ h) fun _ => clearRF_spares

end

/-! ## Instructions -/

theorem addOverride_spares (r : Sreg) (s : State) : NextSpares s (addOverride r s) := by
  unfold addOverride
  split
  · exact nextSpares_next (spared_of_same ⟨rfl, rfl, rfl, rfl⟩)
  · exact nextSpares_refused _ _

theorem addRepeat_spares (r : Rep) (s : State) : NextSpares s (addRepeat r s) := by
  unfold addRepeat
  split
  · exact nextSpares_next (spared_of_same ⟨rfl, rfl, rfl, rfl⟩)
  · exact nextSpares_refused _ _

theorem execWait_spares (s : State) : NextSpares s (execWait s) := by
  unfold execWait
  split
  · exact nextSpares_next (spared_of_same ⟨rfl, rfl, rfl, rfl⟩)
  · exact perform_spares waitChecks_spares

theorem inspect_spares (s : State) (os : Sz) (r : Reg) (rm : Rm) (valid : Desc → Bool) {value : Desc → M Dword}
    (hv : ∀ d, Spares (value d)) : NextSpares s (inspect s os r rm valid value) := by
  refine perform_spares <| bind_spares requireProt_spares fun _ => bind_spares (readSelector_spares _ _) fun _ =>
    bind_spares get_spares fun _ => bind_spares (lookup_spares _) fun d => ?_
  cases d with
  | none => exact setZero_spares _
  | some d =>
    exact ite_spares (bind_spares (hv d) fun _ => bind_spares (writeRegSz_spares _ _ _) fun _ => setZero_spares _)
      (setZero_spares _)

theorem verify_spares (s : State) (rm : Rm) (valid : Desc → Bool) : NextSpares s (verify s rm valid) := by
  refine perform_spares <| bind_spares requireProt_spares fun _ => bind_spares (readRm_spares _ _) fun _ =>
    bind_spares get_spares fun _ => bind_spares (lookup_spares _) fun d => ?_
  cases d <;> exact setZero_spares _

/-- Outside privilege level 0 a privileged operation raises #GP(0) before it changes anything. -/
theorem requireCpl0_bind_sparesAt {s : State} {f : Unit → M Unit} (h : ¬ Privileged s) :
    SparesAt (requireCpl0 >>= f) s := sparesAt_exc (bind_raises (requireCpl0_raises h)) (Spared.refl s)

/-- LGDT and LIDT look at the kind of their operand first. -/
theorem readTable_bind_sparesAt {s : State} {os : Sz} {rm : Rm} {f : TableReg → M Unit} (h : ¬ Privileged s) :
    SparesAt (readTable os rm >>= f) s := by
  cases rm with
  | reg r => exact Spared.refl s
  | mem m => exact sparesAt_exc (bind_raises (readTable_raises h)) (Spared.refl s)

/-- Outside privilege level 0 every instruction spares the system registers: those that write them are privileged, and the
operations of all others spare them from every state. -/
theorem exec_spares (i : Instr) {s : State} (h : ¬ Privileged s) : NextSpares s (exec i s) := by
  have hb : ¬ Privileged (begun s) := h
  cases i
  case lockPrefix | operandSizePrefix | addressSizePrefix => exact nextSpares_next (spared_of_same ⟨rfl, rfl, rfl, rfl⟩)
  case repnePrefix | repPrefix => exact addRepeat_spares _ _
  case esPrefix | csPrefix | ssPrefix | dsPrefix | fsPrefix | gsPrefix => exact addOverride_spares _ _
  case unassigned82 | unassignedD6 | unassignedF1 => exact nextSpares_refused _ _
  case wait => exact execWait_spares s
  case clts | lmsw | movCrR | movDrR | movTrR => exact perform_spares_at (requireCpl0_bind_sparesAt hb)
  case lgdt | lidt => exact perform_spares_at (readTable_bind_sparesAt hb)
  case larRRm => exact inspect_spares _ _ _ _ _ accessRights_spares
  case lslRRm => exact inspect_spares _ _ _ _ _ fun _ => pure_spares _
  case verr | verw => exact verify_spares _ _ _
  case cbw os => cases os <;> exact perform_spares (by simp)
  case cmpsb | cmpsw | insb | insw | lodsb | lodsw | movsb | movsw | outsb | outsw | scasb | scasw | stosb | stosw =>
    exact performString_spares (by simp)
  case callFarPtr | jmpFarPtr | callFarMem | jmpFarMem | int3 | intImm8 | into =>
    refine performTransfer_spares ?_
    repeat with_reducible refine bind_spares (by simp) fun _ => ?_
    simp
  case iret | popf =>
    refine performKeepingRF_spares ?_
    repeat with_reducible refine bind_spares (by simp) fun _ => ?_
    simp
  all_goals
    refine perform_spares ?_
    repeat' first | with_reducible refine bind_spares (by simp) fun _ => ?_ | with_reducible refine ite_spares ?_ ?_
    all_goals simp

/-! ## Fetching and running an instruction -/

@[simp] theorem queuedByte_spares (lin : Dword) (a : Nat) : Spares (queuedByte lin a) :=
  bind_spares get_spares fun _ => ite_spares (pure_spares _) (by simp)

theorem fetchByte_spares (i : Nat) : Spares (fetchByte i) :=
  bind_spares get_spares fun _ => ite_spares (bind_spares (translate_accesses _ _ _).spares fun _ => queuedByte_spares _ _)
    (raise_spares _)

/-- How a fetch that starts from `s` ends: with an exception in a state that spares the system registers. -/
def SparingStop (s : State) (stop : Stop) : Prop := ∀ e st c, stop = .exc e st c → Spared s st

theorem fetchBytes_spares (n i : Nat) (s : State) :
    (∀ x ∈ (fetchBytes n i s).1, Spared s x.2) ∧ SparingStop s (fetchBytes n i s).2 := by
  induction n generalizing i s with
  | zero =>
    refine ⟨by simp [fetchBytes], fun e st c h => ?_⟩
    simp only [fetchBytes, Stop.exc.injEq] at h
    exact h.2.1 ▸ Spared.refl s
  | succ n ih =>
    have h := fetchByte_spares i s
    unfold fetchBytes
    unfold SparesAt at h
    rcases hf : fetchByte i s with stop | ⟨b, t⟩ <;> simp only [hf] at h ⊢
    · refine ⟨by simp, ?_⟩
      rintro e st c rfl
      exact h
    · obtain ⟨hbytes, hstop⟩ := ih (i + 1) t
      refine ⟨?_, fun e st c hs => h.trans (hstop e st c hs)⟩
      rintro x (_ | ⟨_, hx⟩)
      · exact h
      · exact h.trans (hbytes x hx)

theorem atInstr_spares {s : State} {bs : List (Byte × State)} (h : ∀ x ∈ bs, Spared s x.2) (p : Prefixes) (used n : Nat) :
    Spared s (atInstr s p bs used n) := by
  have last : Spared s (((bs.drop (used - 1)).head?.map (·.2)).getD s) := by
    cases hd : (bs.drop (used - 1)).head? with
    | none => exact Spared.refl s
    | some x => exact h x (List.mem_of_mem_drop (List.mem_of_head? hd))
  exact last.trans (spared_of_same ⟨rfl, rfl, rfl, rfl⟩)

theorem fetchFailed_spares {s : State} {stop : Stop} (h : SparingStop s stop) : NextSpares s (fetchFailed s stop) := by
  cases stop with
  | exc e st c => exact takeException_spares e c (h e st c rfl)
  | refuse r => exact nextSpares_refused s r

/-- Fetching leaves the privilege level. -/
theorem Calm.not_privileged {s t : State} (h : Calm s t) (hs : ¬ Privileged s) : ¬ Privileged t := by
  unfold Privileged at *
  rwa [h.pe, h.vm, h.cpl]

/-- Decoding goes on past the bytes already read, with those that follow them. -/
theorem runFrom_spares {s : State} {stop : Stop} (hs : ¬ Privileged s) (hstop : SparingStop s stop) (fuel : Nat) (p : Prefixes)
    {bs : List (Byte × State)} (hcalm : ∀ x ∈ bs, Calm s x.2) (hbs : ∀ x ∈ bs, Spared s x.2) (n : Nat) :
    NextSpares s (runFrom s stop fuel p bs n) := by
  induction fuel generalizing p bs n with
  | zero => exact fetchFailed_spares hstop
  | succ fuel ih =>
    unfold runFrom
    dsimp only
    split
    · exact nextSpares_refused _ _
    · exact fetchFailed_spares hstop
    · rename_i i rest _
      split
      · split
        · exact ih _ (fun x hx => hcalm x (List.mem_of_mem_drop hx)) (fun x hx => hbs x (List.mem_of_mem_drop hx)) _
        · exact NextSpares.of_spared (t := { s with pfx := p }) (spared_of_same ⟨rfl, rfl, rfl, rfl⟩) (exec_spares i hs)
      · unfold runDecoded
        split
        · exact nextSpares_refused _ _
        · exact (exec_spares i ((atInstr_calm hcalm _ _ _).not_privileged hs)).of_spared (atInstr_spares hbs _ _ _)

theorem runInstruction_spares {s : State} (hs : ¬ Privileged s) : NextSpares s (runInstruction s) :=
  have h := fetchBytes_spares Config.maxInstrLength 0 s
  runFrom_spares hs h.2 _ _ (fetchBytes_calm Config.maxInstrLength 0 s).1 h.1 _

/-! ## The instruction boundary -/

theorem inShutdown_spares (s : State) : NextSpares s (inShutdown s) := by
  have ha : Spared s { acceptNmi s with shutdown := false } := spared_of_same ⟨rfl, rfl, rfl, rfl⟩
  unfold inShutdown
  split
  · have hd := deliver_spares
      { vector := 2#8, code := none, ret := (acceptNmi s).eip, software := false, ext := true, rf := .zero }
      { acceptNmi s with shutdown := false }
    unfold SparesAt at hd
    dsimp only
    split at hd <;> simp only [*]
    · exact nextSpares_next (spared_settle (ha.trans hd))
    · exact nextSpares_next (spared_of_same ⟨rfl, rfl, rfl, rfl⟩)
    · exact nextSpares_refused _ _
  · exact nextSpares_next (Spared.refl s)

/-- The single-step trap sets BS in DR6 and spares the rest. -/
theorem takeTrap_spares {s t : State} (h : takeTrap s = .next t) :
    Spared { s with dr6 := s.dr6 ||| 0x4000#32 } t :=
  Spared.trans (t := { s with dr6 := s.dr6 ||| 0x4000#32, trapPending := false })
    (spared_of_same ⟨rfl, rfl, rfl, rfl⟩) (takeInterrupt_spares 1#8 _ t h)

/-- A step outside privilege level 0, RESET aside: it spares the system registers, or is the single-step trap. -/
theorem step_spares {s t : State} (hr : s.pins.reset = false) (hs : ¬ Privileged s) (h : step s = .next t) :
    Spared s t ∨ Spared { s with dr6 := s.dr6 ||| 0x4000#32 } t := by
  unfold step stepBoundary at h
  rw [hr, if_neg Bool.false_ne_true] at h
  split at h
  · cases h
  split at h
  · cases h
  split at h
  · cases h
  split at h
  · exact .inl (inShutdown_spares s t h)
  split at h
  · exact .inr (takeTrap_spares h)
  split at h
  · exact .inl (Spared.trans (t := acceptNmi s) (spared_of_same ⟨rfl, rfl, rfl, rfl⟩) (takeInterrupt_spares _ _ t h))
  split at h
  · exact .inl (takeInterrupt_spares _ s t h)
  split at h
  · exact .inl (nextSpares_next (s := s) (t := { s with inhibit := .none, trapPending := false })
      (spared_of_same ⟨rfl, rfl, rfl, rfl⟩) t h)
  · exact .inl (Spared.trans (t := { s with trapPending := false }) (spared_of_same ⟨rfl, rfl, rfl, rfl⟩)
      (runInstruction_spares (s := { s with trapPending := false }) hs t h))

/-- Settles O60: every event and every unprivileged instruction spares the system registers; the trap sets BS. -/
theorem userKeepsSystemRegisters : Obligations.UserKeepsSystemRegisters := by
  unfold Obligations.UserKeepsSystemRegisters
  intro s t hr hs h
  rcases step_spares hr hs h with k | k <;>
    obtain ⟨hgdtr, hidtr, h0, h1, h2, h3, h6, h7⟩ := by simpa only [State.tables, Prod.mk.injEq] using k.tables
  · exact ⟨hgdtr, hidtr, h0, h1, h2, h3, h6, h7, k.cr0, .inl k.dr6, k.dr7⟩
  · exact ⟨hgdtr, hidtr, h0, h1, h2, h3, h6, h7, k.cr0, .inr k.dr6, k.dr7⟩

end Sys2Proof.Machine
end

section
/-! PROOFS. What RESET leaves (70_reset_and_hazards.md R560, R561, 10_state.md R30). -/

namespace Sys2Proof.Machine

open Sys2Proof.Claims

/-- RESET is looked at before everything else. -/
theorem step_reset {s : State} (h : s.pins.reset = true) :
    step s = .next (State.afterReset s.mem s.pins s.ioLog s.draws) := if_pos h

/-- Settles O57: the state after reset lists no memory and is in Real Address Mode at CPL 0. -/
theorem resetInv : Obligations.ResetInv := afterReset_inv reset_mem_wf _ _ _

/-- The segment registers after reset, CS with its base aside, are those of a real-mode load of selector 0. -/
theorem seg_afterReset (m : List Host.Cell) (pins : Pins) (ioLog : List PortEvent) (draws : Nat) {r : Sreg} (hr : r ≠ .cs) :
    (State.afterReset m pins ioLog draws).seg r = SegReg.real 0#16 0#2 := by
  cases r with
  | cs => exact absurd rfl hr
  | es | ss | ds | fs | gs => rfl

theorem hidden_afterReset (m : List Host.Cell) (pins : Pins) (ioLog : List PortEvent) (draws : Nat) (r : Sreg) :
    ((State.afterReset m pins ioLog draws).seg r).limit = 0xFFFF#32 ∧ ((State.afterReset m pins ioLog draws).seg r).p = true ∧
      ((State.afterReset m pins ioLog draws).seg r).s = true ∧ ((State.afterReset m pins ioLog draws).seg r).typ = 3#4 := by
  cases r <;> exact ⟨rfl, rfl, rfl, rfl⟩

theorem eflags_afterReset (m : List Host.Cell) (pins : Pins) (ioLog : List PortEvent) (draws : Nat) :
    eflags (State.afterReset m pins ioLog draws).flags = 0x00000002#32 := by
  simp only [State.afterReset]
  decide

theorem cr0Image_afterReset (m : List Host.Cell) (pins : Pins) (ioLog : List PortEvent) (draws : Nat) :
    cr0Image (State.afterReset m pins ioLog draws).cr0 = 16 * BitVec.ofNat 32 Config.resetET.toNat := by
  simp only [State.afterReset, cr0Image]
  decide

/-- The first fetch after reset (R561). -/
theorem linear_afterReset (m : List Host.Cell) (pins : Pins) (ioLog : List PortEvent) (draws : Nat) :
    (State.afterReset m pins ioLog draws).linear .cs (State.afterReset m pins ioLog draws).eip = 0xFFFFFFF0#32 := by
  simp only [State.linear, State.seg, State.afterReset]
  decide

/-- Settles O59: the reset table, element by element. -/
theorem resetState : Obligations.ResetState := by
  unfold Obligations.ResetState
  intro s hs
  refine ⟨_, step_reset hs, rfl, eflags_afterReset _ _ _ _, rfl, rfl, fun r hr => ?_, hidden_afterReset _ _ _ _, rfl, rfl,
    cr0Image_afterReset _ _ _ _, rfl, rfl, rfl, rfl, rfl, rfl, rfl, rfl, rfl, rfl, rfl, rfl, rfl, rfl, rfl, rfl,
    linear_afterReset _ _ _ _⟩
  rw [seg_afterReset _ _ _ _ hr]
  exact ⟨rfl, rfl⟩

end Sys2Proof.Machine
end

section
/-! PROOFS. TEST (49_t_v_w_x.md R480). -/

namespace Sys2Proof.Machine

open Sys2Proof.Claims

/-- TEST leaves the flags of AND and stores nothing. -/
theorem testBits_run {n : Nat} (a b : BitVec n) (u : State) : testBits a b u = .ok ((), aluState .and a b u) :=
  bind_completes (draw_run 1 u)

/-- The register forms read their register after the r/m operand. -/
theorem testReg_readsRm {i : Instr} {w : Width} {rm : Rm} {r : Reg}
    (hi : ∀ s, exec i s = perform s false (readRm w rm >>= fun a => readReg w r >>= testBits a)) :
    ReadsRm i w rm (fun _ _ => True) (fun a u => aluState .and a (u.reg w r) u) :=
  readsRm_of_accRm (f := fun a => readReg w r >>= testBits a) hi (fun _ => rfl) fun _ u => congrFun (byte_aluState _ _ _ u)

theorem testImm_readsRm {i : Instr} {w : Width} {rm : Rm} {b : BitVec w.bits} (hi : ∀ s, exec i s = accRm s w rm (testBits · b)) :
    ReadsRm i w rm (fun _ _ => True) (fun a u => aluState .and a b u) :=
  readsRm_of_accRm hi (fun _ => testBits_run ..) fun _ u => congrFun (byte_aluState _ _ _ u)

theorem testAcc_plain {i : Instr} {w : Width} {b : BitVec w.bits}
    (hi : ∀ s, exec i s = perform s false (readReg w .ax >>= (testBits · b))) :
    Plain i (fun u => aluState .and (u.reg w .ax) b u) :=
  plain_of_perform hi (fun u => (bind_passes (readReg_run ..)).trans (testBits_run _ b u)) fun u => congrFun (byte_aluState _ _ _ u)

/-- Settles O4: every form reads its operands and leaves the flags of their AND. -/
theorem testFlags : Obligations.TestFlags := by
  unfold Obligations.TestFlags
  intro os rm r b v
  exact ⟨testReg_readsRm fun _ => rfl, testReg_readsRm fun _ => rfl, testImm_readsRm fun _ => rfl, testImm_readsRm fun _ => rfl,
    testAcc_plain fun _ => rfl, testAcc_plain fun _ => rfl⟩

end Sys2Proof.Machine
end

section
/-! PROOFS. SHLD and SHRD (48_s.md R450, R451). -/

namespace Sys2Proof.Machine

open Sys2Proof.Claims

section
variable {n : Nat}

/-- The model's two shifts joined by OR leave the bits of the double-width number. -/
theorem doubleResult_eq_doubleValue {c : Nat} (hc : c ≤ n) (left : Bool) (a b : BitVec n) :
    doubleResult left c a b = doubleValue left c a b := by
  refine BitVec.eq_of_getLsbD_eq fun i hi => ?_
  cases left with
  | true =>
    simp only [doubleResult, doubleValue, if_true, BitVec.getLsbD_or, BitVec.getLsbD_shiftLeft, BitVec.getLsbD_ushiftRight,
      BitVec.getLsbD_extractLsb', BitVec.getLsbD_append]
    by_cases h : i < c
    · simp [h, hi, show n + i < n + n by omega, show ¬ n + i < c by omega, show n + i - c < n by omega,
        show n - c + i = n + i - c by omega]
    · simp [h, hi, show n + i < n + n by omega, show ¬ n + i < c by omega, show ¬ n + i - c < n by omega,
        show n + i - c - n = i - c by omega, BitVec.getLsbD_of_ge b (n - c + i) (by omega)]
  | false =>
    simp only [doubleResult, doubleValue, Bool.false_eq_true, if_false, BitVec.getLsbD_or, BitVec.getLsbD_shiftLeft,
      BitVec.getLsbD_ushiftRight, BitVec.getLsbD_extractLsb', BitVec.getLsbD_append]
    by_cases h : c + i < n
    · simp [h, hi, show i < n - c by omega]
    · simp [h, hi, show ¬ i < n - c by omega, show i - (n - c) = c + i - n by omega, BitVec.getLsbD_of_ge a (c + i) (by omega)]

end

/-- The operation answers the operand's new value and leaves its flags, by the three ranges of the count. -/
theorem updateRm_doubleShift {b u : State} {w : Width} {rm : Rm} {p : Place} (h : Opens b w rm true p u) (left : Bool) (c : Nat)
    (x : BitVec w.bits) : updateRm w rm (doubleShift left c x) b = .ok ((), doubleEffect w left c x p u) := by
  refine (bind_completes h).trans ((bind_passes (readPlace_run w p u)).trans ?_)
  unfold doubleShift doubleEffect
  split
  · exact writePlace_run ..
  · split
    · exact (bind_completes rfl).trans (writePlace_run ..)
    · rw [doubleResult_eq_doubleValue (by omega)]
      exact (bind_completes rfl).trans (writePlace_run ..)

theorem byte_doubleEffect_other {w : Width} {left : Bool} {c : Nat} {x : BitVec w.bits} {p : Place} (u : State) {a : Nat}
    (ha : a ∉ bytesOf p) : (doubleEffect w left c x p u).byte a = u.byte a := by
  unfold doubleEffect
  dsimp only
  split
  · exact byte_put_other _ ha
  · split
    · exact byte_put_other _ ha
    · exact byte_put_other _ ha

/-- A form whose operation reads its count and its register, and then updates the operand. -/
theorem doubleShifts_of_perform {i : Instr} {os : Sz} {left : Bool} {rm : Rm} {r : Reg} {count : State → Byte} {m : M Unit}
    (hi : ∀ s, exec i s = perform s false m)
    (hm : ∀ s, m (begun s) = updateRm os.width rm (doubleShift left (shiftCount (count s)) (s.reg os.width r)) (begun s)) :
    DoubleShifts i os left rm r count := by
  intro s p u ha ho
  refine completes_of_perform (hi s) ha ?_ (fun _ hn => byte_doubleEffect_other u hn) (found_of_opens ho)
  rw [hm, updateRm_doubleShift ho, shiftCount_eq]

theorem doubleRm_doubleShifts {i : Instr} {os : Sz} {left : Bool} {rm : Rm} {r : Reg} {count : Byte}
    (hi : ∀ s, exec i s = doubleRm s os.width left rm r count) : DoubleShifts i os left rm r (fun _ => count) :=
  doubleShifts_of_perform hi fun _ => rfl

theorem doubleRmCl_doubleShifts {i : Instr} {os : Sz} {left : Bool} {rm : Rm} {r : Reg}
    (hi : ∀ s, exec i s = doubleRmCl s os.width left rm r) : DoubleShifts i os left rm r (fun s => s.reg .b8 .cx) :=
  doubleShifts_of_perform hi fun _ => rfl

/-- Settles O9: the result is cut from the two operands as one number, and every form updates its operand by one count. -/
theorem doubleShiftCompletes : Obligations.DoubleShiftCompletes := by
  unfold Obligations.DoubleShiftCompletes
  intro os rm r b
  exact ⟨doubleRm_doubleShifts fun _ => rfl, doubleRmCl_doubleShifts fun _ => rfl, doubleRm_doubleShifts fun _ => rfl,
    doubleRmCl_doubleShifts fun _ => rfl⟩

end Sys2Proof.Machine
end

section
/-! PROOFS. WAIT and the coprocessor escapes (49_t_v_w_x.md R483, 30_encoding.md R170, 60_exceptions.md R503). -/

namespace Sys2Proof.Machine

open Sys2Proof.Claims

section
variable {s : State}

/-- WAIT goes on waiting when BUSY# is asserted and nothing is to be raised. -/
theorem waits_iff (ha : Accepts s false) :
    s.waits = true ↔ s.pins.busy = true ∧ s.pins.error = false ∧ (s.cr0.mp && s.cr0.ts) = false := by
  have hlock := lock_eq_false_of_accepts ha
  have hrep : s.pfx.rep.isNone = true := by rw [ha.2]; rfl
  simp only [State.waits, hlock, hrep, Bool.and_eq_true, Bool.not_eq_true', Bool.not_false, and_true, and_assoc]

/-- Where it does not wait it makes its checks. -/
theorem execWait_checks (h : ¬ s.waits = true) : exec .wait s = perform s false waitChecks := if_neg h

theorem wait_completes (ha : Accepts s false) (hts : (s.cr0.mp && s.cr0.ts) = false) (herr : s.pins.error = false)
    (hbusy : s.pins.busy = false) : Completes .wait s (begun s) (begun s) [] := by
  have hgo : ¬ s.waits = true := by simp [waits_iff ha, hbusy]
  refine completes_of_perform (execWait_checks hgo) ha ?_ (fun _ _ => rfl) (found_refl _)
  exact (bind_passes (M.get_run _)).trans <| (bind_passes (require_passes (Bool.not_eq_true' _ ▸ hts) _ _)).trans
    (require_passes (by simpa using herr) _ _)

theorem wait_waits (ha : Accepts s false) (hts : (s.cr0.mp && s.cr0.ts) = false) (herr : s.pins.error = false)
    (hbusy : s.pins.busy = true) : exec .wait s = .next { s with pfx := Prefixes.none, inhibit := .none } :=
  if_pos ((waits_iff ha).2 ⟨hbusy, herr, hts⟩)

theorem wait_raises_unavailable (ha : Accepts s false) (hts : (s.cr0.mp && s.cr0.ts) = true) :
    exec .wait s = takeFault excNM s := by
  have hgo : ¬ s.waits = true := by simp [waits_iff ha, hts]
  refine (execWait_checks hgo).trans (perform_raises ha ?_)
  exact (bind_passes (M.get_run _)).trans (bind_raises (require_fails (by simpa using hts) _ _))

theorem wait_raises_error (ha : Accepts s false) (hts : (s.cr0.mp && s.cr0.ts) = false) (herr : s.pins.error = true) :
    exec .wait s = takeFault excMF s := by
  have hgo : ¬ s.waits = true := by simp [waits_iff ha, herr]
  refine (execWait_checks hgo).trans (perform_raises ha ?_)
  exact (bind_passes (M.get_run _)).trans <| (bind_passes (require_passes (Bool.not_eq_true' _ ▸ hts) _ _)).trans
    (require_fails (by simpa using herr) _ _)

theorem esc_raises (ha : Accepts s false) (i : BitVec 3) (h : (s.cr0.em || s.cr0.ts) = true) :
    exec (.esc i) s = takeFault excNM s := by
  refine perform_raises ha ((bind_passes (M.get_run _)).trans ?_)
  exact congrFun (if_pos h) (begun s)

theorem esc_refused (ha : Accepts s false) (i : BitVec 3) (h : (s.cr0.em || s.cr0.ts) = false) :
    exec (.esc i) s = .refused .coprocessor := by
  refine perform_refuse ha.1 ha.2 ((bind_passes (M.get_run _)).trans ?_)
  exact congrFun (if_neg (Bool.eq_false_iff.1 h)) (begun s)

end

/-- Settles O38: the checks of WAIT in their order, and #NM from ESC, which Real Address Mode delivers as any fault. -/
theorem waitAndEscape : Obligations.WaitAndEscape := by
  unfold Obligations.WaitAndEscape
  intro s ha
  refine ⟨fun hts herr => ⟨wait_completes ha hts herr, wait_waits ha hts herr⟩, wait_raises_unavailable ha,
    wait_raises_error ha, fun i => ⟨fun h => ⟨esc_raises ha i h, fun hd => (esc_raises ha i h).trans ?_⟩, esc_refused ha i⟩⟩
  exact (deliveryReal s 7#8 hd).1 none (by decide)

end Sys2Proof.Machine
end

section
/-! PROOFS. What a task switch stores, and the switch that the model refuses; paging off (60_exceptions.md R530, R546). -/

namespace Sys2Proof.Machine

open Sys2Proof.Claims

/-! ## The fields stored before the commit point -/

theorem stores_gdtr (l : List (Nat × Dword × Dword)) (u : State) : (stores l u).gdtr = u.gdtr := by rw [stores_eq]

theorem byte_stores_other {l : List (Nat × Dword × Dword)} {a : Nat} (h : a ∉ storedAt l) (u : State) :
    (stores l u).byte a = u.byte a := by
  induction l generalizing u with
  | nil => rfl
  | cons f l ih =>
    simp only [storedAt, List.flatMap_cons, List.mem_append, not_or] at h
    rw [stores_cons, ih h.2, byte_setBytes_other h.1]

/-- Where the outgoing task is saved depends neither on the flags nor on the return offset saved. -/
theorem storedAt_taskFields (b : State) (f g : Flags) (ret ret' : Dword) :
    storedAt (taskFields b f ret) = storedAt (taskFields b g ret') := by
  unfold taskFields
  split <;> simp only [storedAt, List.flatMap_cons]

/-- Where a busy bit lies depends on GDTR alone. -/
theorem storedAt_busyField {u v : State} (h : u.gdtr = v.gdtr) (sel : Word) (busy : Bool) :
    storedAt (busyField u sel busy) = storedAt (busyField v sel busy) := by
  simp only [storedAt, busyField, h, List.flatMap_cons, List.flatMap_nil]

section
variable (k : SwitchKind) (sel : Word) (td : Desc) (ret : Dword) (b : State)

theorem taskReleased_gdtr : (taskReleased k b).gdtr = b.gdtr := by
  obtain ⟨l, hl⟩ := taskReleased_stores k b
  rw [hl, stores_gdtr]

theorem taskSaved_gdtr : (taskSaved k ret b).gdtr = b.gdtr := by rw [taskSaved, stores_gdtr, taskReleased_gdtr]

theorem taskLinked_gdtr : (taskLinked k td ret b).gdtr = b.gdtr := by
  rw [taskLinked]
  split
  · rw [stores_gdtr, taskSaved_gdtr]
  · exact taskSaved_gdtr k ret b

variable {k sel td ret b} {a : Nat}

theorem byte_taskReleased_other (h : a ∉ if k = .jmp ∨ k = .iret then storedAt (busyField b b.tr.sel false) else []) :
    (taskReleased k b).byte a = b.byte a := by
  rw [taskReleased]
  split
  · exact byte_stores_other (by rwa [if_pos ‹_›] at h) b
  · rfl

theorem byte_taskLinked_other (h : a ∉ if k = .call ∨ k = .int then span td.base 2 else []) :
    (taskLinked k td ret b).byte a = (taskSaved k ret b).byte a := by
  rw [taskLinked]
  split
  · refine byte_stores_other ?_ _
    rw [if_pos ‹_›] at h
    simpa only [storedAt, List.flatMap_cons, List.flatMap_nil, List.append_nil] using h
  · rfl

theorem byte_taskMarked_other (h : a ∉ taskStored k sel td b) : (taskMarked k sel td ret b).byte a = b.byte a := by
  simp only [taskStored, List.mem_append, not_or] at h
  obtain ⟨⟨⟨hreleased, hsaved⟩, hlinked⟩, hmarked⟩ := h
  have hlink : (taskLinked k td ret b).byte a = b.byte a := by
    rw [byte_taskLinked_other hlinked, taskSaved, byte_stores_other, byte_taskReleased_other hreleased]
    rwa [storedAt_taskFields b _ b.flags ret 0#32]
  rw [taskMarked]
  split
  · exact hlink
  · rw [if_neg ‹_›] at hmarked
    rw [byte_stores_other, hlink]
    rwa [storedAt_busyField (taskLinked_gdtr k td ret b)]

end

/-! ## The loads -/

/-- The load stores nowhere but where it says. -/
def StoresWithin (l : Loader) : Prop := ∀ {b t stored}, l.loads b t stored → ∀ a, a ∉ stored → t.byte a = b.byte a

theorem storesWithin_ldt (sel : Word) : StoresWithin (ldtLoader sel) := by
  rintro b t stored ⟨-, ⟨-, rfl⟩ | ⟨d, -, rfl⟩⟩ a -
  · rfl
  · rfl

theorem storesWithin_level (i : TaskImage) : StoresWithin (levelLoader i) := by
  rintro b t stored ⟨rfl, -⟩ a -
  rfl

theorem storesWithin_real (r : Sreg) (sel : Word) : StoresWithin (realLoader r sel) := by
  rintro b t stored ⟨rfl, -⟩ a -
  exact byte_realSeg b r sel a

theorem storesWithin_seg (r : Sreg) (sel : Word) (ok : State → Desc → Prop) (absent : Exc) :
    StoresWithin (segLoader r sel ok absent) := by
  rintro b t stored ⟨d, -, rfl, rfl⟩ a ha
  exact byte_segLoaded_other ha

theorem storesWithin_data (r : Sreg) (sel : Word) : StoresWithin (dataLoader r sel) := by
  rintro b t stored (⟨-, rfl, -⟩ | h) a ha
  · rfl
  · exact storesWithin_seg _ _ _ _ h a ha

theorem storesWithin_taskLoaders (i : TaskImage) : ∀ l ∈ taskLoaders i, StoresWithin l := by
  unfold taskLoaders
  split <;> simp [storesWithin_ldt, storesWithin_level, storesWithin_real, storesWithin_seg, storesWithin_data]

theorem byte_loadsAll_other {ls : List Loader} (hls : ∀ l ∈ ls, StoresWithin l) {b t : State} {stored : List Nat}
    (h : LoadsAll ls b t stored) {a : Nat} (ha : a ∉ stored) : t.byte a = b.byte a := by
  induction ls generalizing b stored with
  | nil =>
    obtain ⟨rfl, -⟩ := h
    rfl
  | cons l ls ih =>
    obtain ⟨v, s1, s2, hl, hrest, rfl⟩ := h
    rw [List.mem_append, not_or] at ha
    rw [ih (fun l hl => hls l (List.mem_cons_of_mem _ hl)) hrest ha.2]
    exact hls l List.mem_cons_self hl a ha.1

/-- A switch stores the old task, its link and the two busy bits, and what its loads store. -/
theorem byte_taskEnters_other {k : SwitchKind} {sel : Word} {td : Desc} {ret : Dword} {b t : State} {stored : List Nat}
    (h : TaskEnters k sel td ret b t stored) {a : Nat} (ha : a ∉ stored) : t.byte a = b.byte a := by
  obtain ⟨-, -, -, s2, hloads, rfl⟩ := h
  rw [List.mem_append, not_or] at ha
  rw [byte_loadsAll_other (storesWithin_taskLoaders _) hloads ha.2]
  exact byte_taskMarked_other (sel := sel) (td := td) (ret := ret) ha.1

/-! ## A TSS whose T bit is set -/

theorem committed_refuse {α : Type} {m : M α} {s : State} {r : Refusal} (h : m s = .error (.refuse r)) :
    committed m s = .error (.refuse r) := by simp [committed, h]

theorem taskEntry_refuses (k : SwitchKind) {td : Desc} {v : State} (hp : v.cr0.pg = false)
    (ht : (incoming v td).trap = true) : taskEntry k td v = .error (.refuse .tssTrapBit) :=
  (bind_passes (readTask_run hp td)).trans <| (congrFun (if_pos ht) v).trans (bind_error (refuse_run ..))

theorem switchTasks_refuses {k : SwitchKind} {b : State} {t : Word} {td : Desc} {ret : Dword} (hp : b.cr0.pg = false)
    (h : TaskTraps k t td ret b) : switchTasks k t td ret b = .error (.refuse .tssTrapBit) := by
  obtain ⟨-, hlong, htrap⟩ := h
  rw [switchTasks_enters k hp hlong, enterTask_eq]
  exact committed_refuse (taskEntry_refuses k (taskCommitted_pg hp k t td ret) htrap)

/-! ## The entry into the new task -/

/-- A switch and the test of the new task's EIP, which belongs to the new task. -/
def taskTaken (k : SwitchKind) (bad : Exc) (t : Word) (td : Desc) (ret : Dword) : M Unit := do
  switchTasks k t td ret
  committed do
    let s ← get
    require (s.cs.holds s.eip.toNat 1) bad

section
variable {k : SwitchKind} {bad : Exc} {t : Word} {td : Desc} {ret : Dword} {b : State}

theorem taskTaken_short (h : ¬ TaskHolds td) :
    taskTaken k bad t td ret b = .error (.exc (excTS (selErr t)) b false) := bind_raises (switchTasks_short k h t ret)

variable (hp : b.cr0.pg = false)
include hp

theorem taskTaken_refuses (h : TaskTraps k t td ret b) : taskTaken k bad t td ret b = .error (.refuse .tssTrapBit) :=
  bind_error (switchTasks_refuses hp h)

theorem taskTaken_raises {e : Exc} {u : State} (h : TaskFails k t td ret b e u) :
    taskTaken k bad t td ret b = .error (.exc e u true) := bind_error (switchTasks_raises hp h)

theorem taskTaken_run {v : State} {stored : List Nat} (h : TaskEnters k t td ret b v stored) (hin : InCode v v.eip) :
    taskTaken k bad t td ret b = .ok ((), v) :=
  (bind_completes (switchTasks_run hp h).1).trans <| committed_ok <|
    (bind_passes (M.get_run v)).trans (require_passes hin _ _)

theorem taskTaken_raises_limit {v : State} {stored : List Nat} (h : TaskEnters k t td ret b v stored)
    (hin : ¬ InCode v v.eip) : taskTaken k bad t td ret b = .error (.exc bad v true) :=
  (bind_completes (switchTasks_run hp h).1).trans <| committed_exc <|
    (bind_passes (M.get_run v)).trans (require_fails (Bool.eq_false_iff.2 hin) _ _)

end

/-! ## The descriptor of a TSS in the GDT -/

/-- The checks of a selector that must name a TSS of a kind `ok` in the GDT. -/
def tssChecked (ok : Desc → Bool) (t : Word) (bad : Word → Exc) : M Desc := do
  require (!selTI t) (bad (selErr t))
  let td ← fetchDesc t (bad (selErr t))
  require (ok td) (bad (selErr t))
  require td.p (excNP (selErr t))
  return td

section
variable {b : State} {sel : Word} {ok : Desc → Bool} {kind : Desc → Prop} {bad : Word → Exc} (hk : ∀ d, ok d = true ↔ kind d)
  (hp : b.cr0.pg = false)
include hk hp

theorem tssChecked_run {td : Desc} (h : TssNamed b sel kind td) : tssChecked ok sel bad b = .ok (td, b) := by
  obtain ⟨⟨hgdt, hin⟩, rfl, hd, hpr⟩ := h
  have hti : (!selTI sel) = true := by rw [selTI, hgdt]; rfl
  exact (bind_passes (require_passes hti _ _)).trans <| (bind_passes (fetchDesc_run hp _ hin)).trans <|
    (bind_passes (require_passes ((hk _).2 hd) _ _)).trans (bind_passes (require_passes hpr _ _))

theorem tssChecked_raises {e : Exc} (h : TssFails b sel kind bad e) : tssChecked ok sel bad b = .error (.exc e b false) := by
  obtain ⟨hbad, rfl⟩ | ⟨⟨hgdt, hin⟩, hd, hpr, rfl⟩ := h
  · cases hgdt : sel.getLsbD 2 with
    | true =>
      have hti : (!selTI sel) = false := by rw [selTI, hgdt]; rfl
      exact bind_raises (require_fails hti _ _)
    | false =>
      have hti : (!selTI sel) = true := by rw [selTI, hgdt]; rfl
      refine (bind_passes (require_passes hti _ _)).trans ?_
      by_cases hin : InTable b sel
      · have hd : ok (descAt b sel) = false := Bool.eq_false_iff.2 fun h => hbad ⟨⟨hgdt, hin⟩, (hk _).1 h⟩
        exact (bind_passes (fetchDesc_run hp _ hin)).trans (bind_raises (require_fails hd _ _))
      · exact bind_raises (fetchDesc_raises _ hin)
  · have hti : (!selTI sel) = true := by rw [selTI, hgdt]; rfl
    exact (bind_passes (require_passes hti _ _)).trans <| (bind_passes (fetchDesc_run hp _ hin)).trans <|
      (bind_passes (require_passes ((hk _).2 hd) _ _)).trans (bind_raises (require_fails hpr _ _))

end

end Sys2Proof.Machine
end

section
/-! PROOFS. Task switches by JMP, CALL, IRET and the task gates of the IDT, paging off (41_c_d_e_h.md R233, 43_j.md R306, 42_i.md
R289, R294, 60_exceptions.md R530, R546). -/

namespace Sys2Proof.Machine

open Sys2Proof.Claims

/-! ## The descriptor that a far pointer names -/

/-- A task gate, or an available TSS of the GDT, that CPL and the RPL may use: the tests of the model in their order. -/
def taskKind (sel : Word) (cpl : BitVec 2) (d : Desc) : Bool :=
  (d.isSys 5#4 || !selTI sel) && (decide (cpl ≤ d.dpl) && (decide (selRpl sel ≤ d.dpl) && (d.isSys 5#4 || d.availTss)))

theorem taskKind_iff (sel : Word) (b : State) (d : Desc) : taskKind sel b.cpl d = true ↔ OpenTask b sel d := by
  have hti : (!selTI sel) = true ↔ sel.getLsbD 2 = false := by simp [selTI]
  simp only [taskKind, OpenTask, Bool.and_eq_true, Bool.or_eq_true, decide_eq_true_eq, hti, isSys_iff, availTss_iff, selRpl_eq,
    Available]
  tauto

/-- The exception of a JMP or a CALL whose selector leads to no task. -/
def taskExc (call : Bool) : Word → Exc := if call then excTS else excGP

/-- What kind of switch they make. -/
def taskSwitch (call : Bool) : SwitchKind := if call then .call else .jmp

/-- The TSS that the descriptor `d` of the selector `sel` leads to, and its selector. -/
def taskTarget (bad : Word → Exc) (sel : Word) (d : Desc) : M (Word × Desc) :=
  if d.isSys 5#4 then fetchTss d.gateSel bad >>= fun td => pure (d.gateSel, td) else pure (sel, d)

section
variable (call : Bool) (sel : Word) (d : Desc) (b : State)

/-- A far transfer to a task: the tests of the descriptor, the way to the TSS, the switch. -/
theorem farTask_eq : farTask call sel d b =
    (require (taskKind sel b.cpl d) (taskExc call (selErr sel)) >>= fun _ => require d.p (excNP (selErr sel)) >>= fun _ =>
      taskTarget (taskExc call) sel d >>= fun x =>
        taskTaken (taskSwitch call) (taskExc call 0#16) x.1 x.2 b.next) b := by
  simp only [taskKind, taskTarget, ← require_require]
  cases h : d.isSys 5#4 with
  | true => cases call <;> simp [farTask, h, taskExc, taskSwitch, taskTaken] <;> rfl
  | false => cases call <;> simp [farTask, h, taskExc, taskSwitch, taskTaken] <;> rfl

end

theorem hasTask_of_leadsTo {b : State} {sel t : Word} {td : Desc} (h : LeadsTo b sel t td) : HasTask b sel := by
  obtain ⟨d, ⟨hn, hin, rfl, ⟨hs, -, -, htyp⟩, -⟩, -⟩ := h
  refine ⟨hn, hin, hs, ?_⟩
  obtain h | ⟨-, -, h | h⟩ := htyp <;> simp [h]

section
variable {call : Bool} {sel t : Word} {d td : Desc} {b : State} {e : Exc} (hp : b.cr0.pg = false)
include hp

theorem taskTarget_run {bad : Word → Exc} (hs : d.s = false)
    (h : if d.typ = 5#4 then t = d.gateSel ∧ TssNamed b t Available td else t = sel ∧ td = d) :
    taskTarget bad sel d b = .ok ((t, td), b) := by
  rw [taskTarget]
  split at h
  · obtain ⟨rfl, htd⟩ := h
    exact (congrFun (if_pos ((isSys_iff d 5#4).2 ⟨hs, ‹_›⟩)) b).trans (bind_passes (fetchTss_run hp htd))
  · obtain ⟨rfl, rfl⟩ := h
    exact congrFun (if_neg fun h => ‹¬ _› ((isSys_iff _ 5#4).1 h).2) b

theorem taskTarget_raises {bad : Word → Exc} (hs : d.s = false) (ht : d.typ = 5#4)
    (h : TssFails b d.gateSel Available bad e) : taskTarget bad sel d b = .error (.exc e b false) :=
  (congrFun (if_pos ((isSys_iff d 5#4).2 ⟨hs, ht⟩)) b).trans (bind_raises (fetchTss_raises hp h))

/-- An open task leads to its switch. -/
theorem farTask_of_leadsTo (h : LeadsTo b sel t td) :
    farTask call sel (descAt b sel) b = taskTaken (taskSwitch call) (taskExc call 0#16) t td b.next b := by
  obtain ⟨d, ⟨-, -, rfl, hopen, hpr⟩, htarget⟩ := h
  rw [farTask_eq, bind_passes (require_passes ((taskKind_iff ..).2 hopen) _ _), bind_passes (require_passes hpr _ _),
    bind_passes (taskTarget_run hp hopen.1 htarget)]

theorem farTask_of_leadsNowhere (h : LeadsNowhere b sel (taskExc call) e) :
    farTask call sel (descAt b sel) b = .error (.exc e b false) := by
  obtain ⟨⟨hn, hin, -⟩, (⟨hnull, -⟩ | ⟨-, hbad, rfl⟩ | ⟨-, -, hopen, hpr, rfl⟩) |
    ⟨d, ⟨-, -, rfl, hopen, hpr⟩, ht, htss⟩⟩ := h
  · exact absurd hnull hn
  · have hclosed := Bool.eq_false_iff.2 fun h => hbad ⟨hin, (taskKind_iff ..).1 h⟩
    exact (farTask_eq ..).trans (bind_raises (require_fails hclosed _ _))
  · exact (farTask_eq ..).trans <| (bind_passes (require_passes ((taskKind_iff ..).2 hopen) _ _)).trans
      (bind_raises (require_fails hpr _ _))
  · exact (farTask_eq ..).trans <| (bind_passes (require_passes ((taskKind_iff ..).2 hopen) _ _)).trans <|
      (bind_passes (require_passes hpr _ _)).trans (bind_raises (taskTarget_raises hp hopen.1 ht htss))

/-- A selector that names a task. -/
theorem farProt_task {os : Sz} {off : Dword} (h : HasTask b sel) :
    farProt call os off sel b = (farTask call sel (descAt b sel) >>= fun _ => pure true) b := by
  obtain ⟨hn, hin, hs, ht⟩ := h
  have hcode : ¬ (descAt b sel).isCode = true := not_isCode_of_system hs
  have hgate : ¬ ((descAt b sel).isSys 4#4 || (descAt b sel).isSys 12#4) = true := by
    rw [isGate_iff]
    rintro ⟨-, h⟩
    rcases ht with ht | ht | ht | ht | ht <;> simp [ht] at h
  rw [farProt_named hp hn hin]
  exact congrFun ((if_neg hcode).trans <| (if_neg hgate).trans (if_pos (isTask_iff.2 ⟨hs, ht⟩))) b

end

/-! ## Far JMP and CALL to a task -/

/-- A transfer that switched tasks keeps the RF of the new one. -/
theorem performTransfer_switched {s t : State} {m : M Bool} (ha : Accepts s false) (h : m (begun s) = .ok (true, t)) :
    performTransfer s m = .next (retire s t) :=
  performKeepingRF_ok (lock_eq_false_of_accepts ha) ha.2 (bind_completes h)

/-- An exception after the commit point is taken from the new task. -/
theorem performTransfer_raises_committed {s t : State} {m : M Bool} {e : Exc} (ha : Accepts s false)
    (h : m (begun s) = .error (.exc e t true)) : performTransfer s m = takeFault e t :=
  performTransfer_exc (lock_eq_false_of_accepts ha) ha.2 h

section
variable {s u : State} {call : Bool} {os : Sz} {off : Dword} {sel t : Word} {td : Desc} {i : Instr} {e : Exc}
  (ha : Accepts s false) (hm : s.mode = .prot) (hp : s.cr0.pg = false) (h : FarForm s call os off sel u i)
include hm hp h

/-- In the state that its operand leaves, a far form to a task is the way to it and the switch. -/
theorem farForm_task (ht : HasTask u sel) :
    farTransfer call os off sel u = (farTask call sel (descAt u sel) >>= fun _ => pure true) u :=
  (farTransfer_prot ((mode_of_farForm h).trans hm)).trans
    (farProt_task (by rw [(found_of_farForm h).same]; exact hp) ht)

theorem farForm_switch (hl : LeadsTo u sel t td) : farTransfer call os off sel u =
    (taskTaken (taskSwitch call) (taskExc call 0#16) t td s.next >>= fun _ => pure true) u := by
  have hnext : u.next = s.next := by rw [(found_of_farForm h).same]; rfl
  have hpu : u.cr0.pg = false := by rw [(found_of_farForm h).same]; exact hp
  rw [farForm_task hm hp h (hasTask_of_leadsTo hl), M.bind_run, farTask_of_leadsTo hpu hl, hnext, ← M.bind_run]

include ha

theorem farForm_leadsNowhere (hl : LeadsNowhere u sel (taskExc call) e) : Takes i s u e := by
  have hpu : u.cr0.pg = false := by rw [(found_of_farForm h).same]; exact hp
  exact takes_of_farForm ha h ((farForm_task hm hp h hl.1).trans (bind_raises (farTask_of_leadsNowhere hpu hl)))

variable (hl : LeadsTo u sel t td)
include hl

theorem farForm_short (hshort : ¬ TaskHolds td) : Takes i s u (excTS (selErr t)) :=
  takes_of_farForm ha h ((farForm_switch hm hp h hl).trans (bind_raises (taskTaken_short hshort)))

theorem farForm_traps (ht : TaskTraps (taskSwitch call) t td s.next u) : exec i s = .refused .tssTrapBit := by
  have hpu : u.cr0.pg = false := by rw [(found_of_farForm h).same]; exact hp
  obtain ⟨m, hexec, hrun⟩ := farForm_run h
  have hswitch := (farForm_switch hm hp h hl).trans (bind_error (taskTaken_refuses hpu ht))
  exact hexec.trans (performTransfer_refuse ha (hrun.trans hswitch))

theorem farForm_taskFails {v : State} (hf : TaskFails (taskSwitch call) t td s.next u e v) : exec i s = takeFault e v := by
  have hpu : u.cr0.pg = false := by rw [(found_of_farForm h).same]; exact hp
  obtain ⟨m, hexec, hrun⟩ := farForm_run h
  have hswitch := (farForm_switch hm hp h hl).trans (bind_error (taskTaken_raises hpu hf))
  exact hexec.trans (performTransfer_raises_committed ha (hrun.trans hswitch))

theorem farForm_taskEnters {v : State} {stored : List Nat} (hv : TaskEnters (taskSwitch call) t td s.next u v stored) :
    (InCode v v.eip → exec i s = .next (retire s v)) ∧ (¬ InCode v v.eip → exec i s = takeFault (taskExc call 0#16) v) := by
  have hpu : u.cr0.pg = false := by rw [(found_of_farForm h).same]; exact hp
  obtain ⟨m, hexec, hrun⟩ := farForm_run h
  refine ⟨fun hin => ?_, fun hin => ?_⟩
  · have hswitch := (farForm_switch hm hp h hl).trans (bind_completes (taskTaken_run hpu hv hin))
    exact hexec.trans (performTransfer_switched ha (hrun.trans hswitch))
  · have hswitch := (farForm_switch hm hp h hl).trans (bind_error (taskTaken_raises_limit hpu hv hin))
    exact hexec.trans (performTransfer_raises_committed ha (hrun.trans hswitch))

end

/-! ## IRET with NT = 1 -/

theorem busyTss_iff (d : Desc) : d.busyTss = true ↔ BusyTask d := by
  rw [Desc.busyTss, Bool.or_eq_true, isSys_iff, isSys_iff, BusyTask, and_or_left]

theorem checkCodeLimit_eq_require (c : SegReg) (off : Dword) :
    checkCodeLimit c off = require (c.holds off.toNat 1) (excGP 0#16) := by
  funext s
  rw [require_run, checkCodeLimit]
  split <;> rfl

/-- The back link names the task to return to. -/
theorem iretTask_eq {b : State} (hp : b.cr0.pg = false) :
    iretTask b = (tssChecked Desc.busyTss (wordAt b b.tr.base) excTS >>= fun td =>
      taskTaken .iret (excGP 0#16) (wordAt b b.tr.base) td b.next) b := by
  refine (bind_passes (M.get_run b)).trans <| (bind_passes (linRead_word hp b.tr.base)).trans ?_
  simp only [tssChecked, taskTaken, checkCodeLimit_eq_require, bind_assoc, pure_bind]
  rfl

section
variable {b : State} {os : Sz} {td : Desc} {e : Exc} (hm : b.mode = .prot) (hn : b.flags.nt = true)
  (hp : b.cr0.pg = false)
include hm hn

theorem returnFromInterrupt_task : returnFromInterrupt os b = (iretTask >>= fun _ => modify unblocked) b := by
  have hreal : ¬ (b.mode = .real ∨ (b.mode = .v86 ∧ b.flags.iopl = 3#2)) := by simp [hm]
  have hv86 : ¬ b.mode = .v86 := by simp [hm]
  exact (bind_passes (M.get_run b)).trans (congrFun ((if_neg hreal).trans <| (if_neg hv86).trans (if_pos hn)) b)

include hp

theorem returnFromInterrupt_badLink (h : TssFails b (wordAt b b.tr.base) BusyTask excTS e) :
    returnFromInterrupt os b = .error (.exc e b false) := by
  rw [returnFromInterrupt_task hm hn]
  exact bind_raises ((iretTask_eq hp).trans (bind_raises (tssChecked_raises busyTss_iff hp h)))

theorem returnFromInterrupt_switch (h : TssNamed b (wordAt b b.tr.base) BusyTask td) : returnFromInterrupt os b =
    (taskTaken .iret (excGP 0#16) (wordAt b b.tr.base) td b.next >>= fun _ => modify unblocked) b := by
  rw [returnFromInterrupt_task hm hn, M.bind_run, iretTask_eq hp, bind_passes (tssChecked_run busyTss_iff hp h), ← M.bind_run]

end

theorem performKeepingRF_refuse {s : State} {m : M Unit} {r : Refusal} (ha : Accepts s false)
    (h : m (begun s) = .error (.refuse r)) : performKeepingRF s m = .refused r :=
  runM_refuse ((bind_passes (checkPrefixes_ok ha.1 ha.2 _)).trans h)

section
variable {s v : State} {os : Sz} {td : Desc} {e : Exc} (ha : Accepts s false) (hm : s.mode = .prot)
  (hn : s.flags.nt = true) (hp : s.cr0.pg = false)
include ha hm hn hp

theorem iret_badLink (h : TssFails (begun s) (wordAt (begun s) (begun s).tr.base) BusyTask excTS e) :
    exec (.iret os) s = takeFault e s :=
  iret_raises ha (returnFromInterrupt_badLink (b := begun s) hm hn hp h)

variable (h : TssNamed (begun s) (wordAt (begun s) (begun s).tr.base) BusyTask td)
include h

theorem iret_short (hshort : ¬ TaskHolds td) :
    exec (.iret os) s = takeFault (excTS (selErr (wordAt (begun s) (begun s).tr.base))) s :=
  iret_raises ha <| (returnFromInterrupt_switch (b := begun s) hm hn hp h).trans (bind_raises (taskTaken_short hshort))

theorem iret_traps (ht : TaskTraps .iret (wordAt (begun s) (begun s).tr.base) td s.next (begun s)) :
    exec (.iret os) s = .refused .tssTrapBit :=
  performKeepingRF_refuse ha <| (returnFromInterrupt_switch (b := begun s) hm hn hp h).trans
    (bind_error (taskTaken_refuses (b := begun s) hp ht))

theorem iret_taskFails (hf : TaskFails .iret (wordAt (begun s) (begun s).tr.base) td s.next (begun s) e v) :
    exec (.iret os) s = takeFault e v :=
  performKeepingRF_exc (lock_eq_false_of_accepts ha) ha.2 <|
    (returnFromInterrupt_switch (b := begun s) hm hn hp h).trans (bind_error (taskTaken_raises (b := begun s) hp hf))

/-- NMI is unblocked when the whole IRET succeeds. -/
theorem iret_taskEnters {stored : List Nat}
    (hv : TaskEnters .iret (wordAt (begun s) (begun s).tr.base) td s.next (begun s) v stored) :
    (InCode v v.eip → exec (.iret os) s = .next (retire s (unblocked v))) ∧
      (¬ InCode v v.eip → exec (.iret os) s = takeFault (excGP 0#16) v) := by
  have hswitch := returnFromInterrupt_switch (os := os) (b := begun s) hm hn hp h
  refine ⟨fun hin => iret_completes ha (hswitch.trans (bind_completes (taskTaken_run (b := begun s) hp hv hin))), fun hin => ?_⟩
  exact performKeepingRF_exc (lock_eq_false_of_accepts ha) ha.2
    (hswitch.trans (bind_error (taskTaken_raises_limit (b := begun s) hp hv hin)))

end

/-! ## Task gates of the IDT -/

section
variable {b t : State} {ev : Event} {td : Desc} {stored : List Nat}

theorem slots_reflagged {u : State} {f : Flags} (h : f.vm = u.flags.vm) (sz : Sz) (k : Nat) :
    slots (reflagged u f) sz k = slots u sz k := by
  simp only [slots, slot, below_reflagged h]
  rfl

theorem byte_taskDelivers_other {vector : Byte} {ret : Dword} {code : Option Word}
    (h : TaskDelivers b vector ret code t stored) {a : Nat} (ha : a ∉ stored) : t.byte a = b.byte a := by
  obtain ⟨td, v, s1, -, hv, -, -, rfl, rfl⟩ := h
  rw [List.mem_append, not_or] at ha
  have hbelow : slots (unstepped v) (taskSize td) (codeElements code).length = slots v (taskSize td) (codeElements code).length :=
    slots_reflagged rfl _ _
  have hpush := (descends_pushList (taskSize td) (codeElements code) (unstepped v)).byte a (by rw [hbelow]; exact ha.2)
  rw [hpush]
  exact byte_taskEnters_other hv ha.1

theorem taskHandler_run {v : State} (h : Available td) (hp : v.cr0.pg = false)
    (hr : Room v (taskSize td) (codeElements ev.code).length) (hin : InCode v v.eip) :
    taskHandler ev td v = .ok ((), pushList (unstepped v) (taskSize td) (codeElements ev.code)) := by
  have hr : Room (unstepped v) (taskSize td) ev.codes.length := room_reflagged rfl hr
  have hp : (unstepped v).cr0.pg = false := hp
  exact (taskHandler_begins h ev v).trans <|
    (bind_passes (checkRoom_ok ((stackRoom_iff_hasRoom _ _ _).2 (hasRoom_of_room hr)) _)).trans <|
    (bind_completes (pushAll_run hp hr)).trans (checkCodeLimit_ok hin _)

/-- The delivery that `TaskDelivers` describes switches tasks and runs so. -/
theorem deliver_of_taskDelivers (hpe : b.cr0.pe = true) (hp : b.cr0.pg = false)
    (hs : ev.software = true → b.cpl ≤ (gateAt b ev.vector).dpl) (h : TaskDelivers b ev.vector ev.ret ev.code t stored) :
    deliver ev b = .ok (true, t) := by
  obtain ⟨td, v, s1, ⟨hvec, hg, hpr, htd⟩, hv, hr, hin, rfl, -⟩ := h
  refine deliver_prot_ok hpe ?_
  obtain ⟨-, -, hk, -⟩ := id htd
  have hhandler := taskHandler_run (ev := ev) hk (switchTasks_run (b := awake b) hp hv).2 hr hin
  have hrun := (deliverTask_switched (b := awake b) (ev := ev) hp htd hv).trans (committed_ok hhandler)
  exact (deliverProt_task (b := awake b) hp ⟨hvec, .inr hg, hs⟩ hpr hg).trans (bind_completes hrun)

theorem deliver_of_gateTraps (hpe : b.cr0.pe = true) (hp : b.cr0.pg = false)
    (hs : ev.software = true → b.cpl ≤ (gateAt b ev.vector).dpl) (h : GateTraps b ev.vector ev.ret) :
    deliver ev b = .error (.refuse .tssTrapBit) := by
  obtain ⟨td, ⟨hvec, hg, hpr, htd⟩, ht⟩ := h
  refine deliver_prot_refuse hpe ?_
  rw [deliverProt_task (b := awake b) hp ⟨hvec, .inr hg, hs⟩ hpr hg]
  exact bind_error ((bind_passes (fetchTss_run (b := awake b) hp htd)).trans (bind_error (switchTasks_refuses hp ht)))

end

/-- An exception whose delivery completes, a double fault with its error code 0 among them. -/
theorem takeFault_of_delivered {x : Exc} {s t : State} {a : Bool} (hx : x.vector = 8#8 → x.code = some 0#16)
    (h : deliver (excEvent x s) s = .ok (a, t)) : takeFault x s = .next (settle t) := by
  by_cases h8 : x.vector = 8#8
  · obtain rfl : x = excDF := by rw [excDF, ← h8, ← hx h8]
    have hdouble : takeFault excDF s = takeDoubleFault s := rfl
    rw [hdouble]
    simp only [takeDoubleFault, h]
  · exact takeFault_of_deliver h8 h

/-- An exception whose delivery from this state is refused. -/
theorem takeFault_of_refused {x : Exc} {s : State} {r : Refusal}
    (h : ∀ code, deliver (excEvent { vector := x.vector, code := code } s) s = .error (.refuse r)) :
    takeFault x s = .refused r := by
  have hx : deliver (excEvent x s) s = .error (.refuse r) := h x.code
  rw [takeFault]
  split_ifs with h14 hset h8
  · simp only [takePageFault, hx]
  · simp only [takeContributory, hx]
  · have hdf := h (some 0#16)
    rw [h8] at hdf
    simp only [takeDoubleFault, excDF, hdf]
  · simp only [hx]

section
variable {s t : State} {vector : Byte} {stored : List Nat} (hpe : s.cr0.pe = true) (hp : s.cr0.pg = false)
include hpe hp

theorem takeFault_of_taskDelivers {code : Option Word} (hc : vector = 8#8 → code = some 0#16)
    (h : TaskDelivers s vector s.eip code t stored) : takeFault { vector := vector, code := code } s = .next (settle t) :=
  takeFault_of_delivered hc
    (deliver_of_taskDelivers (ev := excEvent { vector := vector, code := code } s) hpe hp (fun h => absurd h Bool.false_ne_true) h)

theorem takeInterrupt_of_taskDelivers (h : TaskDelivers s vector s.eip none t stored) :
    takeInterrupt vector s = .next (settle t) :=
  takeInterrupt_of_deliver
    (deliver_of_taskDelivers (ev := interruptEvent vector s) hpe hp (fun h => absurd h Bool.false_ne_true) h)

theorem software_of_taskDelivers {i : Instr} (ha : Accepts s false) (hdpl : s.cpl ≤ (gateAt s vector).dpl)
    (h : TaskDelivers (begun s) vector s.next none t stored) (hi : Software s vector i) : exec i s = .next (retire s t) := by
  obtain ⟨m, hexec, hm⟩ := software_run hi
  have hrun := deliver_of_taskDelivers (b := begun s) (ev := softwareEvent vector (begun s)) hpe hp (fun _ => hdpl) h
  exact hexec.trans (performTransfer_switched ha ((hm.trans (softwareInterrupt_eq ..)).trans hrun))

theorem refusesDelivery_gateTraps : RefusesDelivery s vector (fun b ret => GateTraps b vector ret) .tssTrapBit := by
  refine ⟨fun h => ⟨fun code => takeFault_of_refused fun code => ?_, takeInterrupt_of_refuse ?_⟩, fun ha hdpl h i hi => ?_⟩
  · exact deliver_of_gateTraps (ev := excEvent { vector := vector, code := code } s) hpe hp
      (fun h => absurd h Bool.false_ne_true) h
  · exact deliver_of_gateTraps (ev := interruptEvent vector s) hpe hp (fun h => absurd h Bool.false_ne_true) h
  · obtain ⟨m, hexec, hm⟩ := software_run hi
    have hrun := deliver_of_gateTraps (b := begun s) (ev := softwareEvent vector (begun s)) hpe hp (fun _ => hdpl) h
    exact hexec.trans (performTransfer_refuse ha ((hm.trans (softwareInterrupt_eq ..)).trans hrun))

end

/-- Settles O27: JMP, CALL and IRET find their TSS and switch to it, and so does a delivery through a task gate. -/
theorem taskSwitches : Obligations.TaskSwitches := by
  unfold Obligations.TaskSwitches
  intro s hp hreal
  have hpe := cr0_pe_of_mode hreal
  refine ⟨fun call os off sel u i ha hm h => ⟨fun e => farForm_leadsNowhere ha hm hp h, fun t td hl => ?far⟩,
    fun os ha hm hn => ⟨fun e => iret_badLink ha hm hn hp, fun td h => ?iret⟩, fun vector t stored => ?gate,
    fun vector => refusesDelivery_gateTraps hpe hp⟩
  case far =>
    refine ⟨farForm_short ha hm hp h hl, farForm_traps ha hm hp h hl, fun e v => farForm_taskFails ha hm hp h hl,
      fun v stored hv => ?_⟩
    obtain ⟨hruns, hfaults⟩ := farForm_taskEnters ha hm hp h hl hv
    exact ⟨fun hin => ⟨hruns hin, fun a => byte_taskEnters_other hv, found_of_farForm h⟩, hfaults⟩
  case iret =>
    refine ⟨iret_short ha hm hn hp h, iret_traps ha hm hn hp h, fun e v => iret_taskFails ha hm hn hp h,
      fun v stored hv => ?_⟩
    obtain ⟨hruns, hfaults⟩ := iret_taskEnters (os := os) ha hm hn hp h hv
    exact ⟨fun hin => ⟨hruns hin, fun a => byte_taskEnters_other hv⟩, hfaults⟩
  case gate =>
    refine ⟨fun code hc h => ⟨takeFault_of_taskDelivers hpe hp hc h, fun a => byte_taskDelivers_other h⟩,
      fun h => ⟨takeInterrupt_of_taskDelivers hpe hp h, fun a => byte_taskDelivers_other h⟩,
      fun ha hdpl h i hi => ⟨software_of_taskDelivers hpe hp ha hdpl h hi, fun a => byte_taskDelivers_other h⟩⟩

end Sys2Proof.Machine
end

section
/-! PROOFS. Deliveries that fail in Real Address Mode: double fault and shutdown (60_exceptions.md R547, R548, 42_i.md R287). -/

namespace Sys2Proof.Machine

open Sys2Proof.Claims

/-! ## A stack without room -/

/-- The first push has room and the others after it. -/
theorem room_succ {sz : Sz} {u v : State} {k : Nat} (hd : Descends sz 1 u v)
    (h0 : u.accessExc .ss (below u sz 1) sz.bytes true = none) (hr : Room v sz k) : Room u sz (k + 1) := by
  intro i hi
  cases i with
  | zero => exact h0
  | succ i =>
    have h := hr i (by omega)
    rwa [hd.accessExc, hd.below_eq, Nat.add_comm 1] at h

/-- Outside protected mode only the limit is checked. -/
theorem accessExc_real {u : State} (hpe : u.cr0.pe = false) {off : Dword} {n : Nat} {e : Exc}
    (h : u.accessExc .ss off n true = some e) : e = excGP 0#16 := by
  have hm : u.mode = .real := by simp [State.mode, hpe]
  have hprot : u.mode ≠ .prot := by simp [hm]
  have hlimit : u.limitExc .ss = excGP 0#16 := by
    simp only [State.limitExc, hm]
    rfl
  simp only [State.accessExc, hprot, hlimit, false_and, if_false] at h
  split at h
  · cases h
  · exact (Option.some.inj h).symm

/-- Pushes that do not all have room: the first that has none raises #GP(0), with CR2 and the free values as they were. -/
theorem pushAll_raises_real {sz : Sz} {vs : List Dword} {u : State} (hpe : u.cr0.pe = false) (hp : u.cr0.pg = false)
    (h : ¬ Room u sz vs.length) :
    ∃ st, pushAll sz vs u = .error (.exc (excGP 0#16) st false) ∧ st.cr2 = u.cr2 ∧ st.draws = u.draws := by
  induction vs generalizing u with
  | nil => exact absurd (fun i hi => absurd hi (Nat.not_lt_zero i)) h
  | cons v vs ih =>
    have hd := descends_pushed u sz v
    cases hx : u.accessExc .ss (below u sz 1) sz.bytes true with
    | some e =>
      obtain rfl := accessExc_real hpe hx
      exact ⟨u, bind_error (push_fails (openMem_exc hx) v), rfl, rfl⟩
    | none =>
      obtain ⟨st, hrun, hcr2, hdraws⟩ := ih (u := pushed u sz (slot u sz 1) v) (by rwa [hd.cr0]) (by rwa [hd.cr0])
        fun hr => h (room_succ hd hx hr)
      have hfirst : Room u sz 1 := room_succ (k := 0) hd hx fun i hi => absurd hi (Nat.not_lt_zero i)
      exact ⟨st, (bind_completes (push_room hp hfirst v)).trans hrun, hcr2.trans (setBytes_cr2 ..),
        hdraws.trans (setBytes_draws ..)⟩

/-! ## One delivery -/

/-- Whether a delivery gets as far as the free RF of its image: only that of a double fault has one. -/
def imageDraws (e : Event) (b : State) : Nat := if e.rf = .free ∧ 4 * e.vector.toNat + 3 ≤ b.idtr.limit.toNat then 1 else 0

/-- The image of EFLAGS, and the free value that its RF may use. -/
theorem imageFlags_draws (e : Event) (u : State) :
    ∃ v, imageFlags e u = .ok (v, withFlags u (if e.rf = .free then 1 else 0) u.flags) := by
  cases h : e.rf <;> simp [imageFlags, h, withFlags]

theorem deliver_real_exc {e : Event} {x : Exc} {s st : State} {c : Bool} (hpe : s.cr0.pe = false)
    (h : deliverReal e (awake s) = .error (.exc x st c)) :
    deliver e s = .error (.exc (if e.ext then withExt x else x) st c) := by
  have h : deliverReal e { s with inhibit := .none, halted := false } = .error (.exc x st c) := h
  simp [deliver, hpe, h]

/-- A delivery that is not possible raises #GP(0), with CR2 as it was. -/
theorem deliver_real_raises {e : Event} {b : State} (hpe : b.cr0.pe = false) (hp : b.cr0.pg = false)
    (h : ¬ Deliverable b e.vector) : ∃ st, deliver e b =
      .error (.exc (if e.ext then external (excGP 0#16) else excGP 0#16) st false) ∧
      st.cr2 = b.cr2 ∧ st.draws = b.draws + imageDraws e b := by
  by_cases hlimit : 4 * e.vector.toNat + 3 ≤ b.idtr.limit.toNat
  · have hvector : decide (e.vector.toNat * 4 + 3 ≤ b.idtr.limit.toNat) = true := by
      rw [decide_eq_true_eq, Nat.mul_comm]; exact hlimit
    obtain ⟨image, himage⟩ := imageFlags_draws e (awake b)
    have hroom : ¬ Room (withFlags (awake b) (if e.rf = .free then 1 else 0) b.flags) .s16 3 :=
      fun hr => h ⟨hpe, hp, hlimit, hr⟩
    obtain ⟨st, hpush, hcr2, hdraws⟩ := pushAll_raises_real (vs := [image, b.cs.sel.setWidth 32, e.ret])
      (u := withFlags (awake b) (if e.rf = .free then 1 else 0) b.flags) hpe hp hroom
    refine ⟨st, deliver_real_exc hpe ?_, hcr2, hdraws.trans ?_⟩
    · exact (bind_passes (M.get_run _)).trans <| (bind_passes (require_passes hvector _ _)).trans <|
        (bind_completes himage).trans (bind_error hpush)
    · simp only [imageDraws, and_iff_left hlimit]
      rfl
  · have hvector : decide (e.vector.toNat * 4 + 3 ≤ b.idtr.limit.toNat) = false := by
      rw [decide_eq_false_iff_not, Nat.mul_comm]; exact hlimit
    refine ⟨awake b, deliver_real_exc hpe ?_, rfl, ?_⟩
    · exact (bind_passes (M.get_run _)).trans (bind_raises (require_fails hvector _ _))
    · rw [imageDraws, if_neg fun h => hlimit h.2]
      rfl

/-- Only the delivery of a double fault uses a free value. -/
theorem imageDraws_excEvent {x : Exc} (hx : x.vector ≠ 8#8) (s : State) : imageDraws (excEvent x s) s = 0 := by
  refine if_neg fun h => ?_
  rw [excEvent_rf hx] at h
  split at h <;> exact absurd h.1 (by decide)

/-- An exception but a double fault that cannot be delivered: #GP, from the same state. -/
theorem deliver_excEvent_raises {x : Exc} {s : State} (hpe : s.cr0.pe = false) (hp : s.cr0.pg = false) (hx : x.vector ≠ 8#8)
    (h : ¬ Deliverable s x.vector) :
    ∃ st, deliver (excEvent x s) s = .error (.exc (external (excGP 0#16)) st false) ∧ rollback s st false = s := by
  obtain ⟨st, hrun, hcr2, hdraws⟩ := deliver_real_raises (e := excEvent x s) hpe hp h
  rw [imageDraws_excEvent hx, Nat.add_zero] at hdraws
  refine ⟨st, hrun, ?_⟩
  simp [rollback, hcr2, hdraws]

/-! ## What becomes of it -/

section
variable {x : Exc} {s : State} (hpe : s.cr0.pe = false) (hp : s.cr0.pg = false)
include hpe hp

/-- Shutdown: the double fault cannot be delivered either. -/
theorem takeDoubleFault_shutdown (h : ¬ Deliverable s 8#8) : takeDoubleFault s =
    .next (settle { s with shutdown := true, draws := s.draws + if 35 ≤ s.idtr.limit.toNat then 1 else 0 }) := by
  obtain ⟨st, hrun, hcr2, hdraws⟩ := deliver_real_raises (e := excEvent excDF s) hpe hp h
  have hone : imageDraws (excEvent excDF s) s = if 35 ≤ s.idtr.limit.toNat then 1 else 0 := by
    rw [imageDraws]
    exact if_congr (and_iff_right rfl) rfl rfl
  simp only [takeDoubleFault, hrun, enterShutdown, rollback, hcr2, hdraws, hone, Bool.false_eq_true, if_false]

/-- A second exception of the double-fault set. -/
theorem takeFault_double (hx : x.vector ∈ [0#8, 10#8, 11#8, 12#8, 13#8, 14#8]) (h : ¬ Deliverable s x.vector) :
    takeFault x s = takeDoubleFault s := by
  have h8 : x.vector ≠ 8#8 := by
    rintro h8
    rw [h8] at hx
    exact absurd hx (by decide)
  obtain ⟨st, hrun, hback⟩ := deliver_excEvent_raises hpe hp h8 h
  by_cases h14 : x.vector = 14#8
  · simp [takeFault, takePageFault, h14, hrun, hback]
  · have hset : contributory x.vector = true := by simpa [contributory, h14, or_assoc] using hx
    have hgp : (external (excGP 0#16)).vector ≠ 14#8 := by decide
    simp [takeFault_of_contributory hset, takeContributory, hrun, hback, hgp]

/-- Outside the set the #GP is taken in turn. -/
theorem takeFault_again (hx : x.vector ∉ [0#8, 10#8, 11#8, 12#8, 13#8, 14#8, 8#8]) (h : ¬ Deliverable s x.vector) :
    takeFault x s = takeFault (external (excGP 0#16)) s := by
  simp only [List.mem_cons, List.not_mem_nil, or_false, not_or] at hx
  obtain ⟨h0, h10, h11, h12, h13, h14, h8⟩ := hx
  obtain ⟨st, hrun, hback⟩ := deliver_excEvent_raises hpe hp h8 h
  have hgp : (external (excGP 0#16)).vector ≠ 14#8 := by decide
  have hset : contributory (external (excGP 0#16)).vector = true := by decide
  rw [takeFault_of_contributory hset]
  simp [takeFault, contributory, *]

theorem takeInterrupt_again {vector : Byte} (h : ¬ Deliverable s vector) :
    takeInterrupt vector s = takeFault (external (excGP 0#16)) s := by
  obtain ⟨st, hrun, hcr2, hdraws⟩ := deliver_real_raises (e := interruptEvent vector s) hpe hp h
  have hnone : imageDraws (interruptEvent vector s) s = 0 := if_neg fun h => nomatch h.1
  rw [hnone, Nat.add_zero] at hdraws
  rw [interruptEvent] at hrun
  simp only [takeInterrupt, hrun, takeException, rollback, hcr2, hdraws, Bool.false_eq_true, if_false, if_true]

/-- INT with no room on the stack: #GP(0), a double fault, shutdown. -/
theorem intImm8_shutdown {n : Byte} (ha : Accepts s false) (h : ¬ Room s .s16 3) : exec (.intImm8 n) s =
    .next (settle { s with shutdown := true, draws := s.draws + if 35 ≤ s.idtr.limit.toNat then 1 else 0 }) := by
  have hreal : s.mode = .real := by simp [State.mode, hpe]
  obtain ⟨st, hrun, hcr2, hdraws⟩ := deliver_real_raises (b := begun s) (e := softwareEvent n (begun s)) hpe hp
    fun hd => h hd.2.2.2
  have hnone : imageDraws (softwareEvent n (begun s)) (begun s) = 0 := if_neg fun h => nomatch h.1
  rw [hnone, Nat.add_zero] at hdraws
  have hback : rollback s st false = s := by simp [rollback, hcr2, hdraws, begun]
  have hop := (intImm8_passes (n := n) fun hv => by simp [hreal] at hv).trans ((softwareInterrupt_eq n (begun s)).trans hrun)
  refine (performTransfer_exc (lock_eq_false_of_accepts ha) ha.2 hop).trans ?_
  rw [takeException, hback]
  exact (takeFault_double (x := excGP 0#16) hpe hp (by decide) fun hd => h hd.2.2.2).trans
    (takeDoubleFault_shutdown hpe hp fun hd => h hd.2.2.2)

end

/-- A double fault that can be delivered: RF of its image is free. -/
theorem takeDoubleFault_delivered {s : State} (h : Deliverable s 8#8) : takeDoubleFault s =
    .next (settle (entered (withFlags s 1 s.flags) { s.flags with rf := (free s 0 1).getLsbD 0 } 8#8 s.eip)) := by
  obtain ⟨hpe, hpg, hlimit, hroom⟩ := h
  have hvector : decide ((8#8).toNat * 4 + 3 ≤ s.idtr.limit.toNat) = true := decide_eq_true hlimit
  have hrun : deliver (excEvent excDF s) s =
      .ok (false, entered (withFlags s 1 s.flags) { s.flags with rf := (free s 0 1).getLsbD 0 } 8#8 s.eip) := by
    refine deliver_real_ok hpe ?_
    have hpg' : (imagePushed (withFlags s 1 s.flags) { s.flags with rf := (free s 0 1).getLsbD 0 } s.eip).cr0.pg = false :=
      (congrArg Cr0.pg (pushList_cr0 ..)).trans hpg
    rw [entered_eq]
    exact (bind_passes (M.get_run _)).trans <| (bind_passes (require_passes hvector _ _)).trans <|
      (bind_completes rfl).trans <| (bind_completes (imagePushed_run (b := withFlags s 1 s.flags) hpg hroom)).trans
      (vectorEntered_run hpg' _)
  simp only [takeDoubleFault, hrun]

/-- Settles O50: each failing delivery raises #GP, and the vector decides what becomes of it. -/
theorem doubleFaultAndShutdown : Obligations.DoubleFaultAndShutdown := by
  unfold Obligations.DoubleFaultAndShutdown
  refine ⟨fun s x hpe hp hlimit => ?_, fun s n ha hpe hp h => intImm8_shutdown hpe hp ha h⟩
  have hfails : ¬ Deliverable s x.vector := fun ⟨_, _, h, _⟩ => by omega
  refine ⟨fun hx hd => (takeFault_double hpe hp hx hfails).trans (takeDoubleFault_delivered hd), fun hx hshort => ?_,
    fun hx hd => ?_⟩
  · have hdf : ¬ Deliverable s 8#8 := fun ⟨_, _, h, _⟩ => absurd h (by simpa using hshort)
    have hdown := takeDoubleFault_shutdown hpe hp hdf
    rw [if_neg (by omega)] at hdown
    refine Eq.trans ?_ hdown
    by_cases h8 : x.vector = 8#8
    · simp [takeFault, contributory, h8]
    · exact takeFault_double hpe hp (by simpa [h8] using hx) hfails
  · have hgp : takeFault (external (excGP 0#16)) s = .next (settle (entered s { s.flags with rf := true } 13#8 s.eip)) :=
      (deliveryReal s 13#8 hd).1 _ (by decide)
    exact ⟨(takeFault_again hpe hp hx hfails).trans hgp, (takeInterrupt_again hpe hp hfails).trans hgp⟩

end Sys2Proof.Machine
end

section
/-! PROOFS. The events of the instruction boundary (60_exceptions.md R520 to R523, R545, R548). -/

namespace Sys2Proof.Machine

open Sys2Proof.Claims

/-! ## The boundary, event by event -/

/-- When no interrupt is taken: a halted processor waits, any other runs an instruction. -/
noncomputable def uninterrupted (s : State) : Host.Outcome State Fault Refusal :=
  if s.halted then .next { s with inhibit := .none, trapPending := false } else runInstruction { s with trapPending := false }

/-- INTR, where it is not masked. -/
noncomputable def maskable (s : State) : Host.Outcome State Fault Refusal :=
  match s.pins.intr, s.flags.ie && s.inhibit = .none with
  | some vector, true => takeInterrupt vector s
  | _, _ => uninterrupted s

/-- The events of a processor that is not in shutdown. -/
noncomputable def boundaryEvent (s : State) : Host.Outcome State Fault Refusal :=
  if s.trapPending && s.inhibit ≠ .all then takeTrap s
  else if s.nmiPending && !s.nmiBlocked && s.inhibit ≠ .all then takeInterrupt 2#8 (acceptNmi s)
  else maskable s

section
variable {s : State}

/-- Without RESET and out of the states that the machine stops on. -/
theorem step_regular (hr : s.pins.reset = false) (h : Regular s) :
    step s = if s.shutdown then inShutdown s else boundaryEvent s := by
  obtain ⟨hvm, hpg, hdr7⟩ := h
  have hvm : ¬ (s.flags.vm && !s.cr0.pe) = true := by simpa using hvm
  have hpg : ¬ (s.cr0.pg && !s.cr0.pe) = true := by simpa using hpg
  have hdr7 : ¬ breakpointsOn s.dr7 = true := mt (breakpointsOn_iff s.dr7).1 hdr7
  rw [step, stepBoundary, if_neg (Bool.eq_false_iff.1 hr), if_neg hvm, if_neg hdr7, if_neg hpg]
  rfl

theorem step_event (hr : s.pins.reset = false) (h : Regular s) (hs : s.shutdown = false) : step s = boundaryEvent s :=
  (step_regular hr h).trans (if_neg (Bool.eq_false_iff.1 hs))

theorem step_shutdown (hr : s.pins.reset = false) (h : Regular s) (hs : s.shutdown = true) : step s = inShutdown s :=
  (step_regular hr h).trans (if_pos hs)

theorem boundaryEvent_trap (h : TrapDue s) : boundaryEvent s = takeTrap s := if_pos (by simpa [TrapDue] using h)

theorem boundaryEvent_nmi (h : ¬ TrapDue s) (hn : NmiDue s) : boundaryEvent s = takeInterrupt 2#8 (acceptNmi s) :=
  (if_neg (by simpa [TrapDue] using h)).trans (if_pos (by simpa [NmiDue, and_assoc] using hn))

theorem boundaryEvent_maskable (h : ¬ TrapDue s) (hn : ¬ NmiDue s) : boundaryEvent s = maskable s :=
  (if_neg (by simpa [TrapDue] using h)).trans (if_neg (by simpa [NmiDue, and_assoc] using hn))

theorem maskable_intr {v : Byte} (h : IntrDue s v) : maskable s = takeInterrupt v s := by
  obtain ⟨hv, hie, hin⟩ := h
  simp only [maskable, hv, hie, hin, decide_true, Bool.and_true]

theorem maskable_none (h : ∀ v, ¬ IntrDue s v) : maskable s = uninterrupted s := by
  unfold maskable
  split
  · rename_i v hv hopen
    exact absurd ⟨hv, by simpa using hopen⟩ (h v)
  · rfl

/-- No event is due: the next one is an instruction (60_exceptions.md R520 step 7). -/
theorem step_quiet (h : Quiet s) : step s = runInstruction { s with trapPending := false } := by
  obtain ⟨hr, hreg, hs, hh, htrap, hnmi, hintr⟩ := h
  rw [step_event hr hreg hs, boundaryEvent_maskable htrap hnmi, maskable_none hintr]
  exact if_neg (Bool.eq_false_iff.1 hh)

/-! ## NMI in shutdown -/

/-- The state in which an NMI that leaves shutdown is delivered. -/
def revived (s : State) : State := { acceptNmi s with shutdown := false }

theorem inShutdown_stays (h : ¬ (s.nmiPending = true ∧ s.nmiBlocked = false)) : inShutdown s = .next s :=
  if_neg (by simpa using h)

/-- The NMI is delivered from there. -/
theorem inShutdown_nmi (hn : s.nmiPending = true) (hb : s.nmiBlocked = false) {a : Bool} {t : State}
    (h : deliver (interruptEvent 2#8 (revived s)) (revived s) = .ok (a, t)) : inShutdown s = .next (settle t) := by
  have hdue : (s.nmiPending && !s.nmiBlocked) = true := by rw [hn, hb]; rfl
  rw [interruptEvent, revived] at h
  refine (if_pos hdue).trans ?_
  dsimp only
  rw [show (acceptNmi s).eip = { acceptNmi s with shutdown := false }.eip from rfl, h]

/-- A delivery that fails leaves the processor in shutdown. -/
theorem inShutdown_fails (hn : s.nmiPending = true) (hb : s.nmiBlocked = false) {x : Exc} {st : State} {c : Bool}
    (h : deliver (interruptEvent 2#8 (revived s)) (revived s) = .error (.exc x st c)) :
    inShutdown s = .next { acceptNmi s with cr2 := st.cr2, draws := st.draws } := by
  have hdue : (s.nmiPending && !s.nmiBlocked) = true := by rw [hn, hb]; rfl
  rw [interruptEvent, revived] at h
  refine (if_pos hdue).trans ?_
  dsimp only
  rw [show (acceptNmi s).eip = { acceptNmi s with shutdown := false }.eip from rfl, h]
  rfl

section
variable (hn : s.nmiPending = true) (hb : s.nmiBlocked = false)
include hn hb

theorem inShutdown_real (h : Deliverable s 2#8) :
    inShutdown s = .next (settle (entered (revived s) { s.flags with rf := false } 2#8 s.eip)) :=
  inShutdown_nmi hn hb (deliverReal_run (b := revived s) (e := interruptEvent 2#8 (revived s)) h
    (imageFlags_run (rf := false) rfl (awake (revived s))))

theorem inShutdown_handler {c : Desc} {t : State} {stored : List Nat} (hm : s.mode = .prot) (hp : s.cr0.pg = false)
    (hv : Vectored s 2#8) (hg : IntGate (gateAt s 2#8)) (hpr : (gateAt s 2#8).p = true)
    (hc : Named s (gateAt s 2#8).gateSel (fun d => d.isCode = true) c)
    (h : SameLevel (revived s) (gateAt s 2#8) c { s.flags with rf := false } s.eip none t stored ∨
      InnerLevel (revived s) (gateAt s 2#8) c { s.flags with rf := false } s.eip none t stored) :
    inShutdown s = .next (settle t) := by
  have hpe : (revived s).cr0.pe = true := cr0_pe_of_mode (s := s) (by rw [hm]; decide)
  obtain ⟨-, -, -, hcode, -⟩ := id hc
  have hopen : GateOpens (revived s) (interruptEvent 2#8 (revived s)) := ⟨hv, .inl hg, fun h => absurd h Bool.false_ne_true⟩
  have himage := imageFlags_run (e := interruptEvent 2#8 (revived s)) (rf := false) rfl (awake (revived s))
  refine inShutdown_nmi hn hb (deliver_of_runHandler hpe hp hopen hg hpr hc ?_)
  obtain h | h := h
  · exact runHandler_sameLevel (b := revived s) hm hp hcode himage h
  · exact runHandler_innerLevel (b := revived s) hm hp hcode himage h

theorem inShutdown_fault {e : Exc} {u : State} (hm : s.mode ≠ .real) (hp : s.cr0.pg = false)
    (h : DeliveryFault (revived s) (revived s) 2#8 s.eip false none e u) :
    inShutdown s = .next { acceptNmi s with cr2 := u.cr2, draws := u.draws } := by
  have hpe : (revived s).cr0.pe = true := cr0_pe_of_mode (s := s) hm
  have hback : rollback (revived s) (awake (revived s)) false = revived s := rfl
  obtain ⟨st, c, hrun, rfl⟩ := deliver_of_fault (ev := interruptEvent 2#8 (revived s)) hpe hp hback h
  rw [inShutdown_fails hn hb hrun]
  cases c <;> rfl

end

end

/-- Settles O51: RESET, shutdown, the trap, NMI, INTR and a halted processor, each before the next. -/
theorem boundaryEvents : Obligations.BoundaryEvents := by
  unfold Obligations.BoundaryEvents
  refine fun s => ⟨fun hr => if_pos hr, fun hr h => ⟨fun hs hn => ?stays, fun hs hn hb => ⟨fun hd => ?real, ?handler, ?fault⟩,
    fun hs => ⟨fun ht => ?trap, fun ht hn => ?nmi, fun v ht hn hi => ?intr, fun ht hn hi hh => ?halted⟩⟩⟩
  case stays => exact (step_shutdown hr h hs).trans (inShutdown_stays hn)
  case real => exact (step_shutdown hr h hs).trans (inShutdown_real hn hb hd)
  case handler =>
    intro c t stored hm hp hv hg hpr hc henters
    exact (step_shutdown hr h hs).trans (inShutdown_handler hn hb hm hp hv hg hpr hc henters)
  case fault =>
    intro e u hm hp hf
    exact (step_shutdown hr h hs).trans (inShutdown_fault hn hb hm hp hf)
  case trap =>
    have hstep := (step_event hr h hs).trans (boundaryEvent_trap ht)
    exact ⟨hstep, fun hd => hstep.trans (deliveryReal { s with dr6 := s.dr6 ||| 0x4000#32, trapPending := false } 1#8 hd).2.1⟩
  case nmi =>
    have hstep := (step_event hr h hs).trans (boundaryEvent_nmi ht hn)
    exact ⟨hstep, fun hd => hstep.trans (deliveryReal (acceptNmi s) 2#8 hd).2.1⟩
  case intr =>
    have hstep := (step_event hr h hs).trans <| (boundaryEvent_maskable ht hn).trans (maskable_intr hi)
    exact ⟨hstep, fun hd => hstep.trans (deliveryReal s v hd).2.1⟩
  case halted =>
    exact (step_event hr h hs).trans <| (boundaryEvent_maskable ht hn).trans <| (maskable_none hi).trans (if_pos hh)

end Sys2Proof.Machine
end

section
/-! PROOFS. A step runs the decoded instruction (60_exceptions.md R520 step 7, 30_encoding.md R120 to R124). -/

namespace Sys2Proof.Machine

open Sys2Proof.Claims

/-! ## Fetching, paging off -/

/-- With nothing overtaken in the queue the byte in memory is read. -/
theorem queuedByte_run {s : State} (hq : s.queue.stale = []) (lin : Dword) (a : Nat) : queuedByte lin a s = .ok (s.byte a, s) := by
  simp [queuedByte, hq]

theorem fetchByte_run {s : State} (hp : s.cr0.pg = false) (hq : s.queue.stale = []) {i : Nat}
    (h : s.cs.holds (s.eip.toNat + i) 1 = true) :
    fetchByte i s = .ok (s.byte (s.cs.base + s.eip + BitVec.ofNat 32 i).toNat, s) := by
  have hlin : s.linear .cs (s.eip + BitVec.ofNat 32 i) = s.cs.base + s.eip + BitVec.ofNat 32 i := (BitVec.add_assoc ..).symm
  refine (bind_passes (M.get_run s)).trans <| (congrFun (if_pos h) s).trans ?_
  rw [hlin, bind_passes (translate_off hp _ _ _), queuedByte_run hq]

/-- A byte beyond the limit is not fetched. -/
theorem fetchByte_raises {s : State} {i : Nat} (h : ¬ s.cs.holds (s.eip.toNat + i) 1 = true) :
    fetchByte i s = .error (.exc (excGP 0#16) s false) :=
  (bind_passes (M.get_run s)).trans (congrFun (if_neg h) s)

/-- Fetching changes nothing. -/
theorem fetchBytes_same {s : State} (hp : s.cr0.pg = false) (hq : s.queue.stale = []) (n i : Nat) :
    ∀ x ∈ (fetchBytes n i s).1, x.2 = s := by
  induction n generalizing i with
  | zero => simp [fetchBytes]
  | succ n ih =>
    rw [fetchBytes]
    by_cases h : s.cs.holds (s.eip.toNat + i) 1 = true
    · simp only [fetchByte_run hp hq h, List.forall_mem_cons, true_and]
      exact ih (i + 1)
    · simp [fetchByte_raises h]

/-- The bytes fetched begin with those that can be fetched one by one. -/
theorem fetchBytes_code {s : State} (code : List Byte) {n i : Nat} (hn : code.length ≤ n)
    (hcode : ∀ k, (h : k < code.length) → fetchByte (i + k) s = .ok (code[k], s)) :
    ∃ rest, (fetchBytes n i s).1.map (·.1) = code ++ rest := by
  induction code generalizing n i with
  | nil => exact ⟨_, rfl⟩
  | cons b code ih =>
    obtain ⟨n, rfl⟩ : ∃ m, n = m + 1 := ⟨n - 1, by simp at hn; omega⟩
    have hfirst : fetchByte i s = .ok (b, s) := hcode 0 (Nat.succ_pos _)
    obtain ⟨rest, hrest⟩ := ih (n := n) (i := i + 1) (by simpa using hn) fun k hk => by
      rw [Nat.add_assoc, Nat.add_comm 1 k]
      exact hcode (k + 1) (Nat.succ_lt_succ hk)
    refine ⟨rest, ?_⟩
    rw [fetchBytes, hfirst]
    simp only [List.map_cons, hrest, List.cons_append]

/-! ## Sizes -/

/-- The code segment's size, or the other one where the size is toggled. -/
theorem sizeUnder_eq (s : State) (toggled : Bool) : sizeUnder s toggled = if toggled then s.codeSize.other else s.codeSize := by
  by_cases h : s.mode = .prot ∧ s.cs.db = true
  · have hd : (decide (s.mode = .prot) && s.cs.db) = true := by simpa using h
    rw [sizeUnder, State.codeSize, hd, if_pos h]
    cases toggled <;> rfl
  · have hd : (decide (s.mode = .prot) && s.cs.db) = false := by simpa using h
    rw [sizeUnder, State.codeSize, hd, if_neg h]
    cases toggled <;> rfl

theorem os_prefixed (s : State) (p : Prefixes) : { s with pfx := p }.os = sizeUnder s p.osz := (sizeUnder_eq s p.osz).symm
theorem as_prefixed (s : State) (p : Prefixes) : { s with pfx := p }.as = sizeUnder s p.asz := (sizeUnder_eq s p.asz).symm

/-! ## Prefixes and their instruction -/

theorem isPrefix_of_withPrefix {p p' : Prefixes} {q : Instr} (h : withPrefix p q = some p') : isPrefix q = true := by
  cases q
  case lockPrefix | repnePrefix | repPrefix | esPrefix | csPrefix | ssPrefix | dsPrefix | fsPrefix | gsPrefix |
      operandSizePrefix | addressSizePrefix => rfl
  all_goals cases h

/-- Each of the prefixes is one byte, well formed under any sizes. -/
theorem encoded_of_isPrefix {q : Instr} (h : isPrefix q = true) (os as : Sz) : q.wf os as = true ∧ (encode q).length = 1 := by
  cases q
  case lockPrefix | repnePrefix | repPrefix | esPrefix | csPrefix | ssPrefix | dsPrefix | fsPrefix | gsPrefix |
      operandSizePrefix | addressSizePrefix => exact ⟨rfl, rfl⟩
  all_goals exact absurd h Bool.false_ne_true

section
variable {s : State} {stop : Stop} {fuel n : Nat} {p : Prefixes} {bs : List (Byte × State)} {i : Instr} {rest : List Byte}
  (hd : decodeOne (sizeUnder s p.osz) (sizeUnder s p.asz) (bs.map (·.1)) = .ok (i, rest))
include hd

theorem runFrom_prefix {p' : Prefixes} (hw : withPrefix p i = some p') : runFrom s stop (fuel + 1) p bs n =
    runFrom s stop fuel p' (bs.drop (bs.length - rest.length)) (n + (bs.length - rest.length)) := by
  have hi := isPrefix_of_withPrefix hw
  have hexec : exec i { s with pfx := p } = .next { s with pfx := p' } := by
    rw [exec_prefix hi, hw]
    rfl
  rw [← os_prefixed, ← as_prefixed] at hd
  rw [runFrom]
  simp only [hd, hi, if_true, hexec]

theorem runFrom_instr (hi : isPrefix i = false) : runFrom s stop (fuel + 1) p bs n =
    runDecoded i (atInstr s p bs (bs.length - rest.length) (n + (bs.length - rest.length))) := by
  rw [← os_prefixed, ← as_prefixed] at hd
  rw [runFrom]
  simp only [hd, hi, Bool.false_eq_true, if_false]

end

/-- Where fetching changed nothing, the instruction runs in the state of the boundary. -/
theorem atInstr_same {s : State} {bs : List (Byte × State)} (hbs : ∀ x ∈ bs, x.2 = s) (p : Prefixes) (used n : Nat) :
    atInstr s p bs used n = { s with pfx := p, next := s.nextOffset n } := by
  have hstate : ((bs.drop (used - 1)).head?.map (·.2)).getD s = s := by
    cases h : bs.drop (used - 1) with
    | nil => rfl
    | cons x xs => exact hbs x (List.mem_of_mem_drop (h ▸ List.mem_cons_self))
  rw [atInstr, hstate]

/-- The bytes of an instruction and of what follows leave those of what follows. -/
theorem length_sub_of_map {bs : List (Byte × State)} {code rest : List Byte} (h : bs.map (·.1) = code ++ rest) :
    bs.length - rest.length = code.length := by
  have hlen := congrArg List.length h
  rw [List.length_map, List.length_append] at hlen
  omega

/-- Prefixes that do not conflict are recorded one after the other, and then the instruction runs. -/
theorem runFrom_encoded {s : State} {stop : Stop} {i : Instr} {p' : Prefixes} (hi : isPrefix i = false)
    (hwf : i.wf (sizeUnder s p'.osz) (sizeUnder s p'.asz) = true) (ps : List Instr) {p : Prefixes}
    (hps : withPrefixes p ps = some p') {fuel n : Nat} (hfuel : ps.length < fuel) {bs : List (Byte × State)}
    (hbs : ∀ x ∈ bs, x.2 = s) {rest : List Byte} (hcode : bs.map (·.1) = ps.flatMap encode ++ encode i ++ rest) :
    runFrom s stop fuel p bs n = runDecoded i
      { s with pfx := p', next := s.nextOffset (n + (ps.flatMap encode ++ encode i).length) } := by
  obtain ⟨fuel, rfl⟩ : ∃ m, fuel = m + 1 := ⟨fuel - 1, by omega⟩
  induction ps generalizing p n bs fuel with
  | nil =>
    obtain rfl : p = p' := Option.some.inj hps
    have hd := roundTrip (sizeUnder s p.osz) (sizeUnder s p.asz) i rest hwf
    rw [runFrom_instr (hcode ▸ hd) hi, length_sub_of_map hcode, atInstr_same hbs]
  | cons q qs ih =>
    obtain ⟨p1, hq, hqs⟩ := Option.bind_eq_some_iff.1 hps
    obtain ⟨hwfq, -⟩ := encoded_of_isPrefix (isPrefix_of_withPrefix hq) (sizeUnder s p.osz) (sizeUnder s p.asz)
    have hcode : bs.map (·.1) = encode q ++ (qs.flatMap encode ++ encode i ++ rest) := by
      rw [hcode, List.flatMap_cons]
      simp only [List.append_assoc]
    have hd := roundTrip (sizeUnder s p.osz) (sizeUnder s p.asz) q (qs.flatMap encode ++ encode i ++ rest) hwfq
    rw [runFrom_prefix (hcode ▸ hd) hq, length_sub_of_map hcode]
    obtain ⟨fuel, rfl⟩ : ∃ m, fuel = m + 1 := ⟨fuel - 1, by simp at hfuel; omega⟩
    have hdrop : (bs.drop (encode q).length).map (·.1) = qs.flatMap encode ++ encode i ++ rest := by
      rw [List.map_drop, hcode, List.drop_left]
    rw [ih hqs (n := n + (encode q).length) (fun x hx => hbs x (List.mem_of_mem_drop hx)) hdrop fuel (by simpa using hfuel)]
    simp only [List.flatMap_cons, List.length_append, Nat.add_assoc]

/-- There are no more prefixes than bytes. -/
theorem length_le_of_withPrefixes {ps : List Instr} {p p' : Prefixes} (h : withPrefixes p ps = some p') :
    ps.length ≤ (ps.flatMap encode).length := by
  induction ps generalizing p with
  | nil => exact Nat.le_refl 0
  | cons q qs ih =>
    obtain ⟨p1, hq, hqs⟩ := Option.bind_eq_some_iff.1 h
    obtain ⟨-, hone⟩ := encoded_of_isPrefix (isPrefix_of_withPrefix hq) .s16 .s16
    have hrest := ih hqs
    rw [List.flatMap_cons, List.length_append, List.length_cons]
    omega

/-- The instruction that stands at CS:EIP behind its prefixes runs with them recorded and `next` past its last byte. -/
theorem runInstruction_encoded {s : State} {ps : List Instr} {i : Instr} {p : Prefixes} (hi : isPrefix i = false)
    (hwf : i.wf (sizeUnder s p.osz) (sizeUnder s p.asz) = true) (hps : withPrefixes Prefixes.none ps = some p)
    (hcode : CodeAt s (ps.flatMap encode ++ encode i)) :
    runInstruction s = runDecoded i { s with pfx := p, next := s.nextOffset (ps.flatMap encode ++ encode i).length } := by
  obtain ⟨hp, hq, hlen, hbytes⟩ := hcode
  have hcount := length_le_of_withPrefixes hps
  have hfuel : ps.length < Config.maxInstrLength + 1 := by
    rw [List.length_append] at hlen
    exact Nat.lt_succ_of_le (Nat.le_trans hcount (Nat.le_trans (Nat.le_add_right _ _) hlen))
  obtain ⟨rest, hmap⟩ := fetchBytes_code (s := s) (ps.flatMap encode ++ encode i) (n := Config.maxInstrLength) (i := 0) hlen
    fun k hk => by
      obtain ⟨hholds, hb⟩ := hbytes k hk
      rw [Nat.zero_add, fetchByte_run hp hq hholds, hb]
  rw [runInstruction, runFrom_encoded hi hwf ps hps hfuel (fetchBytes_same hp hq _ _) hmap, Nat.zero_add]

/-- Settles O52: the bytes at CS:EIP are fetched unchanged, and all prefixes and the instruction decoded from their encodings. -/
theorem stepRunsDecoded : Obligations.StepRunsDecoded := by
  unfold Obligations.StepRunsDecoded
  intro s ps i p hquiet hps hi hwf hcode hjump
  have hcode : CodeAt { s with trapPending := false } (ps.flatMap encode ++ encode i) := hcode
  have hgo : ¬ (s.queue.jumpNeeded && !isJump i) = true := by simpa using hjump
  have hsize : sizeUnder s false = s.codeSize := sizeUnder_eq s false
  have hrun := runInstruction_encoded (s := { s with trapPending := false }) hi hwf hps hcode
  rw [step_quiet hquiet, hrun, hsize]
  exact if_neg hgo

end Sys2Proof.Machine
end
